-- ==== Sys2Proof/Word.lean ====
section
/-! DEFINITION. The byte and check words of the plant link. -/

namespace Sys2Proof

/-- One byte on the plant link (R172, R173). -/
abbrev Byte := BitVec 8

/-- The 16-bit check register of a plant-link frame (R174). -/
abbrev Crc := BitVec 16

end Sys2Proof
end

