-- ==== Sys2Proof/Syntax.lean ====
section
/-! DEFINITION. The commands of the KZ-2: one constructor of `Instr` per row of spec/opcode_table.json.

A row that is a request of the plant computer (R180) carries the values of its payload fields as they stand
in the frame, unchecked: a hoist byte of 2 or a zone number of 13 is a legal operand here and its owner
refuses it RANGE (R176).  A row that is an event carries what the outside supplies: the station, the return
code and the report of a field answer, the straps and the key at supply-on, a byte on the link. -/

namespace Sys2Proof

/-- The two hoists, A left of B (R6). -/
inductive Hoist where
  | A | B
deriving DecidableEq, Repr

/-- The seven field stations, in station order (R154, R161). -/
inductive Station where
  | driveA | driveB | scaleA | scaleB | skimmer | thermo | level
deriving DecidableEq, Repr

/-- One channel record of a THERMO answer: the reading in tenths of a degree and the channel code (R76). -/
structure Channel where
  reading : Int
  code : Nat
deriving DecidableEq, Repr

/-- What a readable answer to a poll reports (R154).  The answer to a command reports only its code. -/
inductive FieldReport where
  /-- nothing but the return code -/
  | codeOnly
  /-- DRIVE-A, DRIVE-B: lift position, travel position, whether the drive is at rest -/
  | drive (lift travel : Int) (atRest : Bool)
  /-- SCALE-A, SCALE-B: one reading in counts -/
  | scale (reading : Int)
  /-- SKIMMER: at rest, or running -/
  | skimmer (atRest : Bool)
  /-- THERMO: four channel records -/
  | thermo (c1 c2 c3 c4 : Channel)
  /-- LEVEL: the distance from the gauge datum to the surface, mm -/
  | level (distance : Int)
deriving DecidableEq, Repr

/-- The steps of the KZ-2, one constructor per row of the table, in the table's order. -/
inductive Instr where
  -- requests of the plant computer (R180)
  | identify
  | readStatus (part : Nat)
  | setClock (value : Nat)
  | restart
  | writeSetting (id : Nat) (value : Int)
  | readSetting (id : Nat)
  /-- table 0 section, 1 silicon; for the silicon table M_si stands in the first field place (R179) -/
  | writeClass (table number f1 f2 f3 f4 f5 f6 : Nat)
  | readClass (table number : Nat)
  | lockCalibration
  /-- the reference is the characters of the text; a list longer than 16 stands for a length byte above 16 -/
  | openOrder (number : Nat) (reference : List Nat)
  | closeOrder (number : Nat)
  | readOrder (number : Nat)
  | removeOrder (number : Nat)
  | registerLoad (id order jig sect silicon thick zones : Nat) (hang height : Int) (declared : Option Nat)
  | readLoad (id : Nat)
  | removeLoad (id : Nat)
  | addJig (jig base allowance : Nat)
  | readJig (jig : Nat)
  | stripJig (jig : Nat) (newBase : Option Nat)
  | removeJig (jig : Nat)
  | present (hoist load : Nat)
  | hold (hoist : Nat)
  | resume (hoist : Nat)
  | jog (hoist : Nat) (delta : Int)
  | cancel (hoist : Nat)
  | acceptUnweighed (hoist : Nat)
  | finishUnweighed (hoist : Nat)
  | enableHoist (hoist : Nat)
  | disableHoist (hoist : Nat)
  /-- state 0 IN_SERVICE, 1 OUT_OF_SERVICE -/
  | setZoneService (zone state : Nat)
  | claimZones (number first last : Nat)
  | releaseZones (number : Nat)
  | readZones
  | restoreSkimmer
  | chargeZinc (weight : Nat)
  | reportDross (weight : Nat)
  | reportAsh (weight : Nat)
  /-- the rebase choice: 0 no, 1 yes -/
  | reconcile (rebase : Nat)
  | readBalance
  | closePeriod
  | readPeriod (number : Nat)
  | discardPeriod (number : Nat)
  | fetchNotice
  | setNoticeMask (fault progress : Nat)
  | readFault
  | ackFault
  /-- the clear choice: 0 no, 1 yes -/
  | readFieldStatus (clear : Nat)
  -- events on the plant link
  | unknownKindRequest (kind tag : Nat)
  | frameDiscarded
  | frameGapTimeout
  | replySent
  -- supply, reset input, clock
  /-- the baud strap (true 115,200), the single-line strap (true fitted), the calibration key (true asserted) -/
  | supplyOn (fastBaud singleLine key : Bool)
  | resetInputAsserted
  | resetInputReleased
  | plantClockAdvance
  -- hold buttons and the sequencers' own timing
  | holdButtonPress (h : Hoist)
  | holdButtonRelease (h : Hoist)
  | holdButton4sMark (h : Hoist)
  | motionOverdue (h : Hoist)
  | skimLeadReached (h : Hoist)
  | immersionCountdownZero (h : Hoist)
  | skimWaitExpired (h : Hoist)
  | overdipLimitExceeded (h : Hoist)
  | vibrateEnd (h : Hoist)
  | drainEnd (h : Hoist)
  | recoveryTimeout (h : Hoist)
  | weighInTimeout (h : Hoist)
  | weighOutTimeout (h : Hoist)
  | gateTrialTick (h : Hoist)
  | windowEntryExpiry
  | kettleQuiet
  | reconcileTimeout
  -- the field line
  | fieldPollDue (st : Station)
  | fieldRetryDue (st : Station)
  | fieldNoAnswer (st : Station)
  | fieldAnswerReceived (st : Station) (code : Nat) (report : FieldReport)
  -- bytes on the plant link, loss of supply
  | frameByteReceived (b : Byte)
  /-- `cutOff`: a write of the retained store was cut off, so that the next check fails (R194) -/
  | supplyLost (cutOff : Bool)
deriving DecidableEq, Repr

end Sys2Proof
end

