-- ==== Sys2Proof/Decode.lean ====
section
/-! DEFINITION. What the bytes of a plant-link request spell (R173, R176, R179, R180): the numbers of a payload, the
interface's checks of its form, and the request it stands for; and the payload of a request.  The table gives its rows
no bits, so `decodeTableWord` spells none (log entry 13). -/

namespace Sys2Proof

/-- The table gives no row any bits. -/
def decodeTableWord (_nbits _w : Nat) : Option Instr := none

/-! ## Numbers in a payload (R173, R179) -/

/-- An unsigned number, least significant byte first. -/
def leNat : List Byte → Nat
  | [] => 0
  | b :: bs => b.toNat + 256 * leNat bs

/-- The bytes of an unsigned number, least significant first. -/
def natBytes : Nat → Nat → List Byte
  | 0, _ => []
  | n + 1, v => BitVec.ofNat 8 v :: natBytes n (v / 256)

/-- A number of four bytes read as two's complement. -/
def signed32 (v : Nat) : Int := if v < 2147483648 then (v : Int) else (v : Int) - 4294967296

/-- The four bytes of a number in two's complement. -/
def intBytes (v : Int) : List Byte := natBytes 4 (v % 4294967296).toNat

/-- The field of a payload at an offset, with a length. -/
def field (p : List Byte) (off len : Nat) : Nat := leNat ((p.drop off).take len)

/-- A signed field of four bytes. -/
def field32 (p : List Byte) (off : Nat) : Int := signed32 (field p off 4)

/-- A run of bytes is zero. -/
def zeroRun (p : List Byte) (off len : Nat) : Bool := ((p.drop off).take len).all (fun b => decide (b = 0#8))

/-! ## The request index (R180) -/

/-- The payload length of a kind; absent for a kind that is none of the index (R180). -/
def payloadLength : Nat → Option Nat
  | 0x01 => some 0
  | 0x02 => some 1
  | 0x03 => some 4
  | 0x04 => some 0
  | 0x08 => some 6
  | 0x09 => some 2
  | 0x0A => some 14
  | 0x0B => some 2
  | 0x0C => some 0
  | 0x10 => some 21
  | 0x11 => some 4
  | 0x12 => some 4
  | 0x13 => some 4
  | 0x14 => some 25
  | 0x15 => some 2
  | 0x16 => some 2
  | 0x18 => some 9
  | 0x19 => some 1
  | 0x1A => some 6
  | 0x1B => some 1
  | 0x20 => some 3
  | 0x21 => some 1
  | 0x22 => some 1
  | 0x23 => some 5
  | 0x24 => some 1
  | 0x25 => some 1
  | 0x26 => some 1
  | 0x27 => some 1
  | 0x28 => some 1
  | 0x30 => some 2
  | 0x31 => some 3
  | 0x32 => some 1
  | 0x33 => some 0
  | 0x34 => some 0
  | 0x38 => some 4
  | 0x39 => some 4
  | 0x3A => some 4
  | 0x3B => some 1
  | 0x3C => some 0
  | 0x3D => some 0
  | 0x3E => some 2
  | 0x3F => some 2
  | 0x40 => some 0
  | 0x41 => some 2
  | 0x42 => some 0
  | 0x43 => some 0
  | 0x44 => some 1
  | _ => none

/-- Every presence byte of the payload is 0 or 1 (R176): the declared weight of REGISTER_LOAD and the new base tare of
STRIP_JIG (R180). -/
def presenceOk (kind : Nat) (p : List Byte) : Bool :=
  match kind with
  | 0x14 => decide (field p 20 1 ≤ 1)
  | 0x1A => decide (field p 1 1 ≤ 1)
  | _ => true

/-- Every reserved byte of the payload is 0 (R176): the value bytes of an absent field, the places of WRITE_CLASS that
the silicon table leaves unused, and the places of a text beyond its length (R179). -/
def reservedOk (kind : Nat) (p : List Byte) : Bool :=
  match kind with
  | 0x0A => decide (field p 0 1 ≠ 1) || zeroRun p 4 10
  | 0x10 => decide (16 < field p 4 1) || zeroRun p (5 + field p 4 1) (16 - field p 4 1)
  | 0x14 => decide (field p 20 1 ≠ 0) || zeroRun p 21 4
  | 0x1A => decide (field p 1 1 ≠ 0) || zeroRun p 2 4
  | _ => true

/-- The characters of a text at an offset: as many as its length byte says (a length above 16 gives a list of that
length, which the owner refuses). -/
def textField (p : List Byte) (off : Nat) : List Nat :=
  let n := field p off 1
  ((p.drop (off + 1)).take (min n 16)).map BitVec.toNat ++ List.replicate (n - 16) 0

/-- An optional field of four bytes behind its presence byte. -/
def optField (p : List Byte) (off : Nat) : Option Nat := if field p off 1 = 0 then none else some (field p (off + 1) 4)

/-- The request that a kind and a payload of the right form stand for (R180). -/
def readRequest (kind : Nat) (p : List Byte) : Option Instr :=
  match kind with
  | 0x01 => some .identify
  | 0x02 => some (.readStatus (field p 0 1))
  | 0x03 => some (.setClock (field p 0 4))
  | 0x04 => some .restart
  | 0x08 => some (.writeSetting (field p 0 2) (field32 p 2))
  | 0x09 => some (.readSetting (field p 0 2))
  | 0x0A =>
    some (.writeClass (field p 0 1) (field p 1 1) (field p 2 2) (field p 4 2) (field p 6 2) (field p 8 2)
      (field p 10 2) (field p 12 2))
  | 0x0B => some (.readClass (field p 0 1) (field p 1 1))
  | 0x0C => some .lockCalibration
  | 0x10 => some (.openOrder (field p 0 4) (textField p 4))
  | 0x11 => some (.closeOrder (field p 0 4))
  | 0x12 => some (.readOrder (field p 0 4))
  | 0x13 => some (.removeOrder (field p 0 4))
  | 0x14 =>
    some (.registerLoad (field p 0 2) (field p 2 4) (field p 6 1) (field p 7 1) (field p 8 1) (field p 9 2)
      (field p 11 1) (field32 p 12) (field32 p 16) (optField p 20))
  | 0x15 => some (.readLoad (field p 0 2))
  | 0x16 => some (.removeLoad (field p 0 2))
  | 0x18 => some (.addJig (field p 0 1) (field p 1 4) (field p 5 4))
  | 0x19 => some (.readJig (field p 0 1))
  | 0x1A => some (.stripJig (field p 0 1) (optField p 1))
  | 0x1B => some (.removeJig (field p 0 1))
  | 0x20 => some (.present (field p 0 1) (field p 1 2))
  | 0x21 => some (.hold (field p 0 1))
  | 0x22 => some (.resume (field p 0 1))
  | 0x23 => some (.jog (field p 0 1) (field32 p 1))
  | 0x24 => some (.cancel (field p 0 1))
  | 0x25 => some (.acceptUnweighed (field p 0 1))
  | 0x26 => some (.finishUnweighed (field p 0 1))
  | 0x27 => some (.enableHoist (field p 0 1))
  | 0x28 => some (.disableHoist (field p 0 1))
  | 0x30 => some (.setZoneService (field p 0 1) (field p 1 1))
  | 0x31 => some (.claimZones (field p 0 1) (field p 1 1) (field p 2 1))
  | 0x32 => some (.releaseZones (field p 0 1))
  | 0x33 => some .readZones
  | 0x34 => some .restoreSkimmer
  | 0x38 => some (.chargeZinc (field p 0 4))
  | 0x39 => some (.reportDross (field p 0 4))
  | 0x3A => some (.reportAsh (field p 0 4))
  | 0x3B => some (.reconcile (field p 0 1))
  | 0x3C => some .readBalance
  | 0x3D => some .closePeriod
  | 0x3E => some (.readPeriod (field p 0 2))
  | 0x3F => some (.discardPeriod (field p 0 2))
  | 0x40 => some .fetchNotice
  | 0x41 => some (.setNoticeMask (field p 0 1) (field p 1 1))
  | 0x42 => some .readFault
  | 0x43 => some .ackFault
  | 0x44 => some (.readFieldStatus (field p 0 1))
  | _ => none

/-- What the interface finds in a request in hand (R176). -/
inductive FormCheck where
  | unknownKind | format | request (i : Instr)
deriving DecidableEq, Repr

/-- The checks of R176, in their order. -/
def checkForm (kind : Nat) (p : List Byte) : FormCheck :=
  match payloadLength kind, readRequest kind p with
  | some n, some i =>
    if p.length = n ∧ presenceOk kind p = true ∧ reservedOk kind p = true then .request i else .format
  | _, _ => .unknownKind

/-! ## The payload of a request (R179, R180) -/

/-- A text: its length byte, its characters, and zeros in the places beyond (R179). -/
def textBytes (r : List Nat) : List Byte :=
  BitVec.ofNat 8 r.length :: (r.map (BitVec.ofNat 8) ++ List.replicate (16 - r.length) 0#8)

/-- An optional field of four bytes behind its presence byte (R179). -/
def optBytes : Option Nat → List Byte
  | none => List.replicate 5 0#8
  | some v => 1#8 :: natBytes 4 v

/-- One byte. -/
def byteOf (v : Nat) : List Byte := natBytes 1 v

/-- The kind and the payload of a request (R180); an event has none. -/
def encodeRequest : Instr → Option (Nat × List Byte)
  | .identify => some (0x01, [])
  | .readStatus part => some (0x02, byteOf part)
  | .setClock v => some (0x03, natBytes 4 v)
  | .restart => some (0x04, [])
  | .writeSetting id v => some (0x08, natBytes 2 id ++ intBytes v)
  | .readSetting id => some (0x09, natBytes 2 id)
  | .writeClass t n f1 f2 f3 f4 f5 f6 =>
    some (0x0A, byteOf t ++ byteOf n ++ natBytes 2 f1 ++ natBytes 2 f2 ++ natBytes 2 f3 ++ natBytes 2 f4 ++
      natBytes 2 f5 ++ natBytes 2 f6)
  | .readClass t n => some (0x0B, byteOf t ++ byteOf n)
  | .lockCalibration => some (0x0C, [])
  | .openOrder n r => some (0x10, natBytes 4 n ++ textBytes r)
  | .closeOrder n => some (0x11, natBytes 4 n)
  | .readOrder n => some (0x12, natBytes 4 n)
  | .removeOrder n => some (0x13, natBytes 4 n)
  | .registerLoad id order jig sect silicon thick zones hang height declared =>
    some (0x14, natBytes 2 id ++ natBytes 4 order ++ byteOf jig ++ byteOf sect ++ byteOf silicon ++ natBytes 2 thick ++
      byteOf zones ++ intBytes hang ++ intBytes height ++ optBytes declared)
  | .readLoad id => some (0x15, natBytes 2 id)
  | .removeLoad id => some (0x16, natBytes 2 id)
  | .addJig j b a => some (0x18, byteOf j ++ natBytes 4 b ++ natBytes 4 a)
  | .readJig j => some (0x19, byteOf j)
  | .stripJig j b => some (0x1A, byteOf j ++ optBytes b)
  | .removeJig j => some (0x1B, byteOf j)
  | .present h l => some (0x20, byteOf h ++ natBytes 2 l)
  | .hold h => some (0x21, byteOf h)
  | .resume h => some (0x22, byteOf h)
  | .jog h d => some (0x23, byteOf h ++ intBytes d)
  | .cancel h => some (0x24, byteOf h)
  | .acceptUnweighed h => some (0x25, byteOf h)
  | .finishUnweighed h => some (0x26, byteOf h)
  | .enableHoist h => some (0x27, byteOf h)
  | .disableHoist h => some (0x28, byteOf h)
  | .setZoneService z st => some (0x30, byteOf z ++ byteOf st)
  | .claimZones n f l => some (0x31, byteOf n ++ byteOf f ++ byteOf l)
  | .releaseZones n => some (0x32, byteOf n)
  | .readZones => some (0x33, [])
  | .restoreSkimmer => some (0x34, [])
  | .chargeZinc w => some (0x38, natBytes 4 w)
  | .reportDross w => some (0x39, natBytes 4 w)
  | .reportAsh w => some (0x3A, natBytes 4 w)
  | .reconcile r => some (0x3B, byteOf r)
  | .readBalance => some (0x3C, [])
  | .closePeriod => some (0x3D, [])
  | .readPeriod n => some (0x3E, natBytes 2 n)
  | .discardPeriod n => some (0x3F, natBytes 2 n)
  | .fetchNotice => some (0x40, [])
  | .setNoticeMask f p => some (0x41, byteOf f ++ byteOf p)
  | .readFault => some (0x42, [])
  | .ackFault => some (0x43, [])
  | .readFieldStatus c => some (0x44, byteOf c)
  | .unknownKindRequest _ _ | .frameDiscarded | .frameGapTimeout | .replySent | .supplyOn _ _ _
  | .resetInputAsserted | .resetInputReleased | .plantClockAdvance | .holdButtonPress _ | .holdButtonRelease _
  | .holdButton4sMark _ | .motionOverdue _ | .skimLeadReached _ | .immersionCountdownZero _ | .skimWaitExpired _
  | .overdipLimitExceeded _ | .vibrateEnd _ | .drainEnd _ | .recoveryTimeout _ | .weighInTimeout _
  | .weighOutTimeout _ | .gateTrialTick _ | .windowEntryExpiry | .kettleQuiet | .reconcileTimeout
  | .fieldPollDue _ | .fieldRetryDue _ | .fieldNoAnswer _ | .fieldAnswerReceived _ _ _ | .frameByteReceived _
  | .supplyLost _ => none

end Sys2Proof
end

