-- ==== Sys2Proof/Config.lean ====
section
/-! DEFINITION. What the manual leaves open (free values, with no body: nothing can prove a value of one) and
the module's fixed capacities. -/

namespace Sys2Proof.Config

/-- FREE VALUE (log entry 6). Which hoist's load the gate tries first when one event brings a trial to both
waiting loads: R89 says "taken in either order".  True is A.  The argument is `State.free`. -/
opaque trialAFirst : Nat → Bool

/-- FREE VALUE (log entry 7). The two bytes that READ_STATUS part 3 carries for a channel of which the latest
poll gave no reading (no answer that can be read, or no poll since the reset): R196 names the reading and
states no value for one that does not exist.  The argument is the channel's place, 0 to 3. -/
opaque absentChannelReading : Nat → Int

/-- Rooms of the tables and queues (R49, R87, R112, R150, R183). -/
def orderRoom : Nat := 32
def loadRoom : Nat := 48
def jigRoom : Nat := 64
def noticeRoom : Nat := 32
def periodRoom : Nat := 4
def windowRoom : Nat := 64

/-- The skim stale limit, seconds (R15). -/
def skimStale : Nat := 60

/-- The plant clock counts modulo this (R187). -/
def clockModulus : Nat := 4294967296

/-- FREE VALUE (log entry 24): whether a reset or the loss of supply that waits comes within a start-up, and after which of
its stages, 1 to 7 (R199); the number drawn is one less.  The argument is the count of free choices drawn. -/
opaque nextOvertaken : Nat → Option (Fin 7)

end Sys2Proof.Config
end

