-- ==== Sys2Proof/Machine/State.lean ====
section
/-! DEFINITION. The whole state of the KZ-2, block by block (00_scope.md, "Blocks of the KZ-2"), as plain data,
and the state right after reset.

Weights, times and counts are natural numbers; positions, temperatures, counts of a scale, the book and the
settings are integers.  A time is a reading of the plant clock unless it says seconds, which are counted by the
owning block's own timing (R3, R87, R94, R142). -/

namespace Sys2Proof.Machine

/-! ## Hoist Sequencer (chapter 1) -/

/-- The phases of a hoist, in the order of the phase table (R5 to R6). -/
inductive Phase where
  | idle | weighIn | awaitSpan | travelIn | awaitAdmit | entry | immerse | awaitSkim | withdraw | drain
  | weighOut | travelOut | held | raising | jogging | recover | disabled
deriving DecidableEq, Repr

/-- The two axes of a hoist. -/
inductive Axis where
  | lift | travel
deriving DecidableEq, Repr

/-- The motion in flight (R3, R4, R5).  `elapsed` is the seconds since it was issued. -/
structure Motion where
  axis : Axis
  target : Int
  speed : Int
  issued : Nat
  limit : Nat
  elapsed : Nat
deriving DecidableEq, Repr

/-- The skim state of a hoist (R3). -/
inductive SkimState where
  | none | waiting | done (time : Nat) | missed
deriving DecidableEq, Repr

/-- The causes of a failed admission trial, in the order of R11 and R86. -/
inductive AdmitCause where
  | temperatureUnknown | tooCold | tooHot | depthUnknown | notCovered | throughput
deriving DecidableEq, Repr

/-- The items of R3, the hold button and its timer (R28), the recovery wait (R32), the vibrator output (R19)
and the retained enable state (R31).  "Weigh in progress" of R3 is the state of the hoist's Weigh Engine.
`lateAxis` is the axis of a motion that a drive fault ended when its overdue limit had passed: the overdue that comes
together with the fault may still be taken, until the second has ended (R171, log entry 40). -/
structure Sequencer where
  enabled : Bool
  phase : Phase
  heldPhase : Option Phase
  load : Option Nat
  pImm : Option Int
  pClr : Option Int
  centre : Option Int
  motion : Option Motion
  lift : Option Int
  travel : Option Int
  countdown : Option Nat
  skim : SkimState
  skimWait : Option Nat
  overdip : Option Nat
  overdipRaised : Bool
  vibrate : Option Nat
  drain : Option Nat
  vibratorOn : Bool
  causes : List AdmitCause
  pressed : Bool
  holdTimer : Option Nat
  recoverWait : Option Nat
  lateAxis : Option Axis
deriving DecidableEq, Repr

/-! ## Weigh Engine (chapter 6) -/

inductive WeighKind where
  | weighIn | weighOut
deriving DecidableEq, Repr

inductive RangeFlag where
  | over | under
deriving DecidableEq, Repr

/-- The best window of a weigh (R94, R101). -/
structure BestWindow where
  mean : Int
  spread : Int
  time : Nat
deriving DecidableEq, Repr

/-- The items that belong to a weigh in progress (R94). -/
structure Weigh where
  kind : WeighKind
  size : Nat
  band : Int
  timeout : Nat
  elapsed : Nat
  passed : Bool
  window : List Int
  best : Option BestWindow
  completed : Nat
  bad : Nat
deriving DecidableEq, Repr

/-- The last window record (R94, R99). -/
structure LastWindow where
  kind : WeighKind
  size : Nat
  mean : Int
  spread : Int
  stable : Bool
  weight : Nat
  range : Option RangeFlag
  time : Nat
deriving DecidableEq, Repr

/-- A Weigh Engine: WEIGHING while `weigh` is present, IDLE while it is absent (R94). -/
structure WeighEngine where
  weigh : Option Weigh
  last : Option LastWindow
deriving DecidableEq, Repr

/-! ## Span Arbiter (chapter 3) -/

/-- Owners of spans and claimants, in the order of R60. -/
inductive Owner where
  | hoist (h : Hoist) | maint (number : Nat)
deriving DecidableEq, Repr

/-- A granted span (R47). -/
structure Span where
  owner : Owner
  first : Nat
  last : Nat
  granted : Nat
deriving DecidableEq, Repr

/-- What a claim asks for (R49): a hoist claim a length, a maintenance claim its zones. -/
inductive ClaimNeed where
  | length (n : Nat) | zones (first last : Nat)
deriving DecidableEq, Repr

structure Claim where
  claimant : Owner
  need : ClaimNeed
  joined : Nat
deriving DecidableEq, Repr

/-- `service` holds zone 1 to zone 12, true IN_SERVICE.  The owner of a zone is read from the granted spans. -/
structure SpanArbiter where
  service : List Bool
  spans : List Span
  queue : List Claim
deriving DecidableEq, Repr

/-! ## Skimmer Arbiter (chapter 4) -/

inductive SkimmerMode where
  | idle | sweeping | outOfService
deriving DecidableEq, Repr

/-- The sweep record (R63); hoist and span absent in the start-up record (R73). -/
structure Sweep where
  hoist : Option Hoist
  span : Option (Nat × Nat)
  start : Nat
  abort : Bool
deriving DecidableEq, Repr

/-- A waiting skim request (R64).  Arrival order is kept by the place in the queue. -/
structure SkimRequest where
  hoist : Hoist
  first : Nat
  last : Nat
  due : Nat
deriving DecidableEq, Repr

/-- `outFlag` is the retained out-of-service flag; `pollsBegun` is set when a command of the sweep has ended done
or masked, from when on polls fall due (R65, R160). -/
structure Skimmer where
  mode : SkimmerMode
  sweep : Option Sweep
  queue : List SkimRequest
  outFlag : Bool
  pollsBegun : Bool
deriving DecidableEq, Repr

/-! ## Bath Monitor and Admission Gate (chapter 5) -/

/-- One channel of the latest THERMO poll (R76, R92): its reading, absent where the poll gave none, and validity. -/
structure ChannelView where
  reading : Option Int
  valid : Bool
deriving DecidableEq, Repr

/-- The quiet reading (R82). -/
structure QuietReading where
  depth : Int
  temp : Int
  density : Int
  length : Int
  width : Int
  book : Int
  time : Nat
deriving DecidableEq, Repr

/-- `polled`: a THERMO poll has ended since the last reset (R77).  `quiet`: kettle state QUIET (R80). -/
structure Bath where
  channels : List ChannelView
  temp : Option Int
  polled : Bool
  overArmed : Bool
  quiet : Bool
  settle : Nat
  reading : Option QuietReading
  hEst : Option Int
  levelArmed : Bool
deriving DecidableEq, Repr

/-- An entry of the throughput window (R87). -/
structure WindowEntry where
  weight : Nat
  age : Nat
deriving DecidableEq, Repr

/-! ## Record Store (chapter 7) -/

structure OrderRec where
  number : Nat
  isOpen : Bool
  reference : Option (List Nat)
  opened : Nat
  closed : Option Nat
  blackNet : Nat
  galvNet : Nat
  pickup : Nat
  dipped : Nat
  nonconforming : Nat
  lossSuspect : Nat
  unweighed : Nat
  overflow : Bool
deriving DecidableEq, Repr

inductive LoadState where
  | registered | inCycle | complete
deriving DecidableEq, Repr

/-- The recipe values latched at admission (R43): all present or all absent together. -/
structure Latched where
  theta : Int
  tImm : Nat
  entryTime : Nat
  entrySpeed : Nat
  withdrawSpeed : Nat
  vibrate : Nat
  drain : Nat
deriving DecidableEq, Repr

/-- The ten flags of a load record, in the order of R117. -/
structure LoadFlags where
  thickClamped : Bool
  unweighedIn : Bool
  unweighedOut : Bool
  unsettled : Bool
  skimMissed : Bool
  nonconforming : Bool
  lossSuspect : Bool
  interrupted : Bool
  overRange : Bool
  underRange : Bool
deriving DecidableEq, Repr

/-- A load record (R117). -/
structure LoadRec where
  id : Nat
  order : Nat
  jig : Nat
  sect : Nat
  silicon : Nat
  thick : Nat
  zones : Nat
  hang : Int
  height : Int
  declared : Option Nat
  state : LoadState
  hoist : Option Hoist
  span : Option (Nat × Nat)
  latched : Option Latched
  withdrawTime : Option Nat
  wIn : Option Nat
  wOut : Option Nat
  overdipSeconds : Option Nat
  postingTime : Option Nat
  loadPickup : Option Nat
  jigPickup : Option Nat
  blackNet : Option Nat
  galvNet : Option Nat
  steelLost : Option Nat
  flags : LoadFlags
deriving DecidableEq, Repr

/-- A jig record (R122). -/
structure JigRec where
  number : Nat
  base : Nat
  allowance : Nat
  buildUp : Nat
  dips : Nat
  overflow : Bool
  carriedBy : Option Nat
deriving DecidableEq, Repr

/-- The three tables (R112), each holding at most one record per key. -/
structure Records where
  orders : List OrderRec
  loads : List LoadRec
  jigs : List JigRec
deriving DecidableEq, Repr

/-! ## Balance Unit (chapter 8) -/

/-- A period record (R147); close time and closing book are absent in the open period. -/
structure Period where
  number : Nat
  start : Nat
  openingBook : Int
  charged : Nat
  pickup : Nat
  jigPickup : Nat
  dross : Nat
  ash : Nat
  jigStrip : Nat
  steelLost : Nat
  dips : Nat
  adjustment : Int
  overflow : Bool
  closeTime : Option Nat
  closingBook : Option Int
deriving DecidableEq, Repr

inductive ReconOutcome where
  | done | notQuiet | abandoned
deriving DecidableEq, Repr

/-- The last reconciliation result (R146). -/
structure ReconResult where
  outcome : ReconOutcome
  requested : Nat
  ended : Nat
  rebase : Bool
  book : Option Int
  mass : Option Int
  residual : Option Int
  adjustment : Option Int
deriving DecidableEq, Repr

/-- The pending reconciliation (R142); `waited` is not retained. -/
structure PendingRecon where
  requested : Nat
  rebase : Bool
  waited : Nat
deriving DecidableEq, Repr

structure Balance where
  book : Int
  current : Period
  closed : List Period
  last : Option ReconResult
  pending : Option PendingRecon
deriving DecidableEq, Repr

/-! ## Field Line Master and Fault Capture (chapter 9) -/

/-- The commands of the field line (R154). -/
inductive Command where
  | stop
  | move (axis : Axis) (target speed : Int)
  | sweep (left right : Int)
  | abort
deriving DecidableEq, Repr

inductive TransKind where
  | poll | command (c : Command)
deriving DecidableEq, Repr

/-- Where a transaction in progress stands (R156, R161): an attempt on the line, waiting 100 ms for its retry, or
with its retry due since the instant given. -/
inductive Stage where
  | onLine | awaitRetry | retryDue (due : Nat)
deriving DecidableEq, Repr

/-- A transaction in progress; `attempts` is how many attempts have ended. -/
structure Transaction where
  kind : TransKind
  attempts : Nat
  stage : Stage
deriving DecidableEq, Repr

/-- A command waiting in a station's queue since the instant `due` (R162). -/
structure WaitingCommand where
  cmd : Command
  due : Nat
deriving DecidableEq, Repr

/-- One station at the Field Line Master.  `accum` holds, for the codes 0 to 7, whether the code was seen (R164). -/
structure StationState where
  lastCode : Option Nat
  accum : List Bool
  trans : Option Transaction
  pollDue : Option Nat
  cmds : List WaitingCommand
deriving DecidableEq, Repr

/-- The Field Line Master.  `instant` orders the due times of transactions: it advances by one at the end of every
event, so transactions that one event makes due are due at the same instant.  `thermoSecs` and `levelSecs` are
the seconds since the last due poll of THERMO and, while QUIET, of LEVEL (R160). -/
structure FieldLine where
  driveA : StationState
  driveB : StationState
  scaleA : StationState
  scaleB : StationState
  skimmer : StationState
  thermo : StationState
  level : StationState
  instant : Nat
  thermoSecs : Nat
  levelSecs : Nat
deriving DecidableEq, Repr

inductive FaultCause where
  | station (st : Station) (code : Nat) | motionOverdue
deriving DecidableEq, Repr

/-- The transaction named by a fault record (R167). -/
inductive TransName where
  | poll | move | stop | sweep | abort
deriving DecidableEq, Repr

/-- A full fault record (R167). -/
structure FaultRecord where
  cause : FaultCause
  trans : Option TransName
  hoist : Option Hoist
  load : Option Nat
  phase : Option Phase
  data : Option Int
  time : Nat
deriving DecidableEq, Repr

structure FaultCapture where
  record : Option FaultRecord
  multiple : Bool
deriving DecidableEq, Repr

/-! ## Settings Store (chapters 2 and 11) -/

/-- A section class record (R34). -/
structure SectionClass where
  base : Nat
  perMm : Nat
  entrySpeed : Nat
  withdrawSpeed : Nat
  vibrate : Nat
  drain : Nat
deriving DecidableEq, Repr

/-- `values` holds the settings of ids 1 to 37 in the order of the ids (R190). -/
structure Settings where
  values : List Int
  sections : List SectionClass
  silicons : List Nat
  lock : Bool
deriving DecidableEq, Repr

/-! ## Plant Link Interface (chapter 10) -/

/-- The kinds of notices (R181). -/
inductive NoticeKind where
  | none | fieldFault | emergencyRaise | overdip | lossSuspect | overTemperature | tempUnknown | recoveredInBath
  | skimmerOut | totalSaturated | storeLost | entered | dipPosted | weighUnstable | admitWait | skimMissed
  | levelLow | reconciled | periodClosed | restarted
deriving DecidableEq, Repr

/-- A notice (R181).  Its category belongs to its kind. -/
structure Notice where
  kind : NoticeKind
  time : Nat
  hoist : Option Hoist
  load : Option Nat
  data1 : Option Int
  data2 : Option Int
deriving DecidableEq, Repr

/-- The receiving states (R175). -/
inductive RxState where
  | hunting | receiving | answering
deriving DecidableEq, Repr

/-- The statuses of a reply, in the order of their bytes (R178). -/
inductive Status where
  | ok | format | unknownKind | range | state | busy | full | notFound | exists | locked | disabled | ignored
deriving DecidableEq, Repr

/-- The module part of READ_STATUS (R196, part 4). -/
structure ModuleStatus where
  clock : Nat
  lock : Bool
  lastReset : Nat
  orders : Nat
  loads : Nat
  jigs : Nat
  faultNotices : Nat
  progressNotices : Nat
  overrun : Bool
  maskFault : Bool
  maskProgress : Bool
  lineF : Bool
  lineP : Bool
  reconPending : Bool
  faultFull : Bool
  multiple : Bool
deriving DecidableEq, Repr

/-- The bath part of READ_STATUS (R92, R196, part 3). -/
structure BathStatus where
  channels : List ChannelView
  temp : Option Int
  quiet : Bool
  settle : Nat
  hEst : Option Int
  entries : Nat
  total : Nat
  oldestLeaves : Option Nat
deriving DecidableEq, Repr

/-- One station of READ_FIELD_STATUS (R165). -/
structure StationStatus where
  lastCode : Option Nat
  accum : List Bool
  mask : Int
  polled : Bool
deriving DecidableEq, Repr

/-- What a reply carries after the status OK, as the owning rule names it. -/
inductive ReplyBody where
  | empty
  | identity (fastBaud singleLine : Bool)
  | hoistStatus (q : Sequencer) (e : WeighEngine)
  | skimmerStatus (mode : SkimmerMode) (sweep : Option Sweep) (queue : List SkimRequest)
  | bathStatus (b : BathStatus)
  | moduleStatus (m : ModuleStatus)
  | clockBefore (t : Nat)
  | setting (v : Int)
  | sectionClass (c : SectionClass)
  | siliconClass (m : Nat)
  | order (r : OrderRec) (naming inCycle : Nat)
  | load (r : LoadRec) (perMille : Option Nat)
  | jigMade (made : Bool)
  | jig (r : JigRec) (effectiveTare naming : Nat)
  | spanGranted (first last : Nat)
  | claimWaiting (place : Nat)
  | spanReleased
  | claimWithdrawn
  | zones (zones : List (Bool × Option Owner)) (spans : List Span) (queue : List Claim)
  | book (b : Int)
  | balance (book : Int) (current : Period) (closed : List Nat) (last : Option ReconResult)
      (pending : Option PendingRecon) (reading : Option QuietReading) (mass residual : Option Int)
  | period (p : Period) (book : Option Int)
  | notice (overrun : Bool) (n : Notice)
  | fault (record : Option FaultRecord) (multiple : Bool)
  | fieldStatus (stations : List StationStatus)
deriving DecidableEq, Repr

/-- A reply frame being sent (R177): the reply's kind and tag, its status and record. -/
structure Reply where
  kind : Nat
  tag : Nat
  status : Status
  body : ReplyBody
deriving DecidableEq, Repr

/-- The Plant Link Interface: receive state and buffer, the reply on the line, the straps as read at the last
supply-on, the notice queue with its overrun flag, the masks (true masked), the lines (true asserted), the clock. -/
structure Link where
  rx : RxState
  buffer : List Byte
  reply : Option Reply
  fastBaud : Bool
  singleLine : Bool
  notices : List Notice
  overrun : Bool
  maskFault : Bool
  maskProgress : Bool
  lineF : Bool
  lineP : Bool
  clock : Nat
deriving DecidableEq, Repr

/-! ## The module -/

/-- The kinds of resets, numbered as R182. -/
inductive ResetKind where
  | supply | restart | input
deriving DecidableEq, Repr

/-- The module as a whole: supply on, the debounced reset input asserted and so the module in reset (R197), the
reply of a RESTART not yet sent, the stage that a start-up has reached which a reset or the loss of supply overtakes
(R199; absent when no start-up stands so), MODEL'S OWN: the stage, less one, after which a reset or the loss of supply
that then waits comes within the next start-up (absent where it comes after its end; log entry 24), the kind of the last
reset (R196), whether the check value agrees with the retained store, and the store-lost mark (R194). -/
structure Module where
  powered : Bool
  inReset : Bool
  restartPending : Bool
  starting : Option Nat
  overtaken : Option (Fin 7)
  lastReset : ResetKind
  checkGood : Bool
  storeLost : Bool
deriving DecidableEq, Repr

/-- The whole machine, and the queue of commands that wait. -/
structure State where
  unit : Module
  link : Link
  seqA : Sequencer
  seqB : Sequencer
  engA : WeighEngine
  engB : WeighEngine
  arbiter : SpanArbiter
  skimmer : Skimmer
  bath : Bath
  window : List WindowEntry
  records : Records
  balance : Balance
  field : FieldLine
  capture : FaultCapture
  settings : Settings
  /-- MODEL'S OWN: how many free choices have been drawn (log entries 6, 24) -/
  free : Nat
  /-- the commands that wait, first in first out -/
  pending : List Instr
deriving DecidableEq, Repr

/-- No command of the KZ-2 stops the module: the manual gives every one of them an effect, a refusal status in a
reply frame, or no change.  A field fault and a fault of the record are states of the machine (R168), not stops. -/
inductive Fault where
deriving DecidableEq, Repr

/-- The one refusal that an interface of this kind must have. -/
inductive Refusal where
  /-- raised by a command whose meaning is not written; no command raises it in this model (safe) -/
  | notModelled (mnemonic : String)
deriving DecidableEq, Repr

/-! ## Values after reset -/

/-- The defaults of the settings, ids 1 to 37 (R190). -/
def Settings.defaults : List Int :=
  [14000, 1800, 3200, 3600, 0, 0, 3277, 3277, 400, 200, 0, 20000, 300, 150, 20, 45, 30, 60, 4500, 4400, 4900,
   2400, 250000, 50000, 16, 40, 20, 30, 50, 0, 0, 0, 0, 0, 0, 0, 0]

/-- The default record of every section class (R34). -/
def SectionClass.default : SectionClass :=
  { base := 120, perMm := 15, entrySpeed := 80, withdrawSpeed := 25, vibrate := 10, drain := 45 }

/-- The Settings Store at its defaults (R34, R35, R190, R194). -/
def Settings.fresh : Settings :=
  { values := Settings.defaults
    sections := List.replicate 16 SectionClass.default
    silicons := [100, 60, 80, 90]
    lock := false }

/-- The first open period of a lost store (R129). -/
def Period.fresh : Period :=
  { number := 1, start := 0, openingBook := 0, charged := 0, pickup := 0, jigPickup := 0, dross := 0, ash := 0,
    jigStrip := 0, steelLost := 0, dips := 0, adjustment := 0, overflow := false, closeTime := none,
    closingBook := none }

/-- A sequencer after a reset with no load in cycle, by its retained enable state (R3). -/
def Sequencer.fresh (enabled pressed : Bool) : Sequencer :=
  { enabled := enabled, phase := if enabled then .idle else .disabled, heldPhase := none, load := none, pImm := none,
    pClr := none, centre := none, motion := none, lift := none, travel := none, countdown := none, skim := .none,
    skimWait := none, overdip := none, overdipRaised := false, vibrate := none, drain := none, vibratorOn := false,
    causes := [], pressed := pressed, holdTimer := none, recoverWait := none, lateAxis := none }

/-- A station with no code seen and nothing in progress (R170). -/
def StationState.fresh : StationState :=
  { lastCode := none, accum := List.replicate 8 false, trans := none, pollDue := none, cmds := [] }

/-- A channel of which no poll has been made (R90). -/
def ChannelView.none : ChannelView := { reading := Option.none, valid := false }

/-- The state right after the module's first reset: a supply reset whose check of the retained store fails, so
that every retained item stands at its default (R194), straps open, key released (log entries 1 and 2).  The
start-up of R198 has run: RESTARTED and STORE_LOST wait, the skimmer's start-up abort is on the field line, the
first polls of both drives and of THERMO are due. -/
def State.reset : State :=
  { unit := { powered := true, inReset := false, restartPending := false, starting := none, overtaken := none,
              lastReset := .supply, checkGood := true, storeLost := true }
    link := { rx := .hunting, buffer := [], reply := none, fastBaud := false, singleLine := false,
              notices :=
                [ { kind := .restarted, time := 0, hoist := none, load := none, data1 := some 0, data2 := none },
                  { kind := .storeLost, time := 0, hoist := none, load := none, data1 := none, data2 := none } ],
              overrun := false, maskFault := false, maskProgress := false, lineF := true, lineP := true, clock := 0 }
    seqA := Sequencer.fresh true false
    seqB := Sequencer.fresh true false
    engA := { weigh := none, last := none }
    engB := { weigh := none, last := none }
    arbiter := { service := List.replicate 12 true, spans := [], queue := [] }
    skimmer := { mode := .sweeping, sweep := some { hoist := none, span := none, start := 0, abort := true },
                 queue := [], outFlag := false, pollsBegun := false }
    bath := { channels := List.replicate 4 ChannelView.none, temp := none, polled := false, overArmed := true,
              quiet := false, settle := 0, reading := none, hEst := none, levelArmed := true }
    window := []
    records := { orders := [], loads := [], jigs := [] }
    balance := { book := 0, current := Period.fresh, closed := [], last := none, pending := none }
    field :=
      { driveA := { StationState.fresh with pollDue := some 0 }
        driveB := { StationState.fresh with pollDue := some 0 }
        scaleA := StationState.fresh
        scaleB := StationState.fresh
        skimmer := { StationState.fresh with
          trans := some { kind := .command .abort, attempts := 0, stage := .onLine } }
        thermo := { StationState.fresh with pollDue := some 0 }
        level := StationState.fresh
        instant := 1, thermoSecs := 0, levelSecs := 0 }
    capture := { record := none, multiple := false }
    settings := Settings.fresh
    free := 0
    pending := [] }

end Sys2Proof.Machine
end

