-- ==== Sys2Proof/Machine/Flags.lean ====
section
/-! DEFINITION. The flags a record carries and the two attention lines, computed. -/

namespace Sys2Proof.Machine

/-- The flags of a new load record: all clear, but THICK_CLAMPED where R39 sets it (R117). -/
def LoadFlags.registered (thickClamped : Bool) : LoadFlags :=
  { thickClamped := thickClamped, unweighedIn := false, unweighedOut := false, unsettled := false,
    skimMissed := false, nonconforming := false, lossSuspect := false, interrupted := false, overRange := false,
    underRange := false }

/-- The range flag of a weight set beside what stands (R8, R20, R103). -/
def LoadFlags.withRange (f : LoadFlags) : Option RangeFlag → LoadFlags
  | none => f
  | some .over => { f with overRange := true }
  | some .under => { f with underRange := true }

/-- The category of a notice kind: fault (R181). -/
def NoticeKind.isFault : NoticeKind → Bool
  | .fieldFault | .emergencyRaise | .overdip | .lossSuspect | .overTemperature | .tempUnknown | .recoveredInBath
  | .skimmerOut | .totalSaturated | .storeLost => true
  | _ => false

/-- The category of a notice kind: progress (R181).  NONE has neither category. -/
def NoticeKind.isProgress : NoticeKind → Bool
  | .entered | .dipPosted | .weighUnstable | .admitWait | .skimMissed | .levelLow | .reconciled | .periodClosed
  | .restarted => true
  | _ => false

def Link.faultWaits (l : Link) : Bool := l.notices.any (fun n => n.kind.isFault)

def Link.progressWaits (l : Link) : Bool := l.notices.any (fun n => n.kind.isProgress)

/-- Line F as R186 states it: with the single-line strap it stands for both categories. -/
def Link.wantF (l : Link) : Bool :=
  (l.faultWaits && !l.maskFault) || (l.singleLine && l.progressWaits && !l.maskProgress)

/-- Line P as R186 states it: idle with the single-line strap. -/
def Link.wantP (l : Link) : Bool := !l.singleLine && l.progressWaits && !l.maskProgress

/-- Both lines set afresh from the queue, the masks and the strap (R186). -/
def Link.setLines (l : Link) : Link := { l with lineF := l.wantF, lineP := l.wantP }

end Sys2Proof.Machine
end

