-- ==== Sys2Proof/Machine/Operands.lean ====
section
/-! DEFINITION. How the values of a request are read (ranges, hoists, choices), and the arithmetic of the
manual's formulas: floors, ceilings and clamps (00_scope.md, "Division and rounding"). -/

namespace Sys2Proof

/-- The hoist to which a station belongs, where it belongs to one (R154). -/
def Station.hoist : Station → Option Hoist
  | .driveA => some .A
  | .driveB => some .B
  | .scaleA => some .A
  | .scaleB => some .B
  | _ => none

/-- Whether a station is a drive. -/
def Station.isDrive : Station → Bool
  | .driveA => true
  | .driveB => true
  | _ => false

def Hoist.other : Hoist → Hoist
  | .A => .B
  | .B => .A

/-- The station number of R182. -/
def Station.number : Station → Nat
  | .driveA => 1
  | .driveB => 2
  | .scaleA => 3
  | .scaleB => 4
  | .skimmer => 5
  | .thermo => 6
  | .level => 7

/-- The stations in station order (R161). -/
def Station.all : List Station := [.driveA, .driveB, .scaleA, .scaleB, .skimmer, .thermo, .level]

end Sys2Proof

namespace Sys2Proof.Machine

/-- The floor of a quotient with a positive divisor: toward minus infinity. -/
def floorDiv (a b : Int) : Int := a / b

/-- The ceiling of a quotient with a positive divisor: a negative quotient goes toward zero. -/
def ceilDiv (a b : Int) : Int := -((-a) / b)

/-- A value below the lower limit becomes the lower limit, one above the upper limit the upper limit. -/
def clamp (lo hi x : Int) : Int := if x < lo then lo else if hi < x then hi else x

/-- Whether a value lies in a range that includes both ends. -/
def inRange (lo hi x : Int) : Bool := decide (lo ≤ x) && decide (x ≤ hi)

/-- The hoist a request names: 0 for A, 1 for B (R179); any other byte names none (R6). -/
def hoistOf : Nat → Option Hoist
  | 0 => some .A
  | 1 => some .B
  | _ => none

/-- A yes-and-no choice: 0 for no, 1 for yes; any other byte is neither (R180). -/
def choiceOf : Nat → Option Bool
  | 0 => some false
  | 1 => some true
  | _ => none

/-- The service state a request names: 0 IN_SERVICE, 1 OUT_OF_SERVICE, in the order of R59 (R179). -/
def serviceOf : Nat → Option Bool
  | 0 => some true
  | 1 => some false
  | _ => none

/-- The drive and scale stations of a hoist (R154). -/
def driveOf : Hoist → Station
  | .A => .driveA
  | .B => .driveB

def scaleOf : Hoist → Station
  | .A => .scaleA
  | .B => .scaleB

/-- Whether a customer reference is one that OPEN_ORDER takes: at most 16 characters, each in 20h..7Eh (R114). -/
def referenceOk (r : List Nat) : Bool := decide (r.length ≤ 16) && r.all (fun c => decide (32 ≤ c) && decide (c ≤ 126))

/-- The elapsed plant-clock seconds from one reading to a later one; the clock wraps (R187). -/
def clockSince (earlier now : Nat) : Nat := (now + Config.clockModulus - earlier % Config.clockModulus) % Config.clockModulus

end Sys2Proof.Machine
end

