-- ==== Sys2Proof/Machine/Ops.lean ====
section
/-! DEFINITION. The named operations over the state that every block uses: reading settings, reading and writing
a hoist's items and a record, raising a notice, answering a request, asking for a field-line command and the
line's arbitration, and the end of an event. -/

namespace Sys2Proof.Machine

/-! ## Module -/

/-- The module works: the supply is on and no reset holds it (R197). -/
def State.active (s : State) : Bool := s.unit.powered && !s.unit.inReset

/-- The module takes requests: it works, no RESTART waits for the end of its reply (R197), and no reply is being sent:
in ANSWERING the interface takes no new frame (R175). -/
def State.listening (s : State) : Bool :=
  s.active && !s.unit.restartPending && decide (s.link.rx ≠ .answering)

/-- The plant clock (R187). -/
def State.clock (s : State) : Nat := s.link.clock

/-! ## Settings (R190) -/

/-- The value of the setting with this id; 0 for an id that is none. -/
def State.setting (s : State) (id : Nat) : Int := s.settings.values.getD (id - 1) 0

def State.settingNat (s : State) (id : Nat) : Nat := (s.setting id).toNat

def State.kettleLength (s : State) : Int := s.setting 1
def State.kettleWidth (s : State) : Int := s.setting 2
def State.kettleDepth (s : State) : Int := s.setting 3
def State.gaugeDatum (s : State) : Int := s.setting 4

/-- The scale zero z of a hoist's scale (R102). -/
def State.scaleZero (s : State) : Hoist → Int
  | .A => s.setting 5
  | .B => s.setting 6

/-- The span factor k of a hoist's scale (R102). -/
def State.spanFactor (s : State) : Hoist → Int
  | .A => s.setting 7
  | .B => s.setting 8

def State.floorClearance (s : State) : Int := s.setting 9
def State.clearMargin (s : State) : Int := s.setting 10

/-- The station position of a hoist (R2). -/
def State.stationPosition (s : State) : Hoist → Int
  | .A => s.setting 11
  | .B => s.setting 12

def State.travelSpeed (s : State) : Int := s.setting 13
def State.raiseSpeed (s : State) : Int := s.setting 14
def State.jogSpeed (s : State) : Int := s.setting 15
def State.skimLead (s : State) : Nat := s.settingNat 16
def State.skimWaitLimit (s : State) : Nat := s.settingNat 17
def State.overdipLimit (s : State) : Nat := s.settingNat 18
def State.thetaN (s : State) : Int := s.setting 19
def State.thetaMin (s : State) : Int := s.setting 20
def State.thetaTrip (s : State) : Int := s.setting 21
def State.levelWarning (s : State) : Int := s.setting 22
def State.ratedThroughput (s : State) : Nat := s.settingNat 23
def State.unweighedWeight (s : State) : Nat := s.settingNat 24
def State.windowSize (s : State) : Nat := s.settingNat 25
def State.stabilityBand (s : State) : Int := s.setting 26

/-- The timeout latched by a weigh of this kind (R95). -/
def State.weighTimeout (s : State) : WeighKind → Nat
  | .weighIn => s.settingNat 27
  | .weighOut => s.settingNat 28

def State.lossTolerance (s : State) : Int := s.setting 29

/-- The mask of a station as stored (R159, ids 30 to 36 in station order). -/
def State.maskOf (s : State) (st : Station) : Int := s.setting (29 + st.number)

/-- Whether a code is masked for a station: bit 0 masks code 2, bits 1 to 5 mask codes 3 to 7 (R159, R190). -/
def State.masked (s : State) (st : Station) (code : Nat) : Bool :=
  decide (2 ≤ code) && decide (code ≤ 7) && (s.maskOf st).toNat.testBit (code - 2)

def State.saturationNotice (s : State) : Bool := decide (s.setting 37 = 1)

/-! ## The hoists' items -/

def State.seq (s : State) : Hoist → Sequencer
  | .A => s.seqA
  | .B => s.seqB

def State.eng (s : State) : Hoist → WeighEngine
  | .A => s.engA
  | .B => s.engB

def setSeq (h : Hoist) (q : Sequencer) (s : State) : State :=
  match h with
  | .A => { s with seqA := q }
  | .B => { s with seqB := q }

def setEng (h : Hoist) (e : WeighEngine) (s : State) : State :=
  match h with
  | .A => { s with engA := e }
  | .B => { s with engB := e }

def modSeq (h : Hoist) (f : Sequencer → Sequencer) (s : State) : State := setSeq h (f (s.seq h)) s

def setPhase (h : Hoist) (p : Phase) (s : State) : State := modSeq h (fun q => { q with phase := p }) s

/-- The phases of the dip cycle, WEIGH_IN to TRAVEL_OUT (R22, R28). -/
def Phase.inCycle : Phase → Bool
  | .weighIn | .awaitSpan | .travelIn | .awaitAdmit | .entry | .immerse | .awaitSkim | .withdraw | .drain
  | .weighOut | .travelOut => true
  | _ => false

/-- HELD, or JOGGING, in which the timers run as in HELD (R25). -/
def Phase.heldLike : Phase → Bool
  | .held | .jogging => true
  | _ => false

/-- The hoist's last reported lift position is known and at or above p_clr. -/
def Sequencer.clear (q : Sequencer) : Bool :=
  match q.lift, q.pClr with
  | some x, some c => decide (c ≤ x)
  | _, _ => false

/-- The hoist's last reported lift position is known and below p_clr: its load is in the bath (R1). -/
def Sequencer.inBath (q : Sequencer) : Bool :=
  match q.lift, q.pClr with
  | some x, some c => decide (x < c)
  | _, _ => false

/-- A position lies within 5 mm of a target (R4). -/
def near (target pos : Int) : Bool := decide (target - 5 ≤ pos) && decide (pos ≤ target + 5)

/-- The hoist stands at this lift position (R4). -/
def Sequencer.standsAt (q : Sequencer) (target : Option Int) : Bool :=
  match q.lift, target with
  | some x, some t => near t x
  | _, _ => false

/-- The last reported position on an axis. -/
def Sequencer.position (q : Sequencer) : Axis → Option Int
  | .lift => q.lift
  | .travel => q.travel

/-! ## Records (R112) -/

def State.load? (s : State) (id : Nat) : Option LoadRec := s.records.loads.find? (fun r => r.id == id)

def State.order? (s : State) (n : Nat) : Option OrderRec := s.records.orders.find? (fun r => r.number == n)

def State.jig? (s : State) (n : Nat) : Option JigRec := s.records.jigs.find? (fun r => r.number == n)

def modLoad (id : Nat) (f : LoadRec → LoadRec) (s : State) : State :=
  { s with records := { s.records with loads := s.records.loads.map (fun r => if r.id = id then f r else r) } }

def modOrder (n : Nat) (f : OrderRec → OrderRec) (s : State) : State :=
  { s with records := { s.records with orders := s.records.orders.map (fun r => if r.number = n then f r else r) } }

def modJig (n : Nat) (f : JigRec → JigRec) (s : State) : State :=
  { s with records := { s.records with jigs := s.records.jigs.map (fun r => if r.number = n then f r else r) } }

/-- The record of the load a hoist carries. -/
def State.carried (s : State) (h : Hoist) : Option LoadRec := (s.seq h).load.bind s.load?

/-- A change of the record of the load a hoist carries; nothing where it carries none. -/
def modCarried (h : Hoist) (f : LoadRec → LoadRec) (s : State) : State :=
  match (s.seq h).load with
  | some id => modLoad id f s
  | none => s

/-- A load that has been admitted has its latched fields (R43, R44). -/
def LoadRec.admitted (r : LoadRec) : Bool := r.latched.isSome

/-- The load a hoist carries has been admitted. -/
def State.admitted (s : State) (h : Hoist) : Bool := ((s.carried h).map LoadRec.admitted).getD false

/-- The recipe values the load a hoist carries has latched. -/
def State.latched (s : State) (h : Hoist) : Option Latched := (s.carried h).bind LoadRec.latched

/-! ## Notices (R183, R186) -/

/-- The queue without its oldest progress notice. -/
def dropProgress : List Notice → List Notice
  | [] => []
  | n :: ns => if n.kind.isProgress then ns else n :: dropProgress ns

/-- A notice joins the tail, or meets a full queue as R183 states; then the lines are set (R186). -/
def Link.raise (l : Link) (n : Notice) : Link :=
  if l.notices.length < Config.noticeRoom then { l with notices := l.notices ++ [n] }.setLines
  else if n.kind.isFault && l.progressWaits then
    { l with notices := dropProgress l.notices ++ [n], overrun := true }.setLines
  else { l with overrun := true }

/-- A block raises a notice at the plant clock. -/
def raise (k : NoticeKind) (hoist : Option Hoist) (load : Option Nat) (d1 d2 : Option Int) (s : State) : State :=
  { s with link := s.link.raise { kind := k, time := s.clock, hoist := hoist, load := load, data1 := d1, data2 := d2 } }

/-- A sequencer raises a notice, with the hoist and its carried load (R33). -/
def raiseFor (h : Hoist) (k : NoticeKind) (d1 d2 : Option Int) (s : State) : State :=
  raise k (some h) (s.seq h).load d1 d2 s

/-! ## Answering a request (R177) -/

/-- What an owner answers: a status and, with OK, a record. -/
structure Answer where
  status : Status
  body : ReplyBody
deriving DecidableEq, Repr

/-- Refused: the state stays as it was (R177). -/
def refuse (st : Status) (s : State) : State × Answer := (s, { status := st, body := .empty })

/-- Taken, with nothing after the status. -/
def taken (s : State) : State × Answer := (s, { status := .ok, body := .empty })

/-- Taken, with a record after the status. -/
def takenWith (b : ReplyBody) (s : State) : State × Answer := (s, { status := .ok, body := b })

/-- The reply frame is sent: the interface is ANSWERING, with the request's kind plus 80h and its tag (R175, R177).  DESIGN
CHOICE (log entry 50): the receive buffer is emptied as the reply is formed. -/
def respond (kind tag : Nat) (a : Answer) (s : State) : State :=
  { s with link := { s.link with
      rx := .answering, buffer := [],
      reply := some { kind := (kind + 128) % 256, tag := tag, status := a.status, body := a.body } } }

/-- A request in hand, of this kind and tag, is taken to its owner and answered; while the module takes no request
it is lost (R197). -/
def request (kind tag : Nat) (owner : State → State × Answer) (s : State) : State :=
  if s.listening then respond kind tag (owner s).2 (owner s).1 else s

/-! ## The field line (R154 to R163) -/

def State.station (s : State) : Station → StationState
  | .driveA => s.field.driveA
  | .driveB => s.field.driveB
  | .scaleA => s.field.scaleA
  | .scaleB => s.field.scaleB
  | .skimmer => s.field.skimmer
  | .thermo => s.field.thermo
  | .level => s.field.level

def setStation (st : Station) (x : StationState) (s : State) : State :=
  { s with field :=
      match st with
      | .driveA => { s.field with driveA := x }
      | .driveB => { s.field with driveB := x }
      | .scaleA => { s.field with scaleA := x }
      | .scaleB => { s.field with scaleB := x }
      | .skimmer => { s.field with skimmer := x }
      | .thermo => { s.field with thermo := x }
      | .level => { s.field with level := x } }

def modStation (st : Station) (f : StationState → StationState) (s : State) : State := setStation st (f (s.station st)) s

/-- Stop and abort, which clear the way of moves and sweeps (R161, R162). -/
def Command.halts : Command → Bool
  | .stop | .abort => true
  | _ => false

/-- The line's groups: stop and abort first, then move and sweep, then polls (R161). -/
def TransKind.group : TransKind → Nat
  | .command c => if c.halts then 1 else 2
  | .poll => 3

/-- A transaction that waits for its retry: a poll until its retry is begun, a command until its retry falls due.  Once
due, the retry of a command runs on the line, and a stop asked for meanwhile follows it (R171, log entry 41). -/
def Transaction.waitsRetry (t : Transaction) : Bool :=
  match t.stage, t.kind with
  | .onLine, _ => false
  | .retryDue _, .command _ => false
  | _, _ => true

/-- A command is asked for (R162): it removes a waiting move where it is a stop (a waiting sweep where an abort),
joins unless a stop already waits, or replaces a waiting move; and a poll that waits for a retry, or, for a stop or
abort, a move or sweep that waits for one, is abandoned. -/
def StationState.ask (x : StationState) (c : Command) (now : Nat) : StationState :=
  let waiting := x.cmds.filter (fun w => w.cmd.halts)
  let cmds :=
    if c.halts then (if waiting.isEmpty then [{ cmd := c, due := now }] else waiting)
    else waiting ++ [{ cmd := c, due := now }]
  let abandoned :=
    match x.trans with
    | some t =>
      t.waitsRetry &&
        (match t.kind with
         | .poll => true
         | .command d => c.halts && !d.halts)
    | none => false
  { x with cmds := cmds, trans := if abandoned then none else x.trans }

/-- A block asks the master for a command. -/
def sendCommand (st : Station) (c : Command) (s : State) : State :=
  modStation st (fun x => x.ask c s.field.instant) s

/-- A poll of the station falls due, unless one already waits (R160). -/
def pollFallsDue (st : Station) (s : State) : State :=
  modStation st (fun x => { x with pollDue := match x.pollDue with | some d => some d | none => some s.field.instant }) s

/-- Whether the station is polled at this moment (R160). -/
def State.polled (s : State) (st : Station) : Bool :=
  s.active &&
    match st with
    | .driveA => decide (s.seqA.phase ≠ .disabled)
    | .driveB => decide (s.seqB.phase ≠ .disabled)
    | .scaleA => s.engA.weigh.isSome
    | .scaleB => s.engB.weigh.isSome
    | .skimmer => decide (s.skimmer.mode = .sweeping)
    | .thermo => true
    | .level => s.bath.quiet

/-- A waiting poll is dropped when the condition of R160 has ended. -/
def dropPoll (st : Station) (s : State) : State :=
  if s.polled st then s else modStation st (fun x => { x with pollDue := none }) s

/-- Whether an attempt of this station's transaction is on the line. -/
def StationState.onLine (x : StationState) : Bool :=
  match x.trans with
  | some t => decide (t.stage = .onLine)
  | none => false

/-- The line is free: no attempt is on it (R161). -/
def State.lineFree (s : State) : Bool := Station.all.all (fun st => !(s.station st).onLine)

/-- The due transaction of a station that the master may begin, as its group and its due time (R161): a retry that
is due, else the head of its command queue, else its waiting poll. -/
def StationState.candidate (x : StationState) : Option (Nat × Nat) :=
  match x.trans with
  | some t =>
    match t.stage with
    | .retryDue d => some (t.kind.group, d)
    | _ => none
  | none =>
    match x.cmds with
    | w :: _ => some ((TransKind.command w.cmd).group, w.due)
    | [] => x.pollDue.map (fun d => (3, d))

/-- Whether one candidate goes before another: its group, then its due time. -/
def earlier (a b : Nat × Nat) : Bool := decide (a.1 < b.1) || (decide (a.1 = b.1) && decide (a.2 < b.2))

/-- The station whose transaction is begun next; among equals the station order decides (R161). -/
def State.nextStation (s : State) : Option Station :=
  (Station.all.foldl
    (fun best st =>
      match (s.station st).candidate with
      | none => best
      | some c =>
        match best with
        | none => some (st, c)
        | some (_, b) => if earlier c b then some (st, c) else best)
    (none : Option (Station × (Nat × Nat)))).map Prod.fst

/-- One attempt of the station's due transaction is put on the line. -/
def StationState.begin (x : StationState) : StationState :=
  match x.trans with
  | some t => { x with trans := some { t with stage := .onLine } }
  | none =>
    match x.cmds with
    | w :: rest => { x with cmds := rest, trans := some { kind := .command w.cmd, attempts := 0, stage := .onLine } }
    | [] => { x with pollDue := none, trans := some { kind := .poll, attempts := 0, stage := .onLine } }

/-- The master begins one attempt of the highest-priority due transaction, where the line is free (R161). -/
def arbitrate (s : State) : State :=
  if s.lineFree then
    match s.nextStation with
    | some st => modStation st StationState.begin s
    | none => s
  else s

/-! ## The kettle state (R80) -/

/-- A hoist carries a load whose hoist's last reported lift position is below p_clr, or is unknown. -/
def Sequencer.disturbs (q : Sequencer) : Bool := q.load.isSome && !q.clear

/-- The kettle is disturbed (R80). -/
def State.disturbed (s : State) : Bool :=
  s.seqA.disturbs || s.seqB.disturbs || decide (s.skimmer.mode = .sweeping)

/-- While the kettle is disturbed, the settle count is 0 and the state is DISTURBED (R80). -/
def settleKettle (s : State) : State :=
  if s.disturbed then { s with bath := { s.bath with quiet := false, settle := 0 } } else s

/-! ## The end of an event -/

/-- What stands at the end of every event that reaches a block's work: the kettle state is agreed (R80), polls whose
condition has ended are dropped (R160), the line falls to its next transaction (R161), and the instant passes. -/
def endEvent (s : State) : State :=
  let s := settleKettle s
  let s := Station.all.foldl (fun s st => dropPoll st s) s
  let s := arbitrate s
  { s with field := { s.field with instant := s.field.instant + 1 } }

/-- An event of the module's own work is taken while the module works; otherwise it finds nothing (R197). -/
def event (f : State → State) (s : State) : State := if s.active then endEvent (f s) else s

end Sys2Proof.Machine
end

