-- ==== Sys2Proof/Machine/Depth.lean ====
section
/-! DEFINITION. Density, estimated depth, the level warning and measured mass (R79, R83, R84, R141). -/

namespace Sys2Proof.Machine

/-- The density of the zinc in kg/m³ at a temperature in 4000..5500 (R79). -/
def density (t : Int) : Int := 6570 - floorDiv ((t - 4500) * 11 + 50) 100

/-- The estimated depth: the quiet depth less the fall of the book since, its ceiling taken (R83). -/
def estimatedDepth (q : QuietReading) (book : Int) : Int :=
  q.depth - ceilDiv ((q.book - book) * 100000000) (q.length * q.width * q.density)

/-- The measured mass at a quiet reading (R141). -/
def measuredMass (q : QuietReading) : Int :=
  floorDiv (q.length * q.width * q.depth * q.density + 50000000) 100000000

/-- h_est against the level warning as it then stands (R84). -/
def compareLevel (s : State) : State :=
  match s.bath.hEst with
  | none => s
  | some h =>
    if s.bath.levelArmed then
      if h < s.levelWarning then
        raise .levelLow none none (some h) (some s.levelWarning) { s with bath := { s.bath with levelArmed := false } }
      else s
    else if s.levelWarning + 20 ≤ h then { s with bath := { s.bath with levelArmed := true } }
    else s

/-- h_est is computed afresh from the quiet reading and the book, and compared (R83, R84). -/
def refreshDepth (s : State) : State :=
  compareLevel { s with bath := { s.bath with hEst := s.bath.reading.map (fun q => estimatedDepth q s.balance.book) } }

end Sys2Proof.Machine
end

