-- ==== Sys2Proof/Machine/Balance.lean ====
section
/-! DEFINITION. The Balance Unit's own work (chapter 8): posting, the book with its open period, reconciliation.
The requests stand in Accounts.lean. -/

namespace Sys2Proof.Machine

/-- The limit of the totals and counts of orders and periods (R113, R147). -/
def totalLimit : Nat := 4294967295

/-- The limits of the book (R138). -/
def bookLow : Int := -2000000000
def bookHigh : Int := 2000000000

/-- The limits of the period adjustment (R147). -/
def adjustLow : Int := -2147483648
def adjustHigh : Int := 2147483647

/-- A running total stops at its limit (R152). -/
def satAdd (limit x y : Nat) : Nat := if limit < x + y then limit else x + y

/-- The addition would carry the total past its limit (R152). -/
def overflows (limit x y : Nat) : Bool := decide (limit < x + y)

/-! ## The figures of a posting (R131 to R133) -/

structure Figures where
  loadPickup : Option Nat
  jigPickup : Option Nat
  blackNet : Option Nat
  galvNet : Option Nat
  steelLost : Option Nat
  suspect : Bool
deriving DecidableEq, Repr

/-- The figures of a dip from its weights, the jig's allowance and effective tare, and D_tol (R131 to R133).
Natural subtraction is max(0, difference). -/
def figures (wIn wOut : Option Nat) (allowance tare : Nat) (dTol : Int) : Figures :=
  match wIn, wOut with
  | some i, some o =>
    if -dTol ≤ (o : Int) - i then
      { loadPickup := some ((o - i) - min allowance (o - i)), jigPickup := some (min allowance (o - i)),
        blackNet := some (i - tare), galvNet := some ((i - tare) + ((o - i) - min allowance (o - i))),
        steelLost := none, suspect := false }
    else
      { loadPickup := some 0, jigPickup := some 0, blackNet := some (i - tare), galvNet := some (o - tare),
        steelLost := some (i - o), suspect := true }
  | none, some o =>
    { loadPickup := none, jigPickup := none, blackNet := none, galvNet := some (o - tare), steelLost := none,
      suspect := false }
  | some i, none =>
    { loadPickup := none, jigPickup := none, blackNet := some (i - tare), galvNet := none, steelLost := none,
      suspect := false }
  | none, none =>
    { loadPickup := none, jigPickup := none, blackNet := none, galvNet := none, steelLost := none, suspect := false }

/-- The load record's share of a posting (R130, R132, R134). -/
def LoadRec.post (r : LoadRec) (f : Figures) (now : Nat) : LoadRec :=
  { r with postingTime := some now, loadPickup := f.loadPickup, jigPickup := f.jigPickup, blackNet := f.blackNet,
           galvNet := f.galvNet, steelLost := f.steelLost,
           flags := { r.flags with lossSuspect := r.flags.lossSuspect || f.suspect } }

/-- The order's share (R135), each figure saturating on its own (R152). -/
def OrderRec.post (o : OrderRec) (f : Figures) (nonconforming suspect unweighed : Bool) : OrderRec :=
  let black := f.blackNet.getD 0
  let galv := f.galvNet.getD 0
  let pick := f.loadPickup.getD 0
  { o with
      blackNet := satAdd totalLimit o.blackNet black
      galvNet := satAdd totalLimit o.galvNet galv
      pickup := satAdd totalLimit o.pickup pick
      dipped := satAdd totalLimit o.dipped 1
      nonconforming := satAdd totalLimit o.nonconforming nonconforming.toNat
      lossSuspect := satAdd totalLimit o.lossSuspect suspect.toNat
      unweighed := satAdd totalLimit o.unweighed unweighed.toNat
      overflow := o.overflow || overflows totalLimit o.blackNet black || overflows totalLimit o.galvNet galv ||
        overflows totalLimit o.pickup pick || overflows totalLimit o.dipped 1 ||
        overflows totalLimit o.nonconforming nonconforming.toNat ||
        overflows totalLimit o.lossSuspect suspect.toNat || overflows totalLimit o.unweighed unweighed.toNat }

/-- The limits of a jig's build-up and dips since strip (R122). -/
def buildUpLimit : Nat := 100000
def dipsLimit : Nat := 65535

/-- The jig's share (R136). -/
def JigRec.post (j : JigRec) (pickup : Nat) : JigRec :=
  { j with buildUp := satAdd buildUpLimit j.buildUp pickup, dips := satAdd dipsLimit j.dips 1,
           overflow := j.overflow || overflows buildUpLimit j.buildUp pickup || overflows dipsLimit j.dips 1 }

/-- The effective tare: base tare plus build-up (R122). -/
def JigRec.tare (j : JigRec) : Nat := j.base + j.buildUp

/-! ## The book and the open period -/

/-- The book after a decrease, stopped at its lower limit (R152). -/
def bookDown (book : Int) (w : Nat) : Int := if book - w < bookLow then bookLow else book - w

def bookSaturates (book : Int) (w : Nat) : Bool := decide (book - w < bookLow)

/-- The book and the open period take a posting (R137). -/
def Balance.post (b : Balance) (f : Figures) : Balance :=
  let pick := f.loadPickup.getD 0
  let jig := f.jigPickup.getD 0
  let lost := f.steelLost.getD 0
  let p := b.current
  { b with
      book := bookDown b.book (pick + jig)
      current := { p with
        pickup := satAdd totalLimit p.pickup pick
        jigPickup := satAdd totalLimit p.jigPickup jig
        steelLost := satAdd totalLimit p.steelLost lost
        dips := satAdd totalLimit p.dips 1
        overflow := p.overflow || bookSaturates b.book (pick + jig) || overflows totalLimit p.pickup pick ||
          overflows totalLimit p.jigPickup jig || overflows totalLimit p.steelLost lost ||
          overflows totalLimit p.dips 1 } }

/-- Ingots charged (R139). -/
def Balance.charge (b : Balance) (w : Nat) : Balance :=
  { b with book := b.book + w
           current := { b.current with
             charged := satAdd totalLimit b.current.charged w
             overflow := b.current.overflow || overflows totalLimit b.current.charged w } }

/-- Dross taken out (R140). -/
def Balance.takeDross (b : Balance) (w : Nat) : Balance :=
  { b with book := bookDown b.book w
           current := { b.current with
             dross := satAdd totalLimit b.current.dross w
             overflow := b.current.overflow || bookSaturates b.book w || overflows totalLimit b.current.dross w } }

/-- Ash taken out (R140). -/
def Balance.takeAsh (b : Balance) (w : Nat) : Balance :=
  { b with book := bookDown b.book w
           current := { b.current with
             ash := satAdd totalLimit b.current.ash w
             overflow := b.current.overflow || bookSaturates b.book w || overflows totalLimit b.current.ash w } }

/-- A jig's build-up handed over at its strip (R148): the book is not changed. -/
def Balance.strip (b : Balance) (w : Nat) : Balance :=
  { b with current := { b.current with
             jigStrip := satAdd totalLimit b.current.jigStrip w
             overflow := b.current.overflow || overflows totalLimit b.current.jigStrip w } }

/-- The adjustment stops at the limit it would pass (R152). -/
def satAdjust (x : Int) : Int := clamp adjustLow adjustHigh x

/-- The rebase of a reconciliation (R143): the book becomes M and the adjustment enters the period. -/
def Balance.rebase (b : Balance) (mass : Int) : Balance :=
  { b with book := mass
           current := { b.current with
             adjustment := satAdjust (b.current.adjustment + (mass - b.book))
             overflow := b.current.overflow || !inRange adjustLow adjustHigh (b.current.adjustment + (mass - b.book)) } }

/-! ## Saturation notices (R152) -/

/-- One TOTAL_SATURATED for a record whose overflow flag an event has set, with the setting on (R152, R182).  DESIGN CHOICE
(log entry 52): an order number above 2,147,483,647 stands whole in the notice, and its signed 32-bit field (R179) carries
it modulo 2^32. -/
def noteSaturation (kind number : Nat) (before after : Bool) (s : State) : State :=
  if after && !before && s.saturationNotice then
    raise .totalSaturated none none (some (kind : Int)) (some (number : Int)) s
  else s

/-- A change of the book with its open period, with the saturation notice of the period (R152); h_est is computed
afresh in the same event (R138). -/
def changeBalance (f : Balance → Balance) (s : State) : State :=
  let b := f s.balance
  noteSaturation 3 b.current.number s.balance.current.overflow b.current.overflow { s with balance := b }

/-! ## Posting (R130, R137) -/

/-- The Balance Unit posts the load a hoist hands over, once: the load record, the order, the jig, the book, the
open period; LOSS_SUSPECT and TOTAL_SATURATED are raised within the event, and h_est is computed afresh. -/
def post (h : Hoist) (s : State) : State :=
  match s.carried h with
  | none => s
  | some r =>
    if r.postingTime.isSome then s
    else
      let allowance := ((s.jig? r.jig).map JigRec.allowance).getD 0
      let tare := ((s.jig? r.jig).map JigRec.tare).getD 0
      let f := figures r.wIn r.wOut allowance tare s.lossTolerance
      let unweighed := r.wIn.isNone || r.wOut.isNone
      let s1 := modLoad r.id (fun r => r.post f s.clock) s
      let s1 :=
        if f.suspect then
          raise .lossSuspect (some h) (some r.id) (f.steelLost.map Int.ofNat) (some s.lossTolerance) s1
        else s1
      let s2 := modOrder r.order (fun o => o.post f r.flags.nonconforming (r.flags.lossSuspect || f.suspect) unweighed) s1
      let s2 := noteSaturation 1 r.order (((s.order? r.order).map OrderRec.overflow).getD true)
        (((s2.order? r.order).map OrderRec.overflow).getD true) s2
      let s3 := modJig r.jig (fun j => j.post (f.jigPickup.getD 0)) s2
      let s3 := noteSaturation 2 r.jig (((s.jig? r.jig).map JigRec.overflow).getD true)
        (((s3.jig? r.jig).map JigRec.overflow).getD true) s3
      refreshDepth (changeBalance (fun b => b.post f) s3)

/-! ## Reconciliation (R142 to R146) -/

/-- One RECONCILED notice for an ending (R146, R182). -/
def raiseReconciled (r : ReconResult) (s : State) : State :=
  let code : Int := match r.outcome with | .done => 0 | .notQuiet => 1 | .abandoned => 2
  raise .reconciled none none (some code) r.residual s

/-- A pending reconciliation ends without a comparison (R144, R145). -/
def endRecon (o : ReconOutcome) (s : State) : State :=
  match s.balance.pending with
  | none => s
  | some p =>
    let r : ReconResult :=
      { outcome := o, requested := p.requested, ended := s.clock, rebase := p.rebase, book := none, mass := none,
        residual := none, adjustment := none }
    raiseReconciled r { s with balance := { s.balance with last := some r, pending := none } }

/-- A quiet reading completes a pending reconciliation (R143).  The TOTAL_SATURATED of a rebase stands before RECONCILED
(DEDUCED, log entry 46). -/
def completeRecon (q : QuietReading) (s : State) : State :=
  match s.balance.pending with
  | none => s
  | some p =>
    let m := measuredMass q
    let b := s.balance.book
    let r : ReconResult :=
      { outcome := .done, requested := p.requested, ended := s.clock, rebase := p.rebase, book := some b,
        mass := some m, residual := some (b - m), adjustment := if p.rebase then some (m - b) else none }
    let s := if p.rebase then changeBalance (fun x => x.rebase m) s else s
    raiseReconciled r { s with balance := { s.balance with last := some r, pending := none } }

end Sys2Proof.Machine
end

