-- ==== Sys2Proof/Machine/Recipe.lean ====
section
/-! DEFINITION. Immersion recipes (chapter 2): the class tables, their requests, and the immersion time. -/

namespace Sys2Proof.Machine

/-- The section class record a load names (R34). -/
def State.sectionClass (s : State) (n : Nat) : SectionClass := s.settings.sections.getD n SectionClass.default

/-- The multiplier M_si of a silicon class (R35). -/
def State.siliconClass (s : State) (n : Nat) : Nat := s.settings.silicons.getD n 100

/-- Stages 1 and 2 of R41: the raw time scaled for silicon. -/
def siliconTime (base perMm thick mSi : Nat) : Nat := (base + perMm * thick) * mSi / 100

/-- Stage 3 of R41: one percent of the silicon time for each whole degree below θ_n, in proportion. -/
def extension (tSi : Nat) (thetaN theta : Int) : Nat := if theta < thetaN then tSi * (thetaN - theta).toNat / 1000 else 0

/-- The clamp of stage 4 (R42). -/
def clampImmersion (t : Nat) : Nat := if t < 30 then 30 else if 1200 < t then 1200 else t

/-- The immersion time T_imm (R41). -/
def immersionTime (base perMm thick mSi : Nat) (thetaN theta : Int) : Nat :=
  clampImmersion (siliconTime base perMm thick mSi + extension (siliconTime base perMm thick mSi) thetaN theta)

/-- The values latched at admission from the tables as they then stand (R40, R43). -/
def recipe (s : State) (r : LoadRec) (theta : Int) : Latched :=
  let c := s.sectionClass r.sect
  { theta := theta
    tImm := immersionTime c.base c.perMm r.thick (s.siliconClass r.silicon) s.thetaN theta
    entryTime := s.clock, entrySpeed := c.entrySpeed, withdrawSpeed := c.withdrawSpeed, vibrate := c.vibrate,
    drain := c.drain }

/-- A section record every field of which lies in its range (R34). -/
def SectionClass.ok (c : SectionClass) : Bool :=
  decide (c.base ≤ 900) && decide (c.perMm ≤ 60) && inRange 10 200 c.entrySpeed && inRange 5 60 c.withdrawSpeed &&
    decide (c.vibrate ≤ 60) && decide (c.drain ≤ 600)

/-- WRITE_CLASS at its owner (R37): table, number, then the fields; all fields of the record are replaced together. -/
def writeClass (table number f1 f2 f3 f4 f5 f6 : Nat) (s : State) : State × Answer :=
  match table with
  | 0 =>
    let c : SectionClass :=
      { base := f1, perMm := f2, entrySpeed := f3, withdrawSpeed := f4, vibrate := f5, drain := f6 }
    if number ≤ 15 ∧ c.ok = true then
      taken { s with settings := { s.settings with sections := s.settings.sections.set number c } }
    else refuse .range s
  | 1 =>
    if number ≤ 3 ∧ 40 ≤ f1 ∧ f1 ≤ 150 then
      taken { s with settings := { s.settings with silicons := s.settings.silicons.set number f1 } }
    else refuse .range s
  | _ => refuse .range s

/-- READ_CLASS at its owner (R38). -/
def readClass (table number : Nat) (s : State) : State × Answer :=
  match table with
  | 0 => if number ≤ 15 then takenWith (.sectionClass (s.sectionClass number)) s else refuse .range s
  | 1 => if number ≤ 3 then takenWith (.siliconClass (s.siliconClass number)) s else refuse .range s
  | _ => refuse .range s

/-- WRITE_CLASS (R37). -/
def execWriteClass (table number f1 f2 f3 f4 f5 f6 : Nat) (s : State) : Host.Outcome State Fault Refusal :=
  .next (request 0x0A 0 (writeClass table number f1 f2 f3 f4 f5 f6) s)

/-- READ_CLASS (R38). -/
def execReadClass (table number : Nat) (s : State) : Host.Outcome State Fault Refusal :=
  .next (request 0x0B 0 (readClass table number) s)

end Sys2Proof.Machine
end

