-- ==== Sys2Proof/Machine/Zones.lean ====
section
/-! DEFINITION. The span map and placement (chapter 3, R46 to R56), as the Span Arbiter computes them. -/

namespace Sys2Proof.Machine

/-- The span an owner holds (R47: at most one). -/
def SpanArbiter.spanOf (a : SpanArbiter) (o : Owner) : Option Span := a.spans.find? (fun p => decide (p.owner = o))

/-- Whether a span takes in a zone. -/
def Span.covers (p : Span) (z : Nat) : Bool := decide (p.first ≤ z) && decide (z ≤ p.last)

/-- The owner of a zone, absent where it is free (R47). -/
def SpanArbiter.ownerOf (a : SpanArbiter) (z : Nat) : Option Owner := (a.spans.find? (fun p => p.covers z)).map Span.owner

def SpanArbiter.inService (a : SpanArbiter) (z : Nat) : Bool := a.service.getD (z - 1) false

/-- A zone may be granted: IN_SERVICE and free (R48). -/
def SpanArbiter.available (a : SpanArbiter) (z : Nat) : Bool := a.inService z && a.spans.all (fun p => !p.covers z)

/-- Every zone of first..last may be granted. -/
def SpanArbiter.runAvailable (a : SpanArbiter) (first last : Nat) : Bool :=
  (List.range' first (last + 1 - first)).all a.available

/-- The runway condition of hoist A: its span ends at least two below B's (R53, R54). -/
def SpanArbiter.belowB (a : SpanArbiter) (last : Nat) : Bool :=
  match a.spanOf (.hoist .B) with
  | some b => decide (last + 2 ≤ b.first)
  | none => true

/-- The runway condition of hoist B: its span begins at least two above A's (R53, R54). -/
def SpanArbiter.aboveA (a : SpanArbiter) (first : Nat) : Bool :=
  match a.spanOf (.hoist .A) with
  | some p => decide (p.last + 2 ≤ first)
  | none => true

/-- First-fit placement of a hoist claim of n zones from the hoist's own end (R54). -/
def SpanArbiter.placeHoist (a : SpanArbiter) (h : Hoist) (n : Nat) : Option (Nat × Nat) :=
  match h with
  | .A =>
    ((List.range' 1 12).find? (fun f =>
      decide (f + n ≤ 13) && a.runAvailable f (f + n - 1) && a.belowB (f + n - 1))).map (fun f => (f, f + n - 1))
  | .B =>
    ((List.range' 1 12).reverse.find? (fun l =>
      decide (n ≤ l) && a.runAvailable (l + 1 - n) l && a.aboveA (l + 1 - n))).map (fun l => (l + 1 - n, l))

/-- Placement of a claim (R54, R55): a maintenance claim has no runway condition. -/
def SpanArbiter.place (a : SpanArbiter) (c : Claim) : Option (Nat × Nat) :=
  match c.claimant, c.need with
  | .hoist h, .length n => a.placeHoist h n
  | .maint _, .zones f l => if a.runAvailable f l then some (f, l) else none
  | _, _ => none

/-- The travel position of the centre of a span (R2). -/
def spanCentre (length : Int) (first last : Nat) : Int := 2000 + floorDiv (((first : Int) - 1 + last) * length) 24

/-- The left and right ends of a sweep over a span (R65). -/
def sweepEnds (length : Int) (first last : Nat) : Int × Int :=
  (2000 + floorDiv (((first : Int) - 1) * length) 12, 2000 + floorDiv ((last : Int) * length) 12)

/-- A span leaves the map whole (R48, R57, R58). -/
def SpanArbiter.release (a : SpanArbiter) (o : Owner) : SpanArbiter :=
  { a with spans := a.spans.filter (fun p => !decide (p.owner = o)) }

/-- A claim leaves the queue, wherever it stands (R49, R50). -/
def SpanArbiter.withdraw (a : SpanArbiter) (o : Owner) : SpanArbiter :=
  { a with queue := a.queue.filter (fun c => !decide (c.claimant = o)) }

def SpanArbiter.waits (a : SpanArbiter) (o : Owner) : Bool := a.queue.any (fun c => decide (c.claimant = o))

/-- A claim stands at the head of the queue. -/
def SpanArbiter.heads (a : SpanArbiter) (o : Owner) : Bool :=
  match a.queue with
  | c :: _ => decide (c.claimant = o)
  | [] => false

/-- The place of a claimant in the queue, counted from 1 at the head (R51). -/
def SpanArbiter.placeInQueue (a : SpanArbiter) (o : Owner) : Nat := a.queue.findIdx (fun c => decide (c.claimant = o)) + 1

/-- The owners in the order of R60. -/
def Owner.all : List Owner := [.hoist .A, .hoist .B, .maint 1, .maint 2, .maint 3, .maint 4]

/-- The granted spans in the order A, B, maintenance 1 to 4 (R60). -/
def SpanArbiter.listed (a : SpanArbiter) : List Span := Owner.all.filterMap a.spanOf

/-- The 12 zone entries in zone order (R60). -/
def SpanArbiter.entries (a : SpanArbiter) : List (Bool × Option Owner) :=
  (List.range' 1 12).map (fun z => (a.inService z, a.ownerOf z))

end Sys2Proof.Machine
end

