-- ==== Sys2Proof/Machine/Skimming.lean ====
section
/-! DEFINITION. The Skimmer Arbiter (chapter 4): requests, sweeps and withdrawals.  The moves of a hoist's phase
on a skim's end stand in Cycle.lean. -/

namespace Sys2Proof.Machine

/-- A hoist's skim is missed (R14): the state becomes MISSED, the SKIM_MISSED flag is set, and one notice is raised
if the flag was clear, carrying the overdip count or 0 (R33). -/
def markMissed (h : Hoist) (s : State) : State :=
  let already := ((s.carried h).map (fun r => r.flags.skimMissed)).getD false
  let s' := modSeq h (fun q => { q with skim := .missed }) s
  let s' := modCarried h (fun r => { r with flags := { r.flags with skimMissed := true } }) s'
  if already then s' else raiseFor h .skimMissed (some ((((s.seq h).overdip).getD 0 : Nat) : Int)) none s'

/-- The arbiter starts a sweep of the head request, where it is IDLE and one waits (R65): over the span the map
grants to the request's hoist.  The kettle is disturbed from here (R80). -/
def startSweep (s : State) : State :=
  match s.skimmer.mode, s.skimmer.queue with
  | .idle, r :: rest =>
    match s.arbiter.spanOf (.hoist r.hoist) with
    | some p =>
      let ends := sweepEnds s.kettleLength p.first p.last
      let s := { s with skimmer := { s.skimmer with
        mode := .sweeping, queue := rest, pollsBegun := false,
        sweep := some { hoist := some r.hoist, span := some (p.first, p.last), start := s.clock, abort := false } } }
      let s := modStation .skimmer (fun x => { x with pollDue := none }) s
      sendCommand .skimmer (.sweep ends.1 ends.2) s
    | none => { s with skimmer := { s.skimmer with queue := rest } }
  | _, _ => s

/-- A request takes its place: before the first waiting request with a later due time (R64).  DESIGN CHOICE (log entry 54):
the earlier of two due times is the smaller number, also where a wrap of the plant clock or a SET_CLOCK lies between them. -/
def insertRequest (r : SkimRequest) : List SkimRequest → List SkimRequest
  | [] => [r]
  | x :: xs => if r.due < x.due then r :: x :: xs else x :: insertRequest r xs

/-- A sequencer sends a skim request (R14, R15, R64): its skim state becomes WAITING; with the skimmer out of
service the request is answered as missed in the same event (R72); else it joins, and an idle skimmer sweeps. -/
def requestSkim (h : Hoist) (due : Nat) (s : State) : State :=
  let s := modSeq h (fun q => { q with skim := .waiting }) s
  match s.skimmer.mode with
  | .outOfService => markMissed h s
  | _ =>
    let p := (s.arbiter.spanOf (.hoist h)).map (fun p => (p.first, p.last))
    let r : SkimRequest := { hoist := h, first := (p.getD (0, 0)).1, last := (p.getD (0, 0)).2, due := due }
    startSweep { s with skimmer := { s.skimmer with queue := insertRequest r s.skimmer.queue } }

/-- A hoist withdraws its request (R68, R69): from the sweep in progress by an abort, once; else from the queue. -/
def withdrawSkim (h : Hoist) (s : State) : State :=
  let leave : State :=
    { s with skimmer := { s.skimmer with queue := s.skimmer.queue.filter (fun r => !decide (r.hoist = h)) } }
  match s.skimmer.sweep with
  | some w =>
    if w.hoist = some h ∧ w.abort = false then
      sendCommand .skimmer .abort { s with skimmer := { s.skimmer with sweep := some { w with abort := true } } }
    else leave
  | none => leave

/-- The seconds that a request's due time lies ahead, on the plant clock (R14). -/
def dueIn (secs : Nat) (s : State) : Nat := (s.clock + secs) % Config.clockModulus

/-- RESTORE_SKIMMER at its owner (R72). -/
def restoreSkimmer (s : State) : State × Answer :=
  match s.skimmer.mode with
  | .outOfService =>
    taken { s with skimmer := { s.skimmer with mode := .idle, sweep := none, queue := [], outFlag := false } }
  | _ => refuse .state s

/-- RESTORE_SKIMMER (R72). -/
def execRestoreSkimmer (s : State) : Host.Outcome State Fault Refusal := .next (request 0x34 0 restoreSkimmer s)

end Sys2Proof.Machine
end

