-- ==== Sys2Proof/Machine/Weighing.lean ====
section
/-! DEFINITION. The Weigh Engine's own work (chapter 6): starting and stopping a weigh, windows, and the
conversion to weight.  What the sequencer does with a weight stands in Cycle.lean. -/

namespace Sys2Proof.Machine

/-- A weigh starts (R95): N, band and timeout are latched, the window is empty, and the first poll of the scale
falls due at once (R160). -/
def startWeigh (h : Hoist) (k : WeighKind) (s : State) : State :=
  let w : Weigh :=
    { kind := k, size := s.windowSize, band := s.stabilityBand, timeout := s.weighTimeout k, elapsed := 0,
      passed := false, window := [], best := none, completed := 0, bad := 0 }
  pollFallsDue (scaleOf h) (setEng h { s.eng h with weigh := some w } s)

/-- The weigh ends: the engine becomes IDLE and every item of the weigh is discarded (R100, R105, R106). -/
def stopWeigh (h : Hoist) (s : State) : State := setEng h { s.eng h with weigh := none } s

/-- The mean of a complete window, rounded half up (R99). -/
def windowMean (w : List Int) : Int := floorDiv (w.sum + (w.length / 2 : Nat)) w.length

/-- The greatest reading less the least (R99). -/
def windowSpread : List Int → Int
  | [] => 0
  | x :: xs => xs.foldl max x - xs.foldl min x

/-- The hook weight before the clamp (R102). -/
def rawWeight (mean zero span : Int) : Int := floorDiv ((mean - zero) * span + 32768) 65536

/-- The clamp of a hook weight and its range flag (R103). -/
def clampWeight (w : Int) : Nat × Option RangeFlag :=
  if w < 0 then (0, some .under) else if 200000 < w then (200000, some .over) else (w.toNat, none)

/-- A mean converted with the scale zero and span factor as they then stand (R102). -/
def State.convert (s : State) (h : Hoist) (mean : Int) : Nat × Option RangeFlag :=
  clampWeight (rawWeight mean (s.scaleZero h) (s.spanFactor h))

/-- A window that is not stable against the best one: smaller spread replaces, equal does not (R101). -/
def betterWindow (best : Option BestWindow) (new : BestWindow) : BestWindow :=
  match best with
  | none => new
  | some b => if new.spread < b.spread then new else b

/-- A bad sample empties the window and counts (R97, R98), in the weigh that stands (log entry 47). -/
def badSample (h : Hoist) (s : State) : State :=
  match (s.eng h).weigh with
  | none => s
  | some w => setEng h { s.eng h with weigh := some { w with window := [], bad := w.bad + 1 } } s

/-- What a good sample brings (R99 to R101): nothing yet, or a complete window judged; a stable one ends the weigh
and gives its kind, weight and range flag.  The weigh that stands takes it, also where a sample's transaction was begun
for an earlier weigh (R163; DEDUCED, log entry 47). -/
def goodSample (h : Hoist) (x : Int) (s : State) : State × Option (WeighKind × Nat × Option RangeFlag) :=
  match (s.eng h).weigh with
  | none => (s, none)
  | some w =>
    let win := w.window ++ [x]
    if win.length < w.size then
      (setEng h { s.eng h with weigh := some { w with window := win } } s, none)
    else
      let mean := windowMean win
      let spread := windowSpread win
      let wt := s.convert h mean
      let stable := decide (spread ≤ w.band)
      let last : LastWindow :=
        { kind := w.kind, size := w.size, mean := mean, spread := spread, stable := stable, weight := wt.1,
          range := wt.2, time := s.clock }
      if stable then (setEng h { weigh := none, last := some last } s, some (w.kind, wt.1, wt.2))
      else
        let best := betterWindow w.best { mean := mean, spread := spread, time := s.clock }
        (setEng h { weigh := some { w with window := [], best := some best, completed := w.completed + 1 },
                    last := some last } s, none)

/-- The weigh-out timeout (R105): the best window converted, or no weight; the weigh ends. -/
def timeoutWeight (h : Hoist) (s : State) : Option (Nat × Option RangeFlag) :=
  ((s.eng h).weigh.bind Weigh.best).map (fun b => s.convert h b.mean)

/-- The weigh in progress is of this kind and its timeout has been reached (R104, R105). -/
def weighTimeoutDue (h : Hoist) (k : WeighKind) (s : State) : Bool :=
  match (s.eng h).weigh with
  | some w => decide (w.kind = k) && !w.passed && decide (w.timeout ≤ w.elapsed)
  | none => false

/-- The timeout-passed mark is set (R104). -/
def markTimeout (h : Hoist) (s : State) : State :=
  match (s.eng h).weigh with
  | none => s
  | some w => setEng h { s.eng h with weigh := some { w with passed := true } } s

end Sys2Proof.Machine
end

