-- ==== Sys2Proof/Machine/Cycle.lean ====
section
/-! DEFINITION. The work of a hoist's dip cycle (chapter 1) with the grant of spans and the admission trial: every
operation by which a phase is entered or left.  The commands that call them stand in Hoists.lean, SequencerTimers.lean
and FieldLine.lean. -/

namespace Sys2Proof.Machine

/-! ## Motions (R4, R5) -/

/-- The overdue limit of a motion, seconds (R5). -/
def overdueLimit (distance speed : Int) : Nat := (ceilDiv (distance * 3) (2 * speed)).toNat + 10

/-- The motion in flight is still present when its limit passes (R5). -/
def overdueDue (h : Hoist) (s : State) : Bool :=
  match (s.seq h).motion with
  | some m => decide (m.limit ≤ m.elapsed)
  | none => false

/-- A motion is issued (R4): within 5 mm of the target no command is sent and it has arrived at once (the second
result); otherwise the move is asked for and recorded with its overdue limit.  With the position unknown no motion
is issued. -/
def issueMotion (h : Hoist) (axis : Axis) (target speed : Int) (s : State) : State × Bool :=
  match (s.seq h).position axis with
  | none => (modSeq h (fun q => { q with motion := none }) s, false)
  | some pos =>
    if near target pos then (modSeq h (fun q => { q with motion := none }) s, true)
    else
      let m : Motion :=
        { axis := axis, target := target, speed := speed, issued := s.clock,
          limit := overdueLimit |target - pos| speed, elapsed := 0 }
      (sendCommand (driveOf h) (.move axis target speed) (modSeq h (fun q => { q with motion := some m }) s), false)

/-- A lift motion to p_imm or p_clr. -/
def issueLift (h : Hoist) (target : Option Int) (speed : Int) (s : State) : State × Bool :=
  match target with
  | some t => issueMotion h .lift t speed s
  | none => (s, false)

/-- A travel is commanded only while the lift stands at or above p_clr (R2); otherwise it waits for the drive
report that shows it so (log entry 10). -/
def issueTravel (h : Hoist) (target : Int) (s : State) : State × Bool :=
  if (s.seq h).clear then issueMotion h .travel target s.travelSpeed s
  else (modSeq h (fun q => { q with motion := none }) s, false)

/-- The latched entry speed (R43). -/
def State.entrySpeed (s : State) (h : Hoist) : Int := ((s.latched h).map (fun l => (l.entrySpeed : Int))).getD s.raiseSpeed

/-- The latched withdrawal speed, or the raise speed for a load never admitted (R18). -/
def State.withdrawSpeed (s : State) (h : Hoist) : Int :=
  ((s.latched h).map (fun l => (l.withdrawSpeed : Int))).getD s.raiseSpeed

/-! ## Entry and immersion (R12 to R14) -/

/-- A skim request is due: the skim state is NONE and the countdown at or below the lead, in IMMERSE or held in it (R14). -/
def skimLeadDue (h : Hoist) (s : State) : Bool :=
  match (s.seq h).countdown with
  | some c =>
    decide ((s.seq h).skim = .none) && decide (c ≤ s.skimLead) &&
      (decide ((s.seq h).phase = .immerse) ||
        ((s.seq h).phase.heldLike && decide ((s.seq h).heldPhase = some .immerse)))
  | none => false

/-- The skim request of the lead time (R14): its due time is the clock plus the remaining seconds. -/
def sendSkimAtLead (h : Hoist) (s : State) : State :=
  if skimLeadDue h s then requestSkim h (dueIn ((s.seq h).countdown.getD 0) s) s else s

/-- Arrival at p_imm (R13): the countdown is set and IMMERSE entered; a countdown at or below the lead sends its
request as IMMERSE is entered (R14). -/
def enterImmerse (h : Hoist) (s : State) : State :=
  sendSkimAtLead h
    (modSeq h (fun q => { q with phase := .immerse, motion := none, countdown := (s.latched h).map Latched.tImm }) s)

/-- ENTRY with its lift motion (R12, R13). -/
def beginEntry (h : Hoist) (s : State) : State :=
  let r := issueLift h (s.seq h).pImm (s.entrySpeed h) (setPhase h .entry s)
  if r.2 then enterImmerse h r.1 else r.1

/-! ## The admission gate (R85 to R89) -/

/-- The admission weight (R88). -/
def State.admissionWeight (s : State) (r : LoadRec) : Nat :=
  match r.wIn with
  | some w => w
  | none => r.declared.getD s.unweighedWeight

/-- The window total (R87). -/
def windowTotal (w : List WindowEntry) : Nat := (w.map WindowEntry.weight).sum

/-- The throughput rule (R88). -/
def State.throughputOk (s : State) (weight : Nat) : Bool :=
  s.window.isEmpty ||
    (decide (s.window.length < Config.windowRoom) && decide (windowTotal s.window + weight ≤ s.ratedThroughput))

/-- Every cause that fails for a hoist's load (R86).  DESIGN CHOICE (log entry 48): they stand, and the ADMIT_WAIT notices
of those not yet notified are raised, in the order of the table of R86. -/
def State.failedCauses (s : State) (h : Hoist) (r : LoadRec) : List AdmitCause :=
  (match s.bath.temp with
    | none => [.temperatureUnknown]
    | some t => (if t < s.thetaMin then [.tooCold] else []) ++ (if s.thetaTrip ≤ t then [.tooHot] else [])) ++
  (match s.bath.hEst with
    | none => [.depthUnknown]
    | some d => if r.height + ((s.seq h).pImm.getD 0 - r.hang) + 50 ≤ d then [] else [.notCovered]) ++
  (if s.throughputOk (s.admissionWeight r) then [] else [.throughput])

/-- The numbering of R182. -/
def AdmitCause.number : AdmitCause → Nat
  | .temperatureUnknown => 1
  | .tooCold => 2
  | .tooHot => 3
  | .depthUnknown => 4
  | .notCovered => 5
  | .throughput => 6

/-- A failed cause is notified once per wait (R11). -/
def notifyCause (h : Hoist) (s : State) (c : AdmitCause) : State :=
  if (s.seq h).causes.contains c then s
  else raiseFor h .admitWait (some (c.number : Int)) none (modSeq h (fun q => { q with causes := q.causes ++ [c] }) s)

/-- Admission (R12, R89): the window entry, the latched recipe, ENTERED, and ENTRY. -/
def admitLoad (h : Hoist) (r : LoadRec) (theta : Int) (s : State) : State :=
  let l := recipe s r theta
  let s := { s with window := s.window ++ [{ weight := s.admissionWeight r, age := 0 }] }
  let s := modLoad r.id (fun r => { r with latched := some l }) s
  let s := raiseFor h .entered (some (l.tImm : Int)) (some theta) s
  beginEntry h s

/-- One trial of the load of a hoist in AWAIT_ADMIT (R85, R86); in any other phase the gate does not try. -/
def trial (h : Hoist) (s : State) : State :=
  if (s.seq h).phase = .awaitAdmit then
    match s.carried h with
    | none => s
    | some r =>
      match s.failedCauses h r, s.bath.temp with
      | [], some theta => admitLoad h r theta s
      | causes, _ => causes.foldl (notifyCause h) s
  else s

/-- The trials that an event brings to the waiting loads (R85).  Where both wait, which is tried first is open (R89)
and is a free value (log entry 6). -/
def tryWaiting (s : State) : State :=
  if s.seqA.phase = .awaitAdmit ∧ s.seqB.phase = .awaitAdmit then
    let s' := { s with free := s.free + 1 }
    if Config.trialAFirst s.free then trial .B (trial .A s') else trial .A (trial .B s')
  else trial .B (trial .A s)

/-- A change of h_est in an event is followed by trials of the waiting loads (R85). -/
def withDepthTrials (f : State → State) (s : State) : State :=
  if (f s).bath.hEst = s.bath.hEst then f s else tryWaiting (f s)

/-! ## Spans (R8 to R11, R50 to R57) -/

/-- AWAIT_ADMIT with its first trial (R11, R85). -/
def enterAwaitAdmit (h : Hoist) (s : State) : State :=
  trial h (modSeq h (fun q => { q with phase := .awaitAdmit, motion := none }) s)

/-- TRAVEL_IN with its travel to the span centre (R10). -/
def beginTravelIn (h : Hoist) (s : State) : State :=
  let r := issueTravel h ((s.seq h).centre.getD 0) (setPhase h .travelIn s)
  if r.2 then enterAwaitAdmit h r.1 else r.1

/-- A grant (R56): the span enters the map; for a hoist the load record and the centre follow in the same event, and
a hoist in AWAIT_SPAN travels in, one held there stays HELD (R10). -/
def grant (o : Owner) (first last : Nat) (s : State) : State :=
  let s := { s with arbiter := { s.arbiter with
    spans := s.arbiter.spans ++ [{ owner := o, first := first, last := last, granted := s.clock }] } }
  match o with
  | .maint _ => s
  | .hoist h =>
    let s := modCarried h (fun r => { r with span := some (first, last) }) s
    let s := modSeq h (fun q => { q with centre := some (spanCentre s.kettleLength first last) }) s
    if (s.seq h).phase = .awaitSpan then beginTravelIn h s else s

/-- The head claim is tried; while it is placed the next is tried in its turn (R52).  The first argument is the
number of claims waiting. -/
def tryPlacement : Nat → State → State
  | 0, s => s
  | n + 1, s =>
    match s.arbiter.queue with
    | [] => s
    | c :: rest =>
      match s.arbiter.place c with
      | none => s
      | some (f, l) =>
        tryPlacement n (grant c.claimant f l { s with arbiter := { s.arbiter with queue := rest } })

/-- A placement try at an event of R52. -/
def placeClaims (s : State) : State := tryPlacement s.arbiter.queue.length s

/-- A claim joins the tail; in an empty queue it is tried at once (R49, R52). -/
def joinClaim (c : Claim) (s : State) : State :=
  let s' := { s with arbiter := { s.arbiter with queue := s.arbiter.queue ++ [c] } }
  if s.arbiter.queue.isEmpty then placeClaims s' else s'

/-- A claim is withdrawn; if it stood at the head the claim behind it is tried (R50, R58). -/
def withdrawClaim (o : Owner) (s : State) : State :=
  let s' := { s with arbiter := s.arbiter.withdraw o }
  if s.arbiter.heads o then placeClaims s' else s'

/-- A span is released, and a placement try follows (R57, R58). -/
def releaseSpan (o : Owner) (s : State) : State := placeClaims { s with arbiter := s.arbiter.release o }

/-- AWAIT_SPAN with the hoist's claim (R8, R9, R50). -/
def enterAwaitSpan (h : Hoist) (s : State) : State :=
  let n := ((s.carried h).map LoadRec.zones).getD 1
  joinClaim { claimant := .hoist h, need := .length n, joined := s.clock } (setPhase h .awaitSpan s)

/-! ## The end of a dip (R21, R27) -/

/-- A load never admitted returns to REGISTERED (R21, R27, R118). -/
def LoadRec.returned (r : LoadRec) : LoadRec :=
  { r with state := .registered, hoist := none, span := none, wIn := none, flags := { r.flags with unweighedIn := false } }

/-- An admitted load becomes COMPLETE (R21, R118). -/
def LoadRec.completed (r : LoadRec) : LoadRec := { r with state := .complete, hoist := none, span := none }

/-- The jig is no longer marked as carried (R123). -/
def freeJig (load : Nat) (s : State) : State :=
  { s with records := { s.records with
      jigs := s.records.jigs.map (fun j => if j.carriedBy = some load then { j with carriedBy := none } else j) } }

/-- The dip items become absent or NONE and the phase IDLE (R21). -/
def Sequencer.cleared (q : Sequencer) : Sequencer :=
  { q with phase := .idle, heldPhase := none, load := none, pImm := none, pClr := none, centre := none, motion := none,
           countdown := none, skim := .none, skimWait := none, overdip := none, overdipRaised := false,
           vibrate := none, drain := none, vibratorOn := false, holdTimer := none, recoverWait := none }

/-- The dip ends: the load is COMPLETE or back in REGISTERED, the jig is free, the hoist IDLE (R21, R27). -/
def endDip (h : Hoist) (s : State) : State :=
  let s' := modCarried h (fun r => if r.admitted then r.completed else r.returned) s
  let s' := match (s.seq h).load with
    | some id => freeJig id s'
    | none => s'
  modSeq h Sequencer.cleared s'

/-- Arrival at the station (R21): the dip ends and the span is released (R57). -/
def travelOutArrival (h : Hoist) (s : State) : State := releaseSpan (.hoist h) (endDip h s)

/-- TRAVEL_OUT with its travel to the station (R20, R21, R27). -/
def beginTravelOut (h : Hoist) (s : State) : State :=
  let r := issueTravel h (s.stationPosition h) (setPhase h .travelOut s)
  if r.2 then travelOutArrival h r.1 else r.1

/-! ## Withdrawal, drain and weigh-out (R17 to R20) -/

/-- WEIGH_OUT with its weigh-out (R20).  The vibrate and drain countdowns stay as they stand until the end of the dip (R19,
R21). -/
def enterWeighOut (h : Hoist) (s : State) : State :=
  startWeigh h .weighOut
    (modSeq h (fun q => { q with phase := .weighOut, motion := none, vibratorOn := false }) s)

/-- The vibrator is on while its countdown is above 0; with both countdowns at 0 the drain has ended (R19). -/
def runDrain (h : Hoist) (s : State) : State :=
  if (s.seq h).vibrate.getD 0 = 0 ∧ (s.seq h).drain.getD 0 = 0 then enterWeighOut h s
  else modSeq h (fun q => { q with motion := none, vibratorOn := decide (0 < q.vibrate.getD 0) }) s

/-- DRAIN with its countdowns from the latched values (R19). -/
def enterDrain (h : Hoist) (s : State) : State :=
  runDrain h (modSeq h (fun q =>
    { q with phase := .drain, motion := none, vibrate := (s.latched h).map Latched.vibrate,
             drain := (s.latched h).map Latched.drain }) s)

/-- Arrival at p_clr: DRAIN, or TRAVEL_OUT for a load never admitted (R18, R21). -/
def withdrawArrival (h : Hoist) (s : State) : State := if s.admitted h then enterDrain h s else beginTravelOut h s

/-- The overdip count exceeds the limit in force and the mark is no (R17). -/
def overdipDue (h : Hoist) (s : State) : Bool :=
  !(s.seq h).overdipRaised &&
    (match (s.seq h).overdip with
      | some n => decide (s.overdipLimit < n)
      | none => false)

/-- NONCONFORMING, one OVERDIP, and the mark (R17). -/
def exceedOverdip (h : Hoist) (s : State) : State :=
  let s := modCarried h (fun r => { r with flags := { r.flags with nonconforming := true } }) s
  modSeq h (fun q => { q with overdipRaised := true }) (raiseFor h .overdip (some (s.overdipLimit : Int)) none s)

/-- The overdip count, where it exceeds the limit in force with the mark still no, has its consequence (R17). -/
def compareOverdip (h : Hoist) (s : State) : State := if overdipDue h s then exceedOverdip h s else s

/-- The count that stops is written into the load record (R17).  DESIGN CHOICE (log entry 42): the count itself becomes
absent as it stops, where R21 says so only of the end of the dip. -/
def writeOverdip (h : Hoist) (s : State) : State :=
  match (s.seq h).overdip with
  | some n =>
    modSeq h (fun q => { q with overdip := none }) (modCarried h (fun r => { r with overdipSeconds := some n }) s)
  | none => s

/-- The overdip count stops (R17): it is compared with the limit in force, so that no excess is lost with it (log entry
53), and is written. -/
def stopOverdip (h : Hoist) (s : State) : State := writeOverdip h (compareOverdip h s)

/-- The lift motion of WITHDRAW (R18). -/
def liftOut (h : Hoist) (s : State) : State :=
  let r := issueLift h (s.seq h).pClr (s.withdrawSpeed h) (setPhase h .withdraw s)
  if r.2 then withdrawArrival h r.1 else r.1

/-- WITHDRAW begins (R18): the overdip count stops, the withdraw time is written, the lift goes to p_clr. -/
def startWithdraw (h : Hoist) (s : State) : State :=
  liftOut h (modCarried h (fun r => { r with withdrawTime := some s.clock }) (stopOverdip h s))

/-! ## The end-of-immersion decision (R15, R16) -/

/-- The skim wait count is at or above the setting while the skim is WAITING (R16, R25). -/
def skimWaitDue (h : Hoist) (s : State) : Bool :=
  decide ((s.seq h).skim = .waiting) &&
    (match (s.seq h).skimWait with
      | some n => decide (s.skimWaitLimit ≤ n)
      | none => false) &&
    (decide ((s.seq h).phase = .awaitSkim) || (s.seq h).phase.heldLike)

/-- The skim is missed (R16): marked, its request withdrawn, and the load withdrawn unless the hoist is held. -/
def expireSkimWait (h : Hoist) (s : State) : State :=
  let s := withdrawSkim h (markMissed h s)
  if (s.seq h).phase = .awaitSkim then startWithdraw h s else s

/-- With a skim wait of 0 the skim is missed as its count starts (R16). -/
def checkSkimWait (h : Hoist) (s : State) : State := if skimWaitDue h s then expireSkimWait h s else s

/-- AWAIT_SKIM with a new skim request due now (R15); answered missed at once, the load withdraws (R64, R71). -/
def askSkimAgain (h : Hoist) (wait : Nat) (s : State) : State :=
  let s := requestSkim h (dueIn 0 s) (modSeq h (fun q => { q with phase := .awaitSkim, skimWait := some wait }) s)
  if (s.seq h).skim = .missed then startWithdraw h s else checkSkimWait h s

/-- The end-of-immersion decision (R15). -/
def endDecision (h : Hoist) (s : State) : State :=
  match (s.seq h).skim with
  | .done t => if clockSince t s.clock ≤ Config.skimStale then startWithdraw h s else askSkimAgain h 0 s
  | .missed => startWithdraw h s
  | .waiting =>
    checkSkimWait h
      (modSeq h (fun q => { q with phase := .awaitSkim, skimWait := some (q.skimWait.getD 0) }) s)
  | .none => askSkimAgain h ((s.seq h).skimWait.getD 0) s

/-- The countdown stands at 0 and this has not yet been taken (R15, R17). -/
def countdownZeroDue (h : Hoist) (s : State) : Bool :=
  decide ((s.seq h).countdown = some 0) && (s.seq h).overdip.isNone &&
    (decide ((s.seq h).phase = .immerse) ||
      ((s.seq h).phase.heldLike && decide ((s.seq h).heldPhase = some .immerse)))

/-- The countdown reaches 0 (R15): the overdip count starts, and the skim wait count where the skim is WAITING. -/
def startOverdip (h : Hoist) (s : State) : State :=
  modSeq h (fun q =>
    { q with overdip := some 0, skimWait := if q.skim = .waiting then some 0 else q.skimWait }) s

/-- The countdown zero taken: the decision is made unless the hoist is held (R15). -/
def countdownZero (h : Hoist) (s : State) : State :=
  let s := startOverdip h s
  if (s.seq h).phase = .immerse then endDecision h s else checkSkimWait h s

/-- The skim is reported done to a hoist (R14, R16); a hoist that has withdrawn its request is not changed. -/
def skimDone (h : Hoist) (s : State) : State :=
  if (s.seq h).skim = .waiting then
    let s := modSeq h (fun q => { q with skim := .done s.clock }) s
    if (s.seq h).phase = .awaitSkim then startWithdraw h s else s
  else s

/-- The request is answered as missed (R14, R16, R71). -/
def skimMissedAnswer (h : Hoist) (s : State) : State :=
  if (s.seq h).skim = .waiting then
    let s := markMissed h s
    if (s.seq h).phase = .awaitSkim then startWithdraw h s else s
  else s

/-! ## Weights taken (R8, R20, R26, R130) -/

/-- A stable weigh-in (R8). -/
def weighInStable (h : Hoist) (w : Nat) (r : Option RangeFlag) (s : State) : State :=
  if (s.seq h).phase = .weighIn then
    enterAwaitSpan h (modCarried h (fun l => { l with wIn := some w, flags := l.flags.withRange r }) s)
  else s

/-- The load is handed to the Balance Unit, DIP_POSTED is raised, and the hoist travels out (R20, R26). -/
def finishDip (h : Hoist) (s : State) : State :=
  let s := post h s
  let r := s.carried h
  let s := raiseFor h .dipPosted ((r.bind LoadRec.loadPickup).map Int.ofNat) ((r.bind LoadRec.galvNet).map Int.ofNat) s
  beginTravelOut h s

/-- A change that the weigh-out makes to the record, but for a load already posted (R20, R130). -/
def recordOut (h : Hoist) (f : LoadRec → LoadRec) (s : State) : State :=
  modCarried h (fun r => if r.postingTime.isSome then r else f r) s

/-- The weigh-out ends with a weight, unsettled at the timeout (R20, R105). -/
def weighOutWith (h : Hoist) (w : Nat) (r : Option RangeFlag) (unsettled : Bool) (s : State) : State :=
  if (s.seq h).phase = .weighOut then
    finishDip h (recordOut h (fun l =>
      { l with wOut := some w,
               flags := { l.flags.withRange r with unsettled := l.flags.unsettled || unsettled } }) s)
  else s

/-- The weigh-out ends without a weight (R20, R26, R105). -/
def weighOutNone (h : Hoist) (s : State) : State :=
  finishDip h (recordOut h (fun l => { l with wOut := none, flags := { l.flags with unweighedOut := true } }) s)

/-! ## Holding, raising, jogging (R22 to R30) -/

/-- The phase that a hoist keeps as it becomes HELD (R22). -/
def Sequencer.heldFrom (q : Sequencer) : Option Phase :=
  match q.phase with
  | .jogging => q.heldPhase
  | .held => q.heldPhase
  | p => some p

/-- A hoist becomes HELD (R22): a stop for a motion in flight, the vibrator off, a weigh in progress stopped. -/
def enterHeld (h : Hoist) (s : State) : State :=
  let s' := if (s.seq h).motion.isSome then sendCommand (driveOf h) .stop s else s
  let s' := stopWeigh h s'
  modSeq h (fun q => { q with phase := .held, heldPhase := q.heldFrom, motion := none, vibratorOn := false }) s'

/-- The raise to p_clr at the raise speed (R29); at p_clr the hoist is HELD in DRAIN. -/
def raisingArrival (h : Hoist) (s : State) : State :=
  modSeq h (fun q => { q with phase := .held, heldPhase := some .drain, motion := none }) s

def liftRaise (h : Hoist) (s : State) : State :=
  let r := issueLift h (s.seq h).pClr s.raiseSpeed
    (modSeq h (fun q => { q with phase := .raising, heldPhase := none }) s)
  if r.2 then raisingArrival h r.1 else r.1

/-- Entering RAISING (R29).  A hoist that was HELD in AWAIT_SPAN waits for a span no more, and its claim leaves the queue,
so that it never stands beside a later claim or span of that hoist (R47, R49, R56; DEDUCED, log entry 44). -/
def enterRaising (h : Hoist) (s : State) : State :=
  let s :=
    if (s.seq h).skim = .waiting then modSeq h (fun q => { q with skim := .missed }) (withdrawSkim h s) else s
  let s := stopOverdip h (modSeq h (fun q => { q with countdown := none, holdTimer := none }) s)
  let s := modCarried h (fun r => { r with flags := { r.flags with nonconforming := true } }) s
  let s := raiseFor h .emergencyRaise (s.seq h).lift none s
  withdrawClaim (.hoist h) (liftRaise h s)

/-! ## Arrivals (R4) -/

/-- The motion in flight has arrived: the rule of the phase that issued it takes its arrival (R4). -/
def arrival (h : Hoist) (s : State) : State :=
  let s := modSeq h (fun q => { q with motion := none }) s
  match (s.seq h).phase with
  | .travelIn => enterAwaitAdmit h s
  | .entry => enterImmerse h s
  | .withdraw => withdrawArrival h s
  | .drain => runDrain h s
  | .weighOut => enterWeighOut h s
  | .travelOut => travelOutArrival h s
  | .raising => raisingArrival h s
  | .jogging => setPhase h .held s
  | _ => s

/-- A drive answer at rest, with the commanded axis within 5 mm of the target, is the arrival of the motion (R4). -/
def Sequencer.arrives (q : Sequencer) (atRest : Bool) : Bool :=
  match q.motion with
  | some m =>
    atRest && (match q.position m.axis with
      | some x => near m.target x
      | none => false)
  | none => false

/-- A travel that R2 has kept back is issued when the lift is reported clear (log entry 10). -/
def issueKeptTravel (h : Hoist) (s : State) : State :=
  if (s.seq h).motion.isNone && (s.seq h).clear then
    match (s.seq h).phase with
    | .travelIn => beginTravelIn h s
    | .travelOut => beginTravelOut h s
    | _ => s
  else s

/-! ## Recovery (R32) -/

/-- HELD after a recovery, in the held phase given. -/
def recoverHeld (h : Hoist) (p : Phase) (s : State) : State :=
  modSeq h (fun q => { q with phase := .held, heldPhase := some p, recoverWait := none }) s

/-- The outcome of recovery with the lift below p_clr or without a position (R32). -/
def recoverInBath (h : Hoist) (s : State) : State :=
  let s := modCarried h (fun r => { r with flags := { r.flags with interrupted := true, nonconforming := true } }) s
  raiseFor h .recoveredInBath (s.seq h).lift none (recoverHeld h .withdraw s)

/-- The outcome of recovery with the lift at or above p_clr (R32). -/
def recoverClear (h : Hoist) (s : State) : State :=
  if s.admitted h then
    recoverHeld h .weighOut (modCarried h (fun r => { r with flags := { r.flags with interrupted := true } }) s)
  else if (s.arbiter.spanOf (.hoist h)).isSome then
    beginTravelOut h (modSeq h (fun q => { q with recoverWait := none }) s)
  else endDip h s

/-- The first answer that reports the drive at rest settles the outcome (R32). -/
def recoveryOutcome (h : Hoist) (s : State) : State := if (s.seq h).clear then recoverClear h s else recoverInBath h s

end Sys2Proof.Machine
end

