-- ==== Sys2Proof/Machine/Accounts.lean ====
section
/-! DEFINITION. The requests of the Balance Unit (chapter 8, R139 to R151) and the end of a wait (R144). -/

namespace Sys2Proof.Machine

/-- A weight of CHARGE_ZINC, REPORT_DROSS or REPORT_ASH lies in 1..1,000,000 (R139, R140). -/
def drawOk (w : Nat) : Bool := decide (1 ≤ w) && decide (w ≤ 1000000)

/-- A change of the book by a request (R138): h_est follows in the same event, and the waiting loads are tried where it
changes (R85).  The reply carries the book after it.  DESIGN CHOICE (log entry 49): the TOTAL_SATURATED of the period
stands before LEVEL_LOW. -/
def bookChange (f : Balance → Balance) (s : State) : State × Answer :=
  let s' := endEvent (withDepthTrials (fun s => refreshDepth (changeBalance f s)) s)
  takenWith (.book s'.balance.book) s'

/-- CHARGE_ZINC at its owner (R139): never saturated. -/
def chargeZinc (weight : Nat) (s : State) : State × Answer :=
  if drawOk weight = false ∨ bookHigh < s.balance.book + weight then refuse .range s
  else bookChange (fun b => b.charge weight) s

/-- REPORT_DROSS at its owner (R140). -/
def reportDross (weight : Nat) (s : State) : State × Answer :=
  if drawOk weight = false then refuse .range s else bookChange (fun b => b.takeDross weight) s

/-- REPORT_ASH at its owner (R140). -/
def reportAsh (weight : Nat) (s : State) : State × Answer :=
  if drawOk weight = false then refuse .range s else bookChange (fun b => b.takeAsh weight) s

/-- RECONCILE at its owner (R142). -/
def reconcile (choice : Nat) (s : State) : State × Answer :=
  match choiceOf choice with
  | none => refuse .range s
  | some b =>
    match s.balance.pending with
    | some _ => refuse .busy s
    | none =>
      taken { s with balance := { s.balance with pending := some { requested := s.clock, rebase := b, waited := 0 } } }

/-- READ_BALANCE at its owner (R151). -/
def readBalance (s : State) : State × Answer :=
  let m := s.bath.reading.map measuredMass
  takenWith
    (.balance s.balance.book s.balance.current (s.balance.closed.map Period.number) s.balance.last s.balance.pending
      s.bath.reading m (m.map (fun x => s.balance.book - x))) s

/-- The number after a period's (R149). -/
def nextPeriod (n : Nat) : Nat := if n < 65535 then n + 1 else 1

/-- The open period closed (R149). -/
def Period.close (p : Period) (now : Nat) (book : Int) : Period :=
  { p with closeTime := some now, closingBook := some book }

/-- A new open period (R149). -/
def Period.open (number now : Nat) (book : Int) : Period :=
  { Period.fresh with number := number, start := now, openingBook := book }

/-- The books after CLOSE_PERIOD (R149). -/
def Balance.closePeriod (b : Balance) (now : Nat) : Balance :=
  { b with closed := b.closed ++ [b.current.close now b.book]
           current := Period.open (nextPeriod b.current.number) now b.book }

/-- CLOSE_PERIOD at its owner (R149). -/
def closePeriod (s : State) : State × Answer :=
  if Config.periodRoom ≤ s.balance.closed.length then refuse .full s
  else
    taken (raise .periodClosed none none (some (s.balance.current.number : Int)) (some s.balance.book)
      { s with balance := s.balance.closePeriod s.clock })

/-- A period number lies in 1..65,535 (R147). -/
def periodOk (n : Nat) : Bool := decide (1 ≤ n) && decide (n ≤ 65535)

/-- READ_PERIOD at its owner (R151). -/
def readPeriod (number : Nat) (s : State) : State × Answer :=
  if periodOk number = false then refuse .range s
  else if s.balance.current.number = number then takenWith (.period s.balance.current (some s.balance.book)) s
  else
    match s.balance.closed.find? (fun p => decide (p.number = number)) with
    | some p => takenWith (.period p none) s
    | none => refuse .notFound s

/-- DISCARD_PERIOD at its owner (R150). -/
def discardPeriod (number : Nat) (s : State) : State × Answer :=
  if periodOk number = false then refuse .range s
  else
    match s.balance.closed with
    | p :: rest => if p.number = number then taken { s with balance := { s.balance with closed := rest } } else refuse .state s
    | [] => refuse .state s

/-- A reconciliation's seconds waited have reached 600 (R144). -/
def reconcileDue (s : State) : Bool :=
  match s.balance.pending with
  | some p => decide (600 ≤ p.waited)
  | none => false

/-- CHARGE_ZINC (R139). -/
def execChargeZinc (weight : Nat) (s : State) : Host.Outcome State Fault Refusal :=
  .next (request 0x38 0 (chargeZinc weight) s)

/-- REPORT_DROSS (R140). -/
def execReportDross (weight : Nat) (s : State) : Host.Outcome State Fault Refusal :=
  .next (request 0x39 0 (reportDross weight) s)

/-- REPORT_ASH (R140). -/
def execReportAsh (weight : Nat) (s : State) : Host.Outcome State Fault Refusal :=
  .next (request 0x3A 0 (reportAsh weight) s)

/-- RECONCILE (R142). -/
def execReconcile (rebase : Nat) (s : State) : Host.Outcome State Fault Refusal :=
  .next (request 0x3B 0 (reconcile rebase) s)

/-- READ_BALANCE (R151). -/
def execReadBalance (s : State) : Host.Outcome State Fault Refusal := .next (request 0x3C 0 readBalance s)

/-- CLOSE_PERIOD (R149). -/
def execClosePeriod (s : State) : Host.Outcome State Fault Refusal := .next (request 0x3D 0 closePeriod s)

/-- READ_PERIOD (R151). -/
def execReadPeriod (number : Nat) (s : State) : Host.Outcome State Fault Refusal :=
  .next (request 0x3E 0 (readPeriod number) s)

/-- DISCARD_PERIOD (R150). -/
def execDiscardPeriod (number : Nat) (s : State) : Host.Outcome State Fault Refusal :=
  .next (request 0x3F 0 (discardPeriod number) s)

/-- RECONCILE_TIMEOUT (R144). -/
def execReconcileTimeout (s : State) : Host.Outcome State Fault Refusal :=
  .next (event (fun s => if reconcileDue s then endRecon .notQuiet s else s) s)

end Sys2Proof.Machine
end

