-- ==== Sys2Proof/Machine/Bath.lean ====
section
/-! DEFINITION. The Bath Monitor and the gate's own timing (chapter 5): the ends of THERMO polls, level readings, the
kettle falling quiet, the trial of each second and the expiry of a window entry. -/

namespace Sys2Proof.Machine

/-! ## Temperature (R76 to R78) -/

/-- A channel record judged for its poll (R76). -/
def judgeChannel (c : Channel) : ChannelView :=
  { reading := some c.reading, valid := decide (c.code = 0) && inRange 3000 6000 c.reading }

/-- The readings of the valid channels of a poll. -/
def validReadings (cs : List ChannelView) : List Int := cs.filterMap (fun c => if c.valid then c.reading else none)

/-- The bath temperature of a poll (R77): the mean of two or more valid channels, rounded half up; else UNKNOWN. -/
def bathTemperature (cs : List ChannelView) : Option Int :=
  if 2 ≤ (validReadings cs).length then
    some (floorDiv ((validReadings cs).sum + ((validReadings cs).length / 2 : Nat)) (validReadings cs).length)
  else none

/-- TEMP_UNKNOWN is raised at a poll that makes the temperature UNKNOWN from KNOWN, or is the first since a reset (R77). -/
def noteUnknown (cs : List ChannelView) (before : Bath) (s : State) : State :=
  if (bathTemperature cs).isNone && (before.temp.isSome || !before.polled) then
    raise .tempUnknown none none (some ((validReadings cs).length : Int)) none s
  else s

/-- The comparison with the trip temperature of a poll whose temperature is KNOWN (R78). -/
def compareTrip (s : State) : State :=
  match s.bath.temp with
  | none => s
  | some t =>
    if s.bath.overArmed then
      if s.thetaTrip ≤ t then
        raise .overTemperature none none (some t) (some s.thetaTrip) { s with bath := { s.bath with overArmed := false } }
      else s
    else if t < s.thetaTrip - 50 then { s with bath := { s.bath with overArmed := true } }
    else s

/-- The end of a THERMO poll (R77, R78), followed by the trials of the waiting loads (R85). -/
def thermoEnd (cs : List ChannelView) (s : State) : State :=
  let s' := { s with bath := { s.bath with channels := cs, temp := bathTemperature cs, polled := true } }
  tryWaiting (compareTrip (noteUnknown cs s.bath s'))

/-- All four channels invalid, with no reading (R76). -/
def noChannels : List ChannelView := List.replicate 4 ChannelView.none

/-! ## Level (R81 to R83) -/

/-- A valid reading becomes the quiet reading (R82): the Balance Unit takes it first, and B_q is the book it leaves.
The notices of a reconciliation that it completes stand before LEVEL_LOW (DEDUCED, log entry 46). -/
def takeReading (depth temp : Int) (s : State) : State :=
  let q : QuietReading :=
    { depth := depth, temp := temp, density := density temp, length := s.kettleLength, width := s.kettleWidth,
      book := s.balance.book, time := s.clock }
  let s := completeRecon q s
  refreshDepth { s with bath := { s.bath with reading := some { q with book := s.balance.book } } }

/-- The answer of the level gauge (R81): valid, skipped or discarded. -/
def levelAnswer (distance : Int) (s : State) : State :=
  match s.bath.temp with
  | some t =>
    if s.bath.quiet = true ∧ 0 < s.gaugeDatum - distance ∧ s.gaugeDatum - distance ≤ s.kettleDepth ∧
        inRange 4000 5500 t = true then
      takeReading (s.gaugeDatum - distance) t s
    else s
  | none => s

/-! ## The kettle falls quiet (R80, R81) -/

/-- The settle count has reached 30 with the kettle undisturbed (R80). -/
def quietDue (s : State) : Bool := !s.disturbed && !s.bath.quiet && decide (30 ≤ s.bath.settle)

/-- The kettle state becomes QUIET, and the first poll of LEVEL falls due (R80, R81). -/
def fallQuiet (s : State) : State :=
  pollFallsDue .level { s with bath := { s.bath with quiet := true }, field := { s.field with levelSecs := 0 } }

/-! ## The window (R87) -/

/-- The head of the window has reached the age of an hour (R87). -/
def expiryDue (s : State) : Bool :=
  match s.window with
  | e :: _ => decide (3600 ≤ e.age)
  | [] => false

/-- The head entry leaves, and the waiting loads are tried (R85, R87). -/
def expireEntry (s : State) : State := tryWaiting { s with window := s.window.tail }

/-- GATE_TRIAL_TICK (R85). -/
def execGateTrialTick (h : Hoist) (s : State) : Host.Outcome State Fault Refusal := .next (event (trial h) s)

/-- WINDOW_ENTRY_EXPIRY (R87). -/
def execWindowEntryExpiry (s : State) : Host.Outcome State Fault Refusal :=
  .next (event (fun s => if expiryDue s then expireEntry s else s) s)

/-- KETTLE_QUIET (R80). -/
def execKettleQuiet (s : State) : Host.Outcome State Fault Refusal :=
  .next (event (fun s => if quietDue s then fallQuiet s else s) s)

end Sys2Proof.Machine
end

