-- ==== Sys2Proof/Machine/Faults.lean ====
section
/-! DEFINITION. Fault Capture (chapter 9, R167 to R169). -/

namespace Sys2Proof.Machine

/-- The cause of a FIELD_FAULT as a number (R182). -/
def FaultCause.number : FaultCause → Nat
  | .station st code => st.number * 16 + code
  | .motionOverdue => 128

/-- Fault Capture takes a report (R168): an empty record is filled and FIELD_FAULT raised; a full one keeps its
fields and the multiple flag is set. -/
def capture (r : FaultRecord) (s : State) : State :=
  match s.capture.record with
  | none =>
    raise .fieldFault r.hoist r.load (some (r.cause.number : Int)) r.data
      { s with capture := { s.capture with record := some r } }
  | some _ => { s with capture := { s.capture with multiple := true } }

/-- The transaction named by a fault record (R167). -/
def TransKind.name : TransKind → TransName
  | .poll => .poll
  | .command .stop => .stop
  | .command (.move _ _ _) => .move
  | .command (.sweep _ _) => .sweep
  | .command .abort => .abort

/-- The data word of a drive fault: the last reported position on the axis of the motion in flight, or on the lift
axis (R167). -/
def Sequencer.faultWord (q : Sequencer) : Option Int :=
  match q.motion with
  | some m => q.position m.axis
  | none => q.lift

/-- The record of a field fault of a station (R167). -/
def stationFault (s : State) (st : Station) (code : Nat) (k : TransKind) (attempts : Nat) : FaultRecord :=
  match st with
  | .driveA | .driveB =>
    let h := (st.hoist).getD .A
    { cause := .station st code, trans := some k.name, hoist := some h, load := (s.seq h).load,
      phase := some (s.seq h).phase, data := (s.seq h).faultWord, time := s.clock }
  | .scaleA | .scaleB =>
    let h := (st.hoist).getD .A
    { cause := .station st code, trans := some k.name, hoist := some h, load := (s.seq h).load,
      phase := some (s.seq h).phase, data := some (attempts : Int), time := s.clock }
  | .skimmer =>
    let h := s.skimmer.sweep.bind Sweep.hoist
    { cause := .station st code, trans := some k.name, hoist := h, load := h.bind (fun h => (s.seq h).load),
      phase := h.map (fun h => (s.seq h).phase), data := some (attempts : Int), time := s.clock }
  | .thermo | .level =>
    { cause := .station st code, trans := some k.name, hoist := none, load := none, phase := none,
      data := some (attempts : Int), time := s.clock }

/-- The record of a motion overdue (R5, R167). -/
def overdueFault (s : State) (h : Hoist) : FaultRecord :=
  { cause := .motionOverdue, trans := none, hoist := some h, load := (s.seq h).load, phase := some (s.seq h).phase,
    data := (s.seq h).motion.bind (fun m => (s.seq h).position m.axis), time := s.clock }

/-- READ_FAULT at its owner (R169). -/
def readFault (s : State) : State × Answer := takenWith (.fault s.capture.record s.capture.multiple) s

/-- ACK_FAULT at its owner (R169). -/
def ackFault (s : State) : State × Answer := taken { s with capture := { record := none, multiple := false } }

/-- READ_FAULT (R169). -/
def execReadFault (s : State) : Host.Outcome State Fault Refusal := .next (request 0x42 0 readFault s)

/-- ACK_FAULT (R169). -/
def execAckFault (s : State) : Host.Outcome State Fault Refusal := .next (request 0x43 0 ackFault s)

end Sys2Proof.Machine
end

