-- ==== Sys2Proof/Machine/FieldLine.lean ====
section
/-! DEFINITION. The Field Line Master (chapter 9): the end of an attempt and of a transaction, the handing of its
result to the block that asked for it, and the effects a field fault has there. -/

namespace Sys2Proof.Machine

/-! ## What the owners take (R158) -/

/-- A motion whose limit has passed is marked as a drive fault ends it: its MOTION_OVERDUE may still be taken (R171). -/
def markLate (h : Hoist) (s : State) : State :=
  if overdueDue h s then modSeq h (fun q => { q with lateAxis := q.motion.map Motion.axis }) s else s

/-- A drive fault at its sequencer (R30, R32). -/
def driveFault (h : Hoist) (s : State) : State :=
  match (s.seq h).phase with
  | .idle | .held | .disabled => s
  | .recover => recoverInBath h s
  | _ => enterHeld h (markLate h s)

/-- A drive report (R4): positions, then recovery's outcome, the arrival of the motion in flight, or a travel kept
back.  A DISABLED hoist is handed nothing (R163). -/
def driveReport (h : Hoist) (lift travel : Int) (atRest : Bool) (s : State) : State :=
  if (s.seq h).phase = .disabled then s
  else
    let s := modSeq h (fun q => { q with lift := some lift, travel := some travel }) s
    if (s.seq h).phase = .recover then (if atRest then recoveryOutcome h s else s)
    else if (s.seq h).arrives atRest then arrival h s
    else issueKeptTravel h s

/-- A good sample of a scale (R99, R100): a stable window ends the weigh and its weight is taken (R8, R20). -/
def scaleReading (h : Hoist) (x : Int) (s : State) : State :=
  match goodSample h x s with
  | (s', none) => s'
  | (s', some (.weighIn, w, r)) => weighInStable h w r s'
  | (s', some (.weighOut, w, r)) => weighOutWith h w r false s'

/-- The skimmer reports at rest (R66): the sweep is done, or its abort acknowledged, and the next request is swept. -/
def skimmerAtRest (s : State) : State :=
  match s.skimmer.mode, s.skimmer.sweep with
  | .sweeping, some w =>
    let s' := { s with skimmer := { s.skimmer with mode := .idle, sweep := none, pollsBegun := false } }
    let s' := if w.abort then s' else
      match w.hoist with
      | some h => skimDone h s'
      | none => s'
    startSweep s'
  | _, _ => s

/-- The hoists that a skimmer fault answers as missed, in order (R71). -/
def Skimmer.cutOff (k : Skimmer) : List Hoist :=
  (match k.sweep with
    | some w => if w.abort then [] else w.hoist.toList
    | none => []) ++ k.queue.map SkimRequest.hoist

/-- A skimmer fault at the arbiter (R71).  DEDUCED (log entry 55): SKIMMER_OUT names the hoist of the sweep record also
where the abort mark was already yes; it is absent for the record of start-up, which has none (R73). -/
def skimmerFault (code : Nat) (s : State) : State :=
  match s.skimmer.mode with
  | .outOfService => s
  | mode =>
    let named := s.skimmer.sweep.bind Sweep.hoist
    let s' := if mode = .sweeping then sendCommand .skimmer .abort s else s
    let s' := { s' with skimmer :=
      { mode := .outOfService, sweep := none, queue := [], outFlag := true, pollsBegun := false } }
    let s' := s.skimmer.cutOff.foldl (fun s h => skimMissedAnswer h s) s'
    raise .skimmerOut named none (some (code : Int)) none s'

/-- The command of a sweep has ended done or masked: polls of the skimmer fall due from now on (R65, R66, R160). -/
def skimmerTook (c : Command) (s : State) : State :=
  match s.skimmer.mode, s.skimmer.sweep, c with
  | .sweeping, some _, .sweep _ _ => { s with skimmer := { s.skimmer with pollsBegun := true } }
  | .sweeping, some w, .abort => { s with skimmer := { s.skimmer with pollsBegun := s.skimmer.pollsBegun || w.abort } }
  | _, _, _ => s

/-! ## The end of a transaction (R157, R158, R166) -/

/-- Whether a report is one that the station makes, its values in their widths (R76, R94, R154). -/
def reportFits (st : Station) : FieldReport → Bool
  | .drive _ _ _ => st.isDrive
  | .scale x => decide (st = .scaleA ∨ st = .scaleB) && inRange (-8388608) 8388607 x
  | .skimmer _ => decide (st = .skimmer)
  | .thermo c1 c2 c3 c4 => decide (st = .thermo) && [c1, c2, c3, c4].all (fun c => decide (c.code ≤ 7))
  | .level _ => decide (st = .level)
  | .codeOnly => false

/-- A poll's answer that carries a report: code 0, and code 2 of a drive (R158). -/
def carriesReport (st : Station) (k : TransKind) (code : Nat) : Bool :=
  match k with
  | .poll => decide (code = 0) || (decide (code = 2) && st.isDrive)
  | .command _ => false

/-- The code an answer gives its attempt (R155): the station's own, or 7 for an answer that fails the master's check
(log entry 14). -/
def answerCode (st : Station) (k : TransKind) (code : Nat) (r : FieldReport) : Nat :=
  if 5 < code then 7 else if carriesReport st k code && !reportFits st r then 7 else code

/-- The report of a poll handed to the block that asked for it (R158). -/
def deliverReport (st : Station) (r : FieldReport) (s : State) : State :=
  match st, r with
  | .driveA, .drive l t rest => driveReport .A l t rest s
  | .driveB, .drive l t rest => driveReport .B l t rest s
  | .scaleA, .scale x => withDepthTrials (scaleReading .A x) s
  | .scaleB, .scale x => withDepthTrials (scaleReading .B x) s
  | .skimmer, .skimmer rest => if rest then skimmerAtRest s else s
  | .thermo, .thermo c1 c2 c3 c4 => thermoEnd ([c1, c2, c3, c4].map judgeChannel) s
  | .level, .level d => withDepthTrials (levelAnswer d) s
  | _, _ => s

/-- A masked code without a report (R158). -/
def deliverMasked (st : Station) (k : TransKind) (s : State) : State :=
  match st, k with
  | .scaleA, .poll => badSample .A s
  | .scaleB, .poll => badSample .B s
  | .thermo, .poll => thermoEnd noChannels s
  | .skimmer, .command c => skimmerTook c s
  | _, _ => s

/-- A field fault at the station's owner (R166). -/
def deliverFault (st : Station) (code : Nat) (s : State) : State :=
  match st with
  | .driveA => driveFault .A s
  | .driveB => driveFault .B s
  | .scaleA => badSample .A s
  | .scaleB => badSample .B s
  | .skimmer => skimmerFault code s
  | .thermo => thermoEnd noChannels s
  | .level => s

/-- The final code sorted and its result handed on (R157, R158, R166): done, masked, or a field fault, which Fault
Capture takes first. -/
def transactionEnd (st : Station) (code : Nat) (k : TransKind) (attempts : Nat) (r : FieldReport) (s : State) : State :=
  if code = 0 ∨ s.masked st code = true then
    if carriesReport st k code then deliverReport st r s else deliverMasked st k s
  else deliverFault st code (capture (stationFault s st code k attempts) s)

/-- A code seen enters the accumulator (R164). -/
def StationState.see (x : StationState) (code : Nat) : StationState := { x with accum := x.accum.set code true }

/-- Codes that are retried (R156). -/
def retried (code : Nat) : Bool := decide (code = 1) || decide (code = 6)

/-- The retry is abandoned for a command that waits (R162): of a poll by any command, of a move or sweep by a stop or
abort.  R171 states the latter for an attempt that is itself a retry; DESIGN CHOICE (log entry 51): a first attempt of a
move or sweep, with a stop or abort asked for meanwhile, is not retried either. -/
def StationState.abandons (x : StationState) (k : TransKind) : Bool :=
  match k with
  | .poll => !x.cmds.isEmpty
  | .command c => !c.halts && x.cmds.any (fun w => w.cmd.halts)

/-- An attempt on the line ends with a code (R155, R156): it is retried, abandoned, or ends its transaction. -/
def attemptEnds (st : Station) (code : Nat) (r : FieldReport) (t : Transaction) (s : State) : State :=
  if retried code = true ∧ t.attempts < 3 then
    if (s.station st).abandons t.kind then modStation st (fun x => { x.see code with trans := none }) s
    else
      modStation st (fun x =>
        { x.see code with trans := some { t with attempts := t.attempts + 1, stage := .awaitRetry } }) s
  else
    transactionEnd st code t.kind (t.attempts + 1) r
      (modStation st (fun x => { x.see code with trans := none, lastCode := some code }) s)

/-- The attempt of a station that is on the line. -/
def StationState.attempt (x : StationState) : Option Transaction :=
  match x.trans with
  | some t => if t.stage = .onLine then some t else none
  | none => none

/-- An answer ends the attempt on the line (R155); with none on the line the bytes are no answer (log entry 5). -/
def answer (st : Station) (code : Nat) (r : FieldReport) (s : State) : State :=
  match (s.station st).attempt with
  | some t => attemptEnds st (answerCode st t.kind code r) r t s
  | none => s

/-- No answer has begun within 20 ms (R155). -/
def noAnswer (st : Station) (s : State) : State :=
  match (s.station st).attempt with
  | some t => attemptEnds st 6 .codeOnly t s
  | none => s

/-! ## Due times (R156, R160) -/

/-- A poll of the station falls due while the condition of R160 holds; of the skimmer once polls have begun. -/
def duePoll (st : Station) (s : State) : State :=
  if s.polled st && (decide (st ≠ .skimmer) || s.skimmer.pollsBegun) then pollFallsDue st s else s

/-- 100 ms after the attempt ended, its retry falls due (R156). -/
def dueRetry (st : Station) (s : State) : State :=
  match (s.station st).trans with
  | some t =>
    if t.stage = .awaitRetry then
      modStation st (fun x => { x with trans := some { t with stage := .retryDue s.field.instant } }) s
    else s
  | none => s

/-! ## READ_FIELD_STATUS (R165) -/

/-- One station as READ_FIELD_STATUS reports it. -/
def stationStatus (s : State) (st : Station) : StationStatus :=
  { lastCode := (s.station st).lastCode, accum := (s.station st).accum, mask := s.maskOf st, polled := s.polled st }

/-- All seven accumulators emptied. -/
def emptyAccumulators (s : State) : State :=
  Station.all.foldl (fun s st => modStation st (fun x => { x with accum := List.replicate 8 false }) s) s

/-- READ_FIELD_STATUS at its owner (R165). -/
def readFieldStatus (clear : Nat) (s : State) : State × Answer :=
  match choiceOf clear with
  | none => refuse .range s
  | some c =>
    takenWith (.fieldStatus (Station.all.map (stationStatus s))) (if c then emptyAccumulators s else s)

/-- READ_FIELD_STATUS (R165). -/
def execReadFieldStatus (clear : Nat) (s : State) : Host.Outcome State Fault Refusal :=
  .next (request 0x44 0 (readFieldStatus clear) s)

/-- FIELD_POLL_DUE (R160). -/
def execFieldPollDue (st : Station) (s : State) : Host.Outcome State Fault Refusal := .next (event (duePoll st) s)

/-- FIELD_RETRY_DUE (R156). -/
def execFieldRetryDue (st : Station) (s : State) : Host.Outcome State Fault Refusal := .next (event (dueRetry st) s)

/-- FIELD_NO_ANSWER (R155). -/
def execFieldNoAnswer (st : Station) (s : State) : Host.Outcome State Fault Refusal := .next (event (noAnswer st) s)

/-- FIELD_ANSWER_RECEIVED (R155). -/
def execFieldAnswerReceived (st : Station) (code : Nat) (report : FieldReport) (s : State) :
    Host.Outcome State Fault Refusal :=
  .next (event (answer st code report) s)

end Sys2Proof.Machine
end

