-- ==== Sys2Proof/Machine/PlantLink.lean ====
section
/-! DEFINITION. The requests that the Plant Link Interface owns (chapter 10, R184, R185, R187), and the check word of a
frame (R174). -/

namespace Sys2Proof.Machine

/-- SET_CLOCK at its owner (R187): the reply carries the clock before the request.  The value is four bytes. -/
def setClock (value : Nat) (s : State) : State × Answer :=
  takenWith (.clockBefore s.clock) { s with link := { s.link with clock := value % Config.clockModulus } }

/-- The notice of a fetch from an empty queue (R184). -/
def Notice.nothing : Notice := { kind := .none, time := 0, hoist := none, load := none, data1 := none, data2 := none }

/-- FETCH_NOTICE at its owner (R184); a STORE_LOST it returns clears the store-lost mark (R194). -/
def fetchNotice (s : State) : State × Answer :=
  match s.link.notices with
  | [] => takenWith (.notice s.link.overrun Notice.nothing) { s with link := { s.link with overrun := false } }
  | n :: rest =>
    takenWith (.notice s.link.overrun n)
      { s with
        link := { s.link with notices := rest, overrun := false }.setLines
        unit := { s.unit with storeLost := s.unit.storeLost && !decide (n.kind = .storeLost) } }

/-- SET_NOTICE_MASK at its owner (R185). -/
def setNoticeMask (fault progress : Nat) (s : State) : State × Answer :=
  match choiceOf fault, choiceOf progress with
  | some f, some p => taken { s with link := { s.link with maskFault := f, maskProgress := p }.setLines }
  | _, _ => refuse .range s

/-- One bit of the check word (R174): shifted left, and combined with 1021h where the bit shifted out differs from
the message bit. -/
def crcBit (c : Crc) (b : Bool) : Crc := if (c.msb != b) = true then (c <<< 1) ^^^ 0x1021#16 else c <<< 1

/-- One byte, most significant bit first (R174). -/
def crcByte (c : Crc) (b : Byte) : Crc :=
  ((((((((crcBit c (b.getLsbD 7) |> (crcBit · (b.getLsbD 6))) |> (crcBit · (b.getLsbD 5))) |>
    (crcBit · (b.getLsbD 4))) |> (crcBit · (b.getLsbD 3))) |> (crcBit · (b.getLsbD 2))) |>
    (crcBit · (b.getLsbD 1))) |> (crcBit · (b.getLsbD 0))))

/-- The check word of a run of bytes (R174). -/
def crc (bs : List Byte) : Crc := bs.foldl crcByte 0xFFFF#16

/-- SET_CLOCK (R187). -/
def execSetClock (value : Nat) (s : State) : Host.Outcome State Fault Refusal := .next (request 0x03 0 (setClock value) s)

/-- FETCH_NOTICE (R184). -/
def execFetchNotice (s : State) : Host.Outcome State Fault Refusal := .next (request 0x40 0 fetchNotice s)

/-- SET_NOTICE_MASK (R185). -/
def execSetNoticeMask (fault progress : Nat) (s : State) : Host.Outcome State Fault Refusal :=
  .next (request 0x41 0 (setNoticeMask fault progress) s)

end Sys2Proof.Machine
end

