-- ==== Sys2Proof/Machine/RecordStore.lean ====
section
/-! DEFINITION. The requests of the Record Store (chapter 7). -/

namespace Sys2Proof.Machine

/-! ## Key ranges (R112) -/

def orderOk (n : Nat) : Bool := decide (1 ≤ n) && decide (n ≤ 4294967295)
def loadOk (n : Nat) : Bool := decide (1 ≤ n) && decide (n ≤ 65535)
def jigOk (n : Nat) : Bool := decide (1 ≤ n) && decide (n ≤ 255)

/-- The load records that name an order. -/
def State.naming (s : State) (order : Nat) : List LoadRec := s.records.loads.filter (fun r => decide (r.order = order))

/-- Those of them that are IN_CYCLE. -/
def State.namingInCycle (s : State) (order : Nat) : List LoadRec :=
  (s.naming order).filter (fun r => decide (r.state = .inCycle))

/-- The load records, REGISTERED or IN_CYCLE, that name a jig (R126). -/
def State.onJig (s : State) (jig : Nat) : List LoadRec :=
  s.records.loads.filter (fun r => decide (r.jig = jig) && decide (r.state ≠ .complete))

/-! ## Orders (R113 to R116) -/

/-- An order record as OPEN_ORDER makes it (R113); a reference of no characters is absent (R114). -/
def OrderRec.made (number : Nat) (reference : List Nat) (now : Nat) : OrderRec :=
  { number := number, isOpen := true, reference := if reference.isEmpty then none else some reference, opened := now,
    closed := none, blackNet := 0, galvNet := 0, pickup := 0, dipped := 0, nonconforming := 0, lossSuspect := 0,
    unweighed := 0, overflow := false }

/-- OPEN_ORDER at its owner (R114). -/
def openOrder (number : Nat) (reference : List Nat) (s : State) : State × Answer :=
  if orderOk number = false then refuse .range s
  else if referenceOk reference = false then refuse .range s
  else if (s.order? number).isSome then refuse .exists s
  else if Config.orderRoom ≤ s.records.orders.length then refuse .full s
  else
    taken { s with records :=
      { s.records with orders := s.records.orders ++ [OrderRec.made number reference s.clock] } }

/-- CLOSE_ORDER at its owner (R115). -/
def closeOrder (number : Nat) (s : State) : State × Answer :=
  if orderOk number = false then refuse .range s
  else
    match s.order? number with
    | none => refuse .notFound s
    | some o =>
      if (s.namingInCycle number).isEmpty = false then refuse .state s
      else if o.isOpen then taken (modOrder number (fun o => { o with isOpen := false, closed := some s.clock }) s)
      else taken s

/-- READ_ORDER at its owner (R116). -/
def readOrder (number : Nat) (s : State) : State × Answer :=
  if orderOk number = false then refuse .range s
  else
    match s.order? number with
    | none => refuse .notFound s
    | some o => takenWith (.order o (s.naming number).length (s.namingInCycle number).length) s

/-- REMOVE_ORDER at its owner (R116). -/
def removeOrder (number : Nat) (s : State) : State × Answer :=
  if orderOk number = false then refuse .range s
  else
    match s.order? number with
    | none => refuse .notFound s
    | some o =>
      if o.isOpen ∨ (s.naming number).isEmpty = false then refuse .state s
      else
        taken { s with records :=
          { s.records with orders := s.records.orders.filter (fun o => !decide (o.number = number)) } }

/-! ## Loads (R117 to R121) -/

/-- The first row of the checks of REGISTER_LOAD (R119). -/
def loadValuesOk (id order jig sect silicon thick zones : Nat) (hang height : Int) (declared : Option Nat) : Bool :=
  loadOk id && orderOk order && jigOk jig && decide (sect ≤ 15) && decide (silicon ≤ 3) && decide (1 ≤ thick) &&
    decide (1 ≤ zones) && decide (zones ≤ 12) && inRange 200 4000 hang && inRange 100 3500 height &&
    (match declared with
      | some w => decide (1 ≤ w) && decide (w ≤ 200000)
      | none => true)

/-- A load record as REGISTER_LOAD makes it (R39, R117, R119). -/
def LoadRec.made (id order jig sect silicon thick zones : Nat) (hang height : Int) (declared : Option Nat) : LoadRec :=
  { id := id, order := order, jig := jig, sect := sect, silicon := silicon, thick := min thick 100, zones := zones,
    hang := hang, height := height, declared := declared, state := .registered, hoist := none, span := none,
    latched := none, withdrawTime := none, wIn := none, wOut := none, overdipSeconds := none, postingTime := none,
    loadPickup := none, jigPickup := none, blackNet := none, galvNet := none, steelLost := none,
    flags := LoadFlags.registered (decide (100 < thick)) }

/-- REGISTER_LOAD at its owner (R119). -/
def registerLoad (id order jig sect silicon thick zones : Nat) (hang height : Int) (declared : Option Nat)
    (s : State) : State × Answer :=
  if loadValuesOk id order jig sect silicon thick zones hang height declared = false then refuse .range s
  else
    match s.order? order with
    | none => refuse .notFound s
    | some o =>
      if (s.jig? jig).isNone then refuse .notFound s
      else if o.isOpen = false then refuse .state s
      else if (s.load? id).isSome then refuse .exists s
      else if Config.loadRoom ≤ s.records.loads.length then refuse .full s
      else
        taken { s with records := { s.records with
          loads := s.records.loads ++
            [LoadRec.made id order jig sect silicon thick zones hang height declared] } }

/-- The pickup per mille (R120). -/
def LoadRec.perMille (r : LoadRec) : Option Nat :=
  match r.loadPickup, r.blackNet with
  | some p, some b => if 0 < b then some (p * 1000 / b) else none
  | _, _ => none

/-- READ_LOAD at its owner (R120). -/
def readLoad (id : Nat) (s : State) : State × Answer :=
  if loadOk id = false then refuse .range s
  else
    match s.load? id with
    | none => refuse .notFound s
    | some r => takenWith (.load r r.perMille) s

/-- REMOVE_LOAD at its owner (R121). -/
def removeLoad (id : Nat) (s : State) : State × Answer :=
  if loadOk id = false then refuse .range s
  else
    match s.load? id with
    | none => refuse .notFound s
    | some r =>
      if r.state = .inCycle then refuse .state s
      else
        taken { s with records :=
          { s.records with loads := s.records.loads.filter (fun r => !decide (r.id = id)) } }

/-! ## Jigs (R122 to R126) -/

/-- ADD_JIG at its owner (R124). -/
def addJig (jig base allowance : Nat) (s : State) : State × Answer :=
  if jigOk jig = false ∨ 50000 < base ∨ 2000 < allowance then refuse .range s
  else
    match s.jig? jig with
    | some j =>
      if j.carriedBy.isSome then refuse .state s
      else takenWith (.jigMade false) (modJig jig (fun j => { j with base := base, allowance := allowance }) s)
    | none =>
      if Config.jigRoom ≤ s.records.jigs.length then refuse .full s
      else
        takenWith (.jigMade true) { s with records := { s.records with
          jigs := s.records.jigs ++ [{ number := jig, base := base, allowance := allowance, buildUp := 0, dips := 0,
                                       overflow := false, carriedBy := none }] } }

/-- READ_JIG at its owner (R126). -/
def readJig (jig : Nat) (s : State) : State × Answer :=
  if jigOk jig = false then refuse .range s
  else
    match s.jig? jig with
    | none => refuse .notFound s
    | some j => takenWith (.jig j j.tare (s.onJig jig).length) s

/-- A jig record after its strip (R125). -/
def JigRec.stripped (j : JigRec) (newBase : Option Nat) : JigRec :=
  { j with base := newBase.getD j.base, buildUp := 0, dips := 0, overflow := false }

/-- STRIP_JIG at its owner (R125, R148). -/
def stripJig (jig : Nat) (newBase : Option Nat) (s : State) : State × Answer :=
  if jigOk jig = false ∨ 50000 < newBase.getD 0 then refuse .range s
  else
    match s.jig? jig with
    | none => refuse .notFound s
    | some j =>
      if j.carriedBy.isSome then refuse .state s
      else taken (changeBalance (fun b => b.strip j.buildUp) (modJig jig (fun j => j.stripped newBase) s))

/-- REMOVE_JIG at its owner (R126). -/
def removeJig (jig : Nat) (s : State) : State × Answer :=
  if jigOk jig = false then refuse .range s
  else
    match s.jig? jig with
    | none => refuse .notFound s
    | some _ =>
      if (s.onJig jig).isEmpty = false then refuse .state s
      else
        taken { s with records :=
          { s.records with jigs := s.records.jigs.filter (fun j => !decide (j.number = jig)) } }

/-! ## The commands -/

/-- OPEN_ORDER (R114). -/
def execOpenOrder (number : Nat) (reference : List Nat) (s : State) : Host.Outcome State Fault Refusal :=
  .next (request 0x10 0 (openOrder number reference) s)

/-- CLOSE_ORDER (R115). -/
def execCloseOrder (number : Nat) (s : State) : Host.Outcome State Fault Refusal :=
  .next (request 0x11 0 (closeOrder number) s)

/-- READ_ORDER (R116). -/
def execReadOrder (number : Nat) (s : State) : Host.Outcome State Fault Refusal :=
  .next (request 0x12 0 (readOrder number) s)

/-- REMOVE_ORDER (R116). -/
def execRemoveOrder (number : Nat) (s : State) : Host.Outcome State Fault Refusal :=
  .next (request 0x13 0 (removeOrder number) s)

/-- REGISTER_LOAD (R119). -/
def execRegisterLoad (id order jig sect silicon thick zones : Nat) (hang height : Int) (declared : Option Nat)
    (s : State) : Host.Outcome State Fault Refusal :=
  .next (request 0x14 0 (registerLoad id order jig sect silicon thick zones hang height declared) s)

/-- READ_LOAD (R120). -/
def execReadLoad (id : Nat) (s : State) : Host.Outcome State Fault Refusal := .next (request 0x15 0 (readLoad id) s)

/-- REMOVE_LOAD (R121). -/
def execRemoveLoad (id : Nat) (s : State) : Host.Outcome State Fault Refusal := .next (request 0x16 0 (removeLoad id) s)

/-- ADD_JIG (R124). -/
def execAddJig (jig base allowance : Nat) (s : State) : Host.Outcome State Fault Refusal :=
  .next (request 0x18 0 (addJig jig base allowance) s)

/-- READ_JIG (R126). -/
def execReadJig (jig : Nat) (s : State) : Host.Outcome State Fault Refusal := .next (request 0x19 0 (readJig jig) s)

/-- STRIP_JIG (R125). -/
def execStripJig (jig : Nat) (newBase : Option Nat) (s : State) : Host.Outcome State Fault Refusal :=
  .next (request 0x1A 0 (stripJig jig newBase) s)

/-- REMOVE_JIG (R126). -/
def execRemoveJig (jig : Nat) (s : State) : Host.Outcome State Fault Refusal := .next (request 0x1B 0 (removeJig jig) s)

end Sys2Proof.Machine
end

