-- ==== Sys2Proof/Machine/Hoists.lean ====
section
/-! DEFINITION. The requests that name a hoist (chapter 1, R6 to R31). -/

namespace Sys2Proof.Machine

/-- The checks that stand before every request that names a hoist, but PRESENT, ENABLE_HOIST and DISABLE_HOIST (R6). -/
def onHoist (hoist : Nat) (f : Hoist → State → State × Answer) (s : State) : State × Answer :=
  match hoistOf hoist with
  | none => refuse .range s
  | some h =>
    if (s.seq h).phase = .disabled then refuse .disabled s
    else if (s.seq h).phase = .recover then refuse .busy s
    else f h s

/-- p_imm of a load with the settings in force (R1). -/
def State.pImmOf (s : State) (r : LoadRec) : Int := s.floorClearance + r.hang

/-- p_clr of a load with the settings in force (R1). -/
def State.pClrOf (s : State) (r : LoadRec) : Int := s.kettleDepth + s.clearMargin + r.hang

/-- The last row of the checks of PRESENT (R7). -/
def presentable (s : State) (h : Hoist) (r : LoadRec) : Bool :=
  decide (r.state = .registered) &&
    ((s.order? r.order).map OrderRec.isOpen).getD false &&
    ((s.jig? r.jig).map (fun j => j.carriedBy.isNone)).getD false &&
    (match (s.seq h).lift with
      | some x => decide (s.pClrOf r ≤ x)
      | none => false)

/-- The sequencer's items as a dip starts (R7). -/
def Sequencer.presented (q : Sequencer) (id : Nat) (pImm pClr : Int) : Sequencer :=
  { q with phase := .weighIn, load := some id, pImm := some pImm, pClr := some pClr, skim := .none,
           overdipRaised := false, causes := [] }

/-- A dip starts (R7): the load is IN_CYCLE, the jig carried, the positions computed, and the weigh-in asked for. -/
def startDip (h : Hoist) (r : LoadRec) (s : State) : State :=
  let s := modLoad r.id (fun l => { l with state := .inCycle, hoist := some h }) s
  let s := modJig r.jig (fun j => { j with carriedBy := some r.id }) s
  let s := modSeq h (fun q => q.presented r.id (s.pImmOf r) (s.pClrOf r)) s
  startWeigh h .weighIn s

/-- PRESENT at its owner (R7). -/
def present (hoist load : Nat) (s : State) : State × Answer :=
  match hoistOf hoist with
  | none => refuse .range s
  | some h =>
    if load = 0 ∨ 65535 < load then refuse .range s
    else if (s.seq h).phase = .disabled then refuse .disabled s
    else if (s.seq h).phase ≠ .idle then refuse .busy s
    else
      match s.load? load with
      | none => refuse .notFound s
      | some r => if presentable s h r then taken (endEvent (startDip h r s)) else refuse .state s

/-- HOLD at its owner (R6, R22). -/
def hold (hoist : Nat) : State → State × Answer :=
  onHoist hoist (fun h s =>
    match (s.seq h).phase with
    | .idle | .raising => refuse .state s
    | .held => taken s
    | _ => taken (endEvent (enterHeld h s)))

/-- A hoist in IMMERSE or AWAIT_SKIM that does not stand at p_imm is moved back there (R24). -/
def returnToImm (h : Hoist) (s : State) : State :=
  if ((s.seq h).phase = .immerse ∨ (s.seq h).phase = .awaitSkim) ∧ (s.seq h).standsAt (s.seq h).pImm = false then
    (issueLift h (s.seq h).pImm (s.entrySpeed h) s).1
  else s

/-- RESUME into IMMERSE (R15, R24): the decision where the countdown stands at 0. -/
def resumeImmerse (h : Hoist) (s : State) : State :=
  if (s.seq h).countdown = some 0 then endDecision h (if (s.seq h).overdip.isNone then startOverdip h s else s) else s

/-- RESUME into WITHDRAW (R18, R32): a withdraw time already written is kept. -/
def resumeWithdraw (h : Hoist) (s : State) : State :=
  liftOut h (modCarried h (fun r => { r with withdrawTime := some (r.withdrawTime.getD s.clock) }) s)

/-- RESUME into DRAIN (R19): first back to p_clr, then the countdowns go on from where they stood; a load never
admitted goes to TRAVEL_OUT (R21).  DEDUCED (log entry 43): so after the raise (R29) of a hoist whose drain had ended, held
in WEIGH_OUT, both stand at 0 and the drain ends at once; where none stand, DRAIN never having been entered, they are set to
the latched seconds (R19, R43). -/
def resumeDrain (h : Hoist) (s : State) : State :=
  if s.admitted h then
    let s := modSeq h (fun q =>
      { q with vibrate := some (q.vibrate.getD (((s.latched h).map Latched.vibrate).getD 0)),
               drain := some (q.drain.getD (((s.latched h).map Latched.drain).getD 0)) }) s
    if (s.seq h).standsAt (s.seq h).pClr then runDrain h s
    else (issueLift h (s.seq h).pClr (s.withdrawSpeed h) s).1
  else beginTravelOut h s

/-- RESUME into WEIGH_OUT (R20): first back to p_clr, then a new weigh-out. -/
def resumeWeighOut (h : Hoist) (s : State) : State :=
  if (s.seq h).standsAt (s.seq h).pClr then enterWeighOut h s
  else (issueLift h (s.seq h).pClr (s.withdrawSpeed h) s).1

/-- The work of the held phase is taken up again (R24). -/
def takeUp (h : Hoist) (p : Phase) (s : State) : State :=
  let s := modSeq h (fun q => { q with phase := p, heldPhase := none, holdTimer := none }) s
  match p with
  | .weighIn => startWeigh h .weighIn s
  | .awaitSpan => if (s.arbiter.spanOf (.hoist h)).isSome then beginTravelIn h s else s
  | .travelIn => beginTravelIn h s
  | .awaitAdmit => trial h s
  | .entry => beginEntry h s
  | .immerse => returnToImm h (resumeImmerse h s)
  | .awaitSkim => returnToImm h (endDecision h s)
  | .withdraw => resumeWithdraw h s
  | .drain => resumeDrain h s
  | .weighOut => resumeWeighOut h s
  | .travelOut => beginTravelOut h s
  | .raising => liftRaise h s
  | _ => s

/-- RESUME at its owner (R24). -/
def resume (hoist : Nat) : State → State × Answer :=
  onHoist hoist (fun h s =>
    match (s.seq h).phase with
    | .held =>
      if (s.seq h).lift.isNone || (s.seq h).travel.isNone then refuse .state s
      else
        match (s.seq h).heldPhase with
        | some p => taken (endEvent (takeUp h p s))
        | none => refuse .state s
    | .jogging => refuse .busy s
    | _ => refuse .state s)

/-- The lower bound of a jog's target (R25). -/
def jogLow (h : Hoist) (s : State) : Int :=
  if s.admitted h && (s.arbiter.spanOf (.hoist h)).isSome then (s.seq h).pImm.getD 0 else (s.seq h).pClr.getD 0

/-- The target of a jog (R25). -/
def jogTarget (h : Hoist) (lift delta : Int) (s : State) : Int :=
  clamp (jogLow h s) ((s.seq h).pClr.getD 0 + 500) (lift + delta)

/-- A jog is issued, or not, when its target is at hand (R25); the hold-button timer stops (R28). -/
def jogTo (h : Hoist) (target : Int) (s : State) : State :=
  let s := modSeq h (fun q => { q with holdTimer := none }) s
  if (s.seq h).standsAt (some target) then s else (issueMotion h .lift target s.jogSpeed (setPhase h .jogging s)).1

/-- JOG at its owner (R25); values are checked before the phase (log entry 12). -/
def jog (hoist : Nat) (delta : Int) (s : State) : State × Answer :=
  if (hoistOf hoist).isSome ∧ (delta = 0 ∨ inRange (-500) 500 delta = false) then refuse .range s
  else
    onHoist hoist (fun h s =>
      match (s.seq h).phase with
      | .held =>
        match (s.seq h).lift with
        | none => refuse .state s
        | some x => taken (endEvent (jogTo h (jogTarget h x delta s) s))
      | .jogging => refuse .busy s
      | _ => refuse .state s) s

/-- CANCEL at its owner (R27). -/
def cancel (hoist : Nat) : State → State × Answer :=
  onHoist hoist (fun h s =>
    match (s.seq h).phase with
    | .weighIn | .awaitSpan => taken (endEvent (withdrawClaim (.hoist h) (endDip h (stopWeigh h s))))
    | .travelIn | .awaitAdmit => taken (endEvent (beginTravelOut h s))
    | _ => refuse .state s)

/-- ACCEPT_UNWEIGHED at its owner (R9). -/
def acceptUnweighed (hoist : Nat) : State → State × Answer :=
  onHoist hoist (fun h s =>
    match (s.seq h).phase with
    | .weighIn =>
      taken (endEvent (enterAwaitSpan h
        (modCarried h (fun r => { r with flags := { r.flags with unweighedIn := true } }) (stopWeigh h s))))
    | _ => refuse .state s)

/-- FINISH_UNWEIGHED's conditions (R26). -/
def finishable (q : Sequencer) : Bool :=
  decide (q.phase = .held) && (decide (q.heldPhase = some .drain) || decide (q.heldPhase = some .weighOut)) && q.clear

/-- A dip finished without its weigh-out, the vibrate and drain time left being abandoned by making both absent (R26, log
entry 43); a load never admitted is not posted (R21, log entry 11). -/
def finishWithout (h : Hoist) (s : State) : State :=
  let s := modSeq h (fun q => { q with heldPhase := none, holdTimer := none, vibrate := none, drain := none }) s
  if s.admitted h then weighOutNone h s
  else beginTravelOut h (recordOut h (fun l => { l with wOut := none, flags := { l.flags with unweighedOut := true } }) s)

/-- FINISH_UNWEIGHED at its owner (R26). -/
def finishUnweighed (hoist : Nat) : State → State × Answer :=
  onHoist hoist (fun h s =>
    if (s.seq h).phase = .jogging then refuse .busy s
    else if finishable (s.seq h) then taken (endEvent (withDepthTrials (finishWithout h) s))
    else refuse .state s)

/-- ENABLE_HOIST at its owner (R31): the drive's first poll falls due (R160). -/
def enableHoist (hoist : Nat) (s : State) : State × Answer :=
  match hoistOf hoist with
  | none => refuse .range s
  | some h =>
    match (s.seq h).phase with
    | .disabled =>
      taken (endEvent (pollFallsDue (driveOf h) (modSeq h (fun q => { q with phase := .idle, enabled := true }) s)))
    | .idle => taken s
    | .recover => refuse .busy s
    | _ => refuse .state s

/-- DISABLE_HOIST at its owner (R31): the last reported positions become unknown. -/
def disableHoist (hoist : Nat) (s : State) : State × Answer :=
  match hoistOf hoist with
  | none => refuse .range s
  | some h =>
    match (s.seq h).phase with
    | .idle =>
      taken (endEvent
        (modSeq h (fun q => { q with phase := .disabled, enabled := false, lift := none, travel := none }) s))
    | .disabled => taken s
    | .recover => refuse .busy s
    | _ => refuse .state s

/-- PRESENT (R7). -/
def execPresent (hoist load : Nat) (s : State) : Host.Outcome State Fault Refusal :=
  .next (request 0x20 0 (present hoist load) s)

/-- HOLD (R22). -/
def execHold (hoist : Nat) (s : State) : Host.Outcome State Fault Refusal := .next (request 0x21 0 (hold hoist) s)

/-- RESUME (R24). -/
def execResume (hoist : Nat) (s : State) : Host.Outcome State Fault Refusal := .next (request 0x22 0 (resume hoist) s)

/-- JOG (R25). -/
def execJog (hoist : Nat) (delta : Int) (s : State) : Host.Outcome State Fault Refusal :=
  .next (request 0x23 0 (jog hoist delta) s)

/-- CANCEL (R27). -/
def execCancel (hoist : Nat) (s : State) : Host.Outcome State Fault Refusal := .next (request 0x24 0 (cancel hoist) s)

/-- ACCEPT_UNWEIGHED (R9). -/
def execAcceptUnweighed (hoist : Nat) (s : State) : Host.Outcome State Fault Refusal :=
  .next (request 0x25 0 (acceptUnweighed hoist) s)

/-- FINISH_UNWEIGHED (R26). -/
def execFinishUnweighed (hoist : Nat) (s : State) : Host.Outcome State Fault Refusal :=
  .next (request 0x26 0 (finishUnweighed hoist) s)

/-- ENABLE_HOIST (R31). -/
def execEnableHoist (hoist : Nat) (s : State) : Host.Outcome State Fault Refusal :=
  .next (request 0x27 0 (enableHoist hoist) s)

/-- DISABLE_HOIST (R31). -/
def execDisableHoist (hoist : Nat) (s : State) : Host.Outcome State Fault Refusal :=
  .next (request 0x28 0 (disableHoist hoist) s)

end Sys2Proof.Machine
end

