-- ==== Sys2Proof/Machine/Restart.lean ====
section
/-! DEFINITION. The two resets and start-up (chapter 11, R197 to R199), the supply, the reset input and the plant
clock. -/

namespace Sys2Proof.Machine

/-! ## A reset ends all work (R197) -/

/-- A station whose transactions, retries, commands and polls have ended; its codes stand (R170). -/
def StationState.idled (x : StationState) : StationState := { x with trans := none, pollDue := none, cmds := [] }

/-- The field line with nothing in progress (R170). -/
def FieldLine.idled (f : FieldLine) : FieldLine :=
  { f with
    driveA := f.driveA.idled, driveB := f.driveB.idled, scaleA := f.scaleA.idled, scaleB := f.scaleB.idled,
    skimmer := f.skimmer.idled, thermo := f.thermo.idled, level := f.level.idled, thermoSecs := 0, levelSecs := 0 }

/-- All work in progress of every block ends, with nothing reported of it; the vibrators and the lines go idle, the
receive buffer is emptied and a reply on the line is cut off (R175, R177, R197).  The module is in reset from here
until start-up.  DESIGN CHOICE (log entry 45): the skimmer stands IDLE until start-up gives its state (R63, R73), also
with the out-of-service flag set. -/
def endWork (s : State) : State :=
  { s with
    unit := { s.unit with restartPending := false, inReset := true, starting := none }
    link := { s.link with rx := .hunting, buffer := [], reply := none, lineF := false, lineP := false }
    seqA := Sequencer.fresh s.seqA.enabled s.seqA.pressed
    seqB := Sequencer.fresh s.seqB.enabled s.seqB.pressed
    engA := { s.engA with weigh := none }
    engB := { s.engB with weigh := none }
    arbiter := { s.arbiter with queue := [] }
    skimmer := { s.skimmer with mode := .idle, sweep := none, queue := [], pollsBegun := false }
    balance := { s.balance with pending := s.balance.pending.map (fun p => { p with waited := 0 }) }
    field := s.field.idled }

/-! ## The stages of start-up (R198) -/

/-- The numbering of R182. -/
def ResetKind.number : ResetKind → Nat
  | .supply => 0
  | .restart => 1
  | .input => 2

/-- Stage 2: the lines from the queue, then RESTARTED (R188). -/
def stageLink (k : ResetKind) (s : State) : State :=
  raise .restarted none none (some (k.number : Int)) none
    { s with unit := { s.unit with lastReset := k, inReset := false }, link := s.link.setLines }

/-- Stage 3: STORE_LOST while the store-lost mark is set, after a supply reset (R194). -/
def stageStore (k : ResetKind) (s : State) : State :=
  if k = .supply ∧ s.unit.storeLost = true then raise .storeLost none none none none s else s

/-- The retained load record that is IN_CYCLE with a hoist. -/
def State.inCycleWith (s : State) (h : Hoist) : Option LoadRec :=
  s.records.loads.find? (fun r => decide (r.state = .inCycle) && decide (r.hoist = some h))

/-- A hoist span whose hoist has no load IN_CYCLE with it is released (R61). -/
def dropOrphan (h : Hoist) (s : State) : State :=
  if (s.inCycleWith h).isNone then { s with arbiter := s.arbiter.release (.hoist h) } else s

/-- The span field of a load IN_CYCLE is its hoist's span in the map, or absent (R61). -/
def LoadRec.agree (a : SpanArbiter) (r : LoadRec) : LoadRec :=
  match r.state, r.hoist with
  | .inCycle, some h => { r with span := (a.spanOf (.hoist h)).map (fun p => (p.first, p.last)) }
  | _, _ => r

/-- The carried-by field is the load IN_CYCLE on the jig, or absent (R127). -/
def JigRec.agree (loads : List LoadRec) (j : JigRec) : JigRec :=
  { j with carriedBy :=
      (loads.find? (fun r => decide (r.state = .inCycle) && decide (r.jig = j.number))).map LoadRec.id }

/-- Stage 5: hoist spans, span fields and carried-by fields are agreed (R61, R127). -/
def stageRecords (s : State) : State :=
  let s := dropOrphan .B (dropOrphan .A s)
  let loads := s.records.loads.map (LoadRec.agree s.arbiter)
  { s with records := { s.records with loads := loads, jigs := s.records.jigs.map (JigRec.agree loads) } }

/-- Stage 6: the Bath Monitor takes the state of R90, and h_est is computed and compared (R83, R84). -/
def stageBath (s : State) : State :=
  refreshDepth { s with bath := { s.bath with
    channels := List.replicate 4 ChannelView.none, temp := none, polled := false, overArmed := true, quiet := false,
    settle := 0, levelArmed := true } }

/-- The start-up phase of a hoist (R3, R32): RECOVER with a retained load IN_CYCLE with it, else by its enable state. -/
def startHoist (h : Hoist) (s : State) : State :=
  let q := Sequencer.fresh (s.seq h).enabled (s.seq h).pressed
  match s.inCycleWith h with
  | none => setSeq h q s
  | some r =>
    setSeq h { q with
      phase := .recover, load := some r.id, pImm := some (s.pImmOf r), pClr := some (s.pClrOf r),
      centre := r.span.map (fun p => spanCentre s.kettleLength p.1 p.2), recoverWait := some 0 } s

/-- The start-up state of the skimmer (R73). -/
def startSkimmer (s : State) : State :=
  if s.skimmer.outFlag then
    { s with skimmer := { s.skimmer with mode := .outOfService, sweep := none, queue := [], pollsBegun := false } }
  else
    { s with skimmer := { s.skimmer with
        mode := .sweeping, queue := [], pollsBegun := false,
        sweep := some { hoist := none, span := none, start := s.clock, abort := true } } }

/-- Stage 7 (R198). -/
def stagePhases (s : State) : State := startSkimmer (startHoist .B (startHoist .A s))

/-- The stop of a hoist in RECOVER (R32). -/
def recoverStop (h : Hoist) (s : State) : State :=
  if (s.seq h).phase = .recover then sendCommand (driveOf h) .stop s else s

/-- The first poll of the drive of an enabled hoist (R160). -/
def firstPoll (h : Hoist) (s : State) : State :=
  if (s.seq h).phase = .disabled then s else pollFallsDue (driveOf h) s

/-- Stage 8: the field line starts (R170, R198). -/
def stageField (s : State) : State :=
  let s := recoverStop .B (recoverStop .A s)
  let s := if s.skimmer.mode = .sweeping then sendCommand .skimmer .abort s else s
  pollFallsDue .thermo (firstPoll .B (firstPoll .A s))

/-- The stage of this number, 2 to 8, of the start-up of a reset of this kind (R198). -/
def stage (k : ResetKind) : Nat → State → State
  | 2 => stageLink k
  | 3 => stageStore k
  | 4 => endRecon .abandoned
  | 5 => stageRecords
  | 6 => stageBath
  | 7 => stagePhases
  | 8 => stageField
  | _ => id

/-- The stages from 2 to `n`, in order; each works on the state that the stages before it have left (R198). -/
def stagesTo (k : ResetKind) (n : Nat) (s : State) : State :=
  (List.range' 2 (n - 1)).foldl (fun s i => stage k i s) s

/-- The commands that end a start-up in progress (R199): the assertion of the reset input and the loss of supply. -/
def endsStartUp : Instr → Bool
  | .resetInputAsserted => true
  | .supplyLost _ => true
  | _ => false

/-- A reset or a loss of supply waits, so that it can come while a start-up is still in progress (R199). -/
def State.interruptWaits (s : State) : Bool := s.pending.any endsStartUp

/-- A start-up that a reset or a loss of supply overtakes after stage `n` (R199): the stages so far are done, and the
module takes nothing until that command comes, which waits in the queue (R197, log entry 24). -/
def overtakenAt (n : Nat) (s : State) : State := { s with unit := { s.unit with inReset := true, starting := some n } }

/-- Where a reset or a loss of supply that waits overtakes the next start-up is the outside's: a free value (log entry
24). -/
def drawOvertaken (s : State) : State :=
  { s with unit := { s.unit with overtaken := Config.nextOvertaken s.free }, free := s.free + 1 }

/-- Where the start-up that begins now is overtaken: nowhere unless a reset or a loss of supply waits (R198, R199). -/
def State.overtaking (s : State) : Option (Fin 7) := if s.interruptWaits then s.unit.overtaken else none

/-- Start-up as one operation (R198): stages 2 to 8, at whose end the link receives; or, where a reset or a loss of supply
comes within it, the stages before that (R199). -/
def startUp (k : ResetKind) (s : State) : State :=
  match s.overtaking with
  | none => endEvent (stagesTo k 8 (drawOvertaken s))
  | some i => overtakenAt (i.val + 1) (stagesTo k (i.val + 1) (drawOvertaken s))

/-! ## The supply reset (stage 1) -/

/-- Every retained item at its default (R194). -/
def loseStore (s : State) : State :=
  { s with
    unit := { s.unit with storeLost := true, checkGood := true }
    settings := Settings.fresh
    records := { orders := [], loads := [], jigs := [] }
    balance := { book := 0, current := Period.fresh, closed := [], last := none, pending := none }
    arbiter := { service := List.replicate 12 true, spans := [], queue := [] }
    seqA := { s.seqA with enabled := true }
    seqB := { s.seqB with enabled := true }
    skimmer := { s.skimmer with outFlag := false } }

/-- The check of the retained store (R194). -/
def checkStore (s : State) : State := if s.unit.checkGood then s else loseStore s

/-- The calibration key, read once (R193). -/
def readKey (key : Bool) (s : State) : State :=
  if key then { s with settings := { s.settings with lock := false } } else s

/-- The items that a supply reset empties or clears (R90, R91, R94, R164, R170, R188, R194), with the straps read. -/
def supplyReset (fastBaud singleLine : Bool) (s : State) : State :=
  { s with
    unit := { s.unit with powered := true, inReset := true }
    link := { s.link with
      fastBaud := fastBaud, singleLine := singleLine, notices := [], overrun := false, maskFault := false,
      maskProgress := false, clock := 0 }
    engA := { weigh := none, last := none }
    engB := { weigh := none, last := none }
    bath := { s.bath with reading := none, hEst := none }
    window := []
    field :=
      { driveA := StationState.fresh, driveB := StationState.fresh, scaleA := StationState.fresh,
        scaleB := StationState.fresh, skimmer := StationState.fresh, thermo := StationState.fresh,
        level := StationState.fresh, instant := 0, thermoSecs := 0, levelSecs := 0 }
    capture := { record := none, multiple := false } }

/-- Stage 1 of a supply reset (R197, R198): all work ends, the straps are read, the store is checked, the key read. -/
def stageSupply (fastBaud singleLine key : Bool) (s : State) : State :=
  readKey key (endWork (checkStore (supplyReset fastBaud singleLine s)))

/-- The supply comes on (R197, R198). -/
def powerUp (fastBaud singleLine key : Bool) (s : State) : State :=
  startUp .supply (stageSupply fastBaud singleLine key s)

/-- The supply is lost (R194): a write of the store that it cut off makes the next check fail. -/
def powerDown (cutOff : Bool) (s : State) : State :=
  let s := endWork s
  { s with unit := { s.unit with powered := false, inReset := false, checkGood := s.unit.checkGood && !cutOff } }

/-! ## The reset input, the end of a reply, the clock -/

/-- The reset input is asserted (R197): the module is in reset until its release. -/
def enterReset (s : State) : State := endWork s

/-- The last byte of a reply has been sent (R175); after RESTART the command reset begins (R197).  The buffer is left empty
(log entry 50). -/
def replyEnds (s : State) : State :=
  if s.unit.restartPending then startUp .restart (endWork s)
  else { s with link := { s.link with rx := .hunting, buffer := [], reply := none } }

/-- The plant clock advances by one second (R187). -/
def advanceClock (s : State) : State :=
  { s with link := { s.link with clock := (s.link.clock + 1) % Config.clockModulus } }

/-- REPLY_SENT (R175, R197). -/
def execReplySent (s : State) : Host.Outcome State Fault Refusal :=
  .next (if s.active && decide (s.link.rx = .answering) then replyEnds s else s)

/-- SUPPLY_ON (R197, R198). -/
def execSupplyOn (fastBaud singleLine key : Bool) (s : State) : Host.Outcome State Fault Refusal :=
  .next (powerUp fastBaud singleLine key s)

/-- RESET_INPUT_ASSERTED (R197). -/
def execResetInputAsserted (s : State) : Host.Outcome State Fault Refusal :=
  .next (if s.unit.powered then enterReset s else s)

/-- RESET_INPUT_RELEASED (R197, R198): start-up begins, all work having ended at the assertion.  While a start-up stands
overtaken the input is not asserted, and its release is no change (R199). -/
def execResetInputReleased (s : State) : Host.Outcome State Fault Refusal :=
  .next (if s.unit.powered && s.unit.inReset && s.unit.starting.isNone then startUp .input (endWork s) else s)

/-- PLANT_CLOCK_ADVANCE (R187): it goes on through a command reset. -/
def execPlantClockAdvance (s : State) : Host.Outcome State Fault Refusal :=
  .next (if s.unit.powered then advanceClock s else s)

/-- SUPPLY_LOST (R194). -/
def execSupplyLost (cutOff : Bool) (s : State) : Host.Outcome State Fault Refusal :=
  .next (if s.unit.powered then powerDown cutOff s else s)

end Sys2Proof.Machine
end

