-- ==== Sys2Proof/Machine/SettingsStore.lean ====
section
/-! DEFINITION. The requests of the Settings Store (chapter 11, R190 to R196): settings, the calibration lock, identity
and status. -/

namespace Sys2Proof.Machine

/-! ## Settings (R190 to R192) -/

/-- The ids of R190. -/
def settingOk (id : Nat) : Bool := decide (1 ≤ id) && decide (id ≤ 37)

/-- The calibration values are ids 1 to 8 (R190, R193). -/
def isCalibration (id : Nat) : Bool := decide (1 ≤ id) && decide (id ≤ 8)

/-- The range of a setting (R190); the lower bound of station position B follows the kettle length. -/
def State.settingRange (s : State) : Nat → Int × Int
  | 1 => (4000, 24000)
  | 2 => (800, 3000)
  | 3 => (1000, 4000)
  | 4 => (1000, 6000)
  | 5 | 6 => (-8388608, 8388607)
  | 7 | 8 => (1, 65535)
  | 9 => (200, 1000)
  | 10 => (100, 500)
  | 11 => (0, 2000)
  | 12 => (2000 + s.kettleLength, 60000)
  | 13 => (50, 600)
  | 14 => (50, 300)
  | 15 => (5, 50)
  | 16 => (10, 120)
  | 17 => (0, 120)
  | 18 => (5, 600)
  | 19 => (4300, 4700)
  | 20 => (4200, 4600)
  | 21 => (4600, 5200)
  | 22 => (500, 4000)
  | 23 => (10000, 1000000)
  | 24 => (1, 200000)
  | 26 => (1, 10000)
  | 27 | 28 => (5, 120)
  | 29 => (0, 5000)
  | 37 => (0, 1)
  | _ => (0, 63)

/-- The values that window size N takes (R108). -/
def windowSizes : List Int := [8, 16, 32]

/-- The value as stored (R159, R191): a drive mask keeps only the bits of codes 2, 6 and 7. -/
def storedValue (id : Nat) (value : Int) : Int :=
  if id = 30 ∨ id = 31 then ((value.toNat &&& 49 : Nat) : Int) else value

/-- A setting takes a value. -/
def Settings.put (t : Settings) (id : Nat) (value : Int) : Settings := { t with values := t.values.set (id - 1) value }

def putSetting (id : Nat) (value : Int) (s : State) : State := { s with settings := s.settings.put id value }

/-- The value lies in its range; of the kettle length, with station B to the right of the new kettle end (R191). -/
def State.valueOk (s : State) (id : Nat) (value : Int) : Bool :=
  inRange (s.settingRange id).1 (s.settingRange id).2 value &&
    (decide (id ≠ 1) || decide (2000 + value ≤ s.stationPosition .B))

/-- WRITE_SETTING at its owner (R191); a write of the level warning is compared at once (R84). -/
def writeSetting (id : Nat) (value : Int) (s : State) : State × Answer :=
  if settingOk id = false then refuse .range s
  else if isCalibration id && s.settings.lock then refuse .locked s
  else if id = 25 then
    if windowSizes.contains value then takenWith (.setting value) (putSetting id value s) else refuse .ignored s
  else if s.valueOk id value = false then refuse .range s
  else
    let s' := putSetting id (storedValue id value) s
    takenWith (.setting (storedValue id value)) (if id = 22 then compareLevel s' else s')

/-- READ_SETTING at its owner (R192). -/
def readSetting (id : Nat) (s : State) : State × Answer :=
  if settingOk id then takenWith (.setting (s.setting id)) s else refuse .range s

/-- LOCK_CALIBRATION at its owner (R193). -/
def lockCalibration (s : State) : State × Answer := taken { s with settings := { s.settings with lock := true } }

/-! ## Identity and status (R195, R196) -/

/-- IDENTIFY at its owner (R195). -/
def identify (s : State) : State × Answer := takenWith (.identity s.link.fastBaud s.link.singleLine) s

/-- Part 3 of READ_STATUS (R92). -/
def State.bathStatus (s : State) : BathStatus :=
  { channels := s.bath.channels, temp := s.bath.temp, quiet := s.bath.quiet, settle := s.bath.settle,
    hEst := s.bath.hEst, entries := s.window.length, total := (s.window.map WindowEntry.weight).sum,
    oldestLeaves := s.window.head?.map (fun e => 3600 - e.age) }

/-- Part 4 of READ_STATUS (R196). -/
def State.moduleStatus (s : State) : ModuleStatus :=
  { clock := s.clock, lock := s.settings.lock
    lastReset := match s.unit.lastReset with | .supply => 0 | .restart => 1 | .input => 2
    orders := s.records.orders.length, loads := s.records.loads.length, jigs := s.records.jigs.length
    faultNotices := (s.link.notices.filter (fun n => n.kind.isFault)).length
    progressNotices := (s.link.notices.filter (fun n => n.kind.isProgress)).length
    overrun := s.link.overrun, maskFault := s.link.maskFault, maskProgress := s.link.maskProgress
    lineF := s.link.lineF, lineP := s.link.lineP
    reconPending := s.balance.pending.isSome, faultFull := s.capture.record.isSome, multiple := s.capture.multiple }

/-- READ_STATUS at its owner (R196). -/
def readStatus (part : Nat) (s : State) : State × Answer :=
  match part with
  | 0 => takenWith (.hoistStatus s.seqA s.engA) s
  | 1 => takenWith (.hoistStatus s.seqB s.engB) s
  | 2 => takenWith (.skimmerStatus s.skimmer.mode s.skimmer.sweep s.skimmer.queue) s
  | 3 => takenWith (.bathStatus s.bathStatus) s
  | 4 => takenWith (.moduleStatus s.moduleStatus) s
  | _ => refuse .range s

/-- RESTART at its owner (R197): the command reset begins when the reply has been sent. -/
def restart (s : State) : State × Answer := taken { s with unit := { s.unit with restartPending := true } }

/-! ## The commands -/

/-- IDENTIFY (R195). -/
def execIdentify (s : State) : Host.Outcome State Fault Refusal := .next (request 0x01 0 identify s)

/-- READ_STATUS (R196). -/
def execReadStatus (part : Nat) (s : State) : Host.Outcome State Fault Refusal :=
  .next (request 0x02 0 (readStatus part) s)

/-- RESTART (R197). -/
def execRestart (s : State) : Host.Outcome State Fault Refusal := .next (request 0x04 0 restart s)

/-- WRITE_SETTING (R191). -/
def execWriteSetting (id : Nat) (value : Int) (s : State) : Host.Outcome State Fault Refusal :=
  .next (request 0x08 0 (writeSetting id value) s)

/-- READ_SETTING (R192). -/
def execReadSetting (id : Nat) (s : State) : Host.Outcome State Fault Refusal :=
  .next (request 0x09 0 (readSetting id) s)

/-- LOCK_CALIBRATION (R193). -/
def execLockCalibration (s : State) : Host.Outcome State Fault Refusal := .next (request 0x0C 0 lockCalibration s)

end Sys2Proof.Machine
end

