-- ==== Sys2Proof/Machine/ZoneCommands.lean ====
section
/-! DEFINITION. The requests of the Span Arbiter (chapter 3, R51 to R60). -/

namespace Sys2Proof.Machine

/-- A zone number lies in 1..12 (R46). -/
def zoneOk (z : Nat) : Bool := decide (1 ≤ z) && decide (z ≤ 12)

/-- A maintenance number lies in 1..4 (R47). -/
def maintOk (n : Nat) : Bool := decide (1 ≤ n) && decide (n ≤ 4)

/-- The service state of one zone is set. -/
def setService (zone : Nat) (inService : Bool) (s : State) : State :=
  { s with arbiter := { s.arbiter with service := s.arbiter.service.set (zone - 1) inService } }

/-- SET_ZONE_SERVICE at its owner (R59). -/
def setZoneService (zone state : Nat) (s : State) : State × Answer :=
  match serviceOf state with
  | none => refuse .range s
  | some inService =>
    if zoneOk zone = false then refuse .range s
    else if inService then
      if s.arbiter.inService zone then taken s else taken (endEvent (placeClaims (setService zone true s)))
    else if (s.arbiter.ownerOf zone).isSome then refuse .state s
    else taken (setService zone false s)

/-- The outcome that CLAIM_ZONES answers (R51): granted with its zones, or waiting with its place. -/
def claimOutcome (o : Owner) (s : State) : ReplyBody :=
  match s.arbiter.spanOf o with
  | some p => .spanGranted p.first p.last
  | none => .claimWaiting (s.arbiter.placeInQueue o)

/-- CLAIM_ZONES at its owner (R51). -/
def claimZones (number first last : Nat) (s : State) : State × Answer :=
  if maintOk number = false then refuse .range s
  else if zoneOk first = false ∨ zoneOk last = false ∨ last < first then refuse .range s
  else if (s.arbiter.spanOf (.maint number)).isSome ∨ s.arbiter.waits (.maint number) = true then refuse .exists s
  else
    let s' := endEvent (joinClaim { claimant := .maint number, need := .zones first last, joined := s.clock } s)
    takenWith (claimOutcome (.maint number) s') s'

/-- RELEASE_ZONES at its owner (R58). -/
def releaseZones (number : Nat) (s : State) : State × Answer :=
  if maintOk number = false then refuse .range s
  else if (s.arbiter.spanOf (.maint number)).isSome then
    takenWith .spanReleased (endEvent (releaseSpan (.maint number) s))
  else if s.arbiter.waits (.maint number) then
    takenWith .claimWithdrawn (endEvent (withdrawClaim (.maint number) s))
  else refuse .notFound s

/-- READ_ZONES at its owner (R60). -/
def readZones (s : State) : State × Answer :=
  takenWith (.zones s.arbiter.entries s.arbiter.listed s.arbiter.queue) s

/-- SET_ZONE_SERVICE (R59). -/
def execSetZoneService (zone state : Nat) (s : State) : Host.Outcome State Fault Refusal :=
  .next (request 0x30 0 (setZoneService zone state) s)

/-- CLAIM_ZONES (R51). -/
def execClaimZones (number first last : Nat) (s : State) : Host.Outcome State Fault Refusal :=
  .next (request 0x31 0 (claimZones number first last) s)

/-- RELEASE_ZONES (R58). -/
def execReleaseZones (number : Nat) (s : State) : Host.Outcome State Fault Refusal :=
  .next (request 0x32 0 (releaseZones number) s)

/-- READ_ZONES (R60). -/
def execReadZones (s : State) : Host.Outcome State Fault Refusal := .next (request 0x33 0 readZones s)

end Sys2Proof.Machine
end

