-- ==== Sys2Proof/Machine/Frames.lean ====
section
/-! DEFINITION. The Plant Link Interface at its bytes (chapter 10, R172 to R177): the receiving states, the check of a
whole frame, and the passing of the request in hand to its owner. -/

namespace Sys2Proof.Machine

/-- The owner's taking of each request of the index (R180); an event has none. -/
def ownerOf : Instr → Option (State → State × Answer)
  | .identify => some identify
  | .readStatus part => some (readStatus part)
  | .setClock v => some (setClock v)
  | .restart => some restart
  | .writeSetting id v => some (writeSetting id v)
  | .readSetting id => some (readSetting id)
  | .writeClass t n f1 f2 f3 f4 f5 f6 => some (writeClass t n f1 f2 f3 f4 f5 f6)
  | .readClass t n => some (readClass t n)
  | .lockCalibration => some lockCalibration
  | .openOrder n r => some (openOrder n r)
  | .closeOrder n => some (closeOrder n)
  | .readOrder n => some (readOrder n)
  | .removeOrder n => some (removeOrder n)
  | .registerLoad id order jig sect silicon thick zones hang height declared =>
    some (registerLoad id order jig sect silicon thick zones hang height declared)
  | .readLoad id => some (readLoad id)
  | .removeLoad id => some (removeLoad id)
  | .addJig j b a => some (addJig j b a)
  | .readJig j => some (readJig j)
  | .stripJig j b => some (stripJig j b)
  | .removeJig j => some (removeJig j)
  | .present h l => some (present h l)
  | .hold h => some (hold h)
  | .resume h => some (resume h)
  | .jog h d => some (jog h d)
  | .cancel h => some (cancel h)
  | .acceptUnweighed h => some (acceptUnweighed h)
  | .finishUnweighed h => some (finishUnweighed h)
  | .enableHoist h => some (enableHoist h)
  | .disableHoist h => some (disableHoist h)
  | .setZoneService z st => some (setZoneService z st)
  | .claimZones n f l => some (claimZones n f l)
  | .releaseZones n => some (releaseZones n)
  | .readZones => some readZones
  | .restoreSkimmer => some restoreSkimmer
  | .chargeZinc w => some (chargeZinc w)
  | .reportDross w => some (reportDross w)
  | .reportAsh w => some (reportAsh w)
  | .reconcile r => some (reconcile r)
  | .readBalance => some readBalance
  | .closePeriod => some closePeriod
  | .readPeriod n => some (readPeriod n)
  | .discardPeriod n => some (discardPeriod n)
  | .fetchNotice => some fetchNotice
  | .setNoticeMask f p => some (setNoticeMask f p)
  | .readFault => some readFault
  | .ackFault => some ackFault
  | .readFieldStatus c => some (readFieldStatus c)
  | .unknownKindRequest _ _ | .frameDiscarded | .frameGapTimeout | .replySent | .supplyOn _ _ _
  | .resetInputAsserted | .resetInputReleased | .plantClockAdvance | .holdButtonPress _ | .holdButtonRelease _
  | .holdButton4sMark _ | .motionOverdue _ | .skimLeadReached _ | .immersionCountdownZero _ | .skimWaitExpired _
  | .overdipLimitExceeded _ | .vibrateEnd _ | .drainEnd _ | .recoveryTimeout _ | .weighInTimeout _
  | .weighOutTimeout _ | .gateTrialTick _ | .windowEntryExpiry | .kettleQuiet | .reconcileTimeout
  | .fieldPollDue _ | .fieldRetryDue _ | .fieldNoAnswer _ | .fieldAnswerReceived _ _ _ | .frameByteReceived _
  | .supplyLost _ => none

/-- The request in hand is checked, refused by the interface or taken to its owner, and answered (R176, R177). -/
def serve (kind tag : Nat) (payload : List Byte) (s : State) : State :=
  match checkForm kind payload with
  | .unknownKind => respond kind tag (refuse .unknownKind s).2 s
  | .format => respond kind tag (refuse .format s).2 s
  | .request i =>
    match ownerOf i with
    | some f => respond kind tag (f s).2 (f s).1
    | none => s

/-- A frame is discarded: HUNTING, with no reply (R175).  DESIGN CHOICE (log entry 50): the buffer is emptied here. -/
def discardFrame (s : State) : State := { s with link := { s.link with rx := .hunting, buffer := [] } }

/-- The payload length that a buffer's byte 1 gives (R173). -/
def frameLength (buffer : List Byte) : Nat := field buffer 1 1

/-- Byte 1 gives a length above 200 (R175). -/
def lengthBad (buffer : List Byte) : Bool := decide (2 ≤ buffer.length) && decide (200 < frameLength buffer)

/-- n + 6 bytes are held (R175). -/
def frameWhole (buffer : List Byte) : Bool := decide (frameLength buffer + 6 ≤ buffer.length) && decide (2 ≤ buffer.length)

/-- The CRC of a whole frame agrees with the two bytes received, high byte first (R173, R174). -/
def frameGood (buffer : List Byte) : Bool :=
  let n := frameLength buffer
  decide ((crc ((buffer.drop 1).take (n + 3))).toNat = 256 * field buffer (4 + n) 1 + field buffer (5 + n) 1)

/-- A byte stored in RECEIVING (R175). -/
def storeByte (b : Byte) (s : State) : State :=
  let buffer := s.link.buffer ++ [b]
  if lengthBad buffer then discardFrame s
  else if frameWhole buffer then
    if frameGood buffer then
      serve (field buffer 2 1) (field buffer 3 1) ((buffer.drop 4).take (frameLength buffer)) s
    else discardFrame s
  else { s with link := { s.link with buffer := buffer } }

/-- A byte arrives (R175). -/
def receiveByte (b : Byte) (s : State) : State :=
  match s.link.rx with
  | .hunting => if b = 0xA7#8 then { s with link := { s.link with rx := .receiving, buffer := [b] } } else s
  | .receiving => storeByte b s
  | .answering => s

/-- A request of a kind outside the index is answered UNKNOWN_KIND (R176); a kind of the index is no such request. -/
def unknownKind (kind tag : Nat) (s : State) : State :=
  if s.listening && (payloadLength kind).isNone then respond kind tag (refuse .unknownKind s).2 s else s

/-- UNKNOWN_KIND_REQUEST (R176, R180). -/
def execUnknownKindRequest (kind tag : Nat) (s : State) : Host.Outcome State Fault Refusal :=
  .next (unknownKind kind tag s)

/-- FRAME_DISCARDED (R175). -/
def execFrameDiscarded (s : State) : Host.Outcome State Fault Refusal :=
  .next (if s.active && decide (s.link.rx = .receiving) then discardFrame s else s)

/-- FRAME_GAP_TIMEOUT (R175): more than 5 ms between two bytes of a frame. -/
def execFrameGapTimeout (s : State) : Host.Outcome State Fault Refusal :=
  .next (if s.active then (if s.link.rx = .receiving then discardFrame s else s) else s)

/-- FRAME_BYTE_RECEIVED (R175). -/
def execFrameByteReceived (b : Byte) (s : State) : Host.Outcome State Fault Refusal :=
  .next (if s.active then receiveByte b s else s)

end Sys2Proof.Machine
end

