-- ==== Sys2Proof/Machine/SequencerTimers.lean ====
section
/-! DEFINITION. The events of a hoist's own timing and of its hold button (chapter 1, R5 to R32; chapter 6, R104,
R105).  An event whose rule's condition does not hold when it comes changes nothing (log entry 5). -/

namespace Sys2Proof.Machine

/-! ## The hold button (R28, R29) -/

/-- A press is taken according to the phase (R28); the input level is kept in every phase. -/
def pressButton (h : Hoist) (s : State) : State :=
  let s := modSeq h (fun q => { q with pressed := true }) s
  let p := (s.seq h).phase
  if p.inCycle || decide (p = .jogging) then modSeq h (fun q => { q with holdTimer := some 0 }) (enterHeld h s)
  else if p = .held then modSeq h (fun q => { q with holdTimer := some 0 }) s
  else s

/-- A release stops the timer (R28). -/
def releaseButton (h : Hoist) (s : State) : State :=
  modSeq h (fun q => { q with pressed := false, holdTimer := none }) s

/-- The level of the input while the module is off or in reset: nothing else follows it (R28, R197). -/
def holdLevel (h : Hoist) (level : Bool) (s : State) : State := modSeq h (fun q => { q with pressed := level }) s

/-- The timer has run for 4 s with the button still pressed (R29). -/
def fourSecondsDue (h : Hoist) (s : State) : Bool :=
  (s.seq h).pressed && decide ((s.seq h).phase = .held) &&
    (match (s.seq h).holdTimer with
      | some n => decide (4 ≤ n)
      | none => false)

/-- The 4 s mark (R29): a load in the bath is raised; else the hoist stays HELD and the timer stops. -/
def fourSecondMark (h : Hoist) (s : State) : State :=
  if (s.seq h).inBath then enterRaising h s else modSeq h (fun q => { q with holdTimer := none }) s

/-! ## Motions and recovery (R5, R30, R32) -/

/-- MOTION_OVERDUE (R5): reported to Fault Capture, and the hoist becomes HELD. -/
def overdue (h : Hoist) (s : State) : State := enterHeld h (capture (overdueFault s h) s)

/-- MOTION_OVERDUE of a motion that a drive fault, which came together with it, has ended (R171): it is reported to Fault
Capture, and the hoist stays HELD (log entry 40). -/
def lateOverdue (h : Hoist) (s : State) : State :=
  match (s.seq h).phase, (s.seq h).motion, (s.seq h).lateAxis with
  | .held, none, some axis =>
    capture { overdueFault s h with data := (s.seq h).position axis } (modSeq h (fun q => { q with lateAxis := none }) s)
  | _, _, _ => s

/-- 10 s have passed since the stop of a recovery with no answer at rest (R32). -/
def recoveryDue (h : Hoist) (s : State) : Bool :=
  decide ((s.seq h).phase = .recover) &&
    (match (s.seq h).recoverWait with
      | some n => decide (10 ≤ n)
      | none => false)

/-! ## Vibrate and drain (R19) -/

/-- The drain countdowns run: in DRAIN with no motion back to p_clr in flight (R19). -/
def draining (q : Sequencer) : Bool := decide (q.phase = .drain) && q.motion.isNone

/-- The vibrate countdown has reached 0 with the vibrator still on (R19). -/
def vibrateDue (h : Hoist) (s : State) : Bool :=
  draining (s.seq h) && (s.seq h).vibratorOn && decide ((s.seq h).vibrate = some 0)

/-- The drain countdown has reached 0 after the vibrate countdown (R19). -/
def drainDue (h : Hoist) (s : State) : Bool :=
  draining (s.seq h) && !(s.seq h).vibratorOn && decide ((s.seq h).vibrate.getD 0 = 0) &&
    decide ((s.seq h).drain = some 0)

/-! ## Weigh timeouts (R104, R105) -/

/-- The weigh-in timeout (R8, R104): WEIGH_UNSTABLE, once, and the weigh goes on. -/
def weighInPasses (h : Hoist) (s : State) : State :=
  let d := (s.eng h).weigh.map (fun w => (w.timeout : Int))
  raiseFor h .weighUnstable d none (markTimeout h s)

/-- The weigh-out timeout (R20, R105): the best window's weight, unsettled, or no weight. -/
def weighOutPasses (h : Hoist) (s : State) : State :=
  match timeoutWeight h s with
  | some (w, r) => weighOutWith h w r true (stopWeigh h s)
  | none => if (s.seq h).phase = .weighOut then weighOutNone h (stopWeigh h s) else stopWeigh h s

/-! ## The events -/

/-- HOLD_BUTTON_PRESS (R28). -/
def execHoldButtonPress (h : Hoist) (s : State) : Host.Outcome State Fault Refusal :=
  .next (if s.active then endEvent (pressButton h s) else holdLevel h true s)

/-- HOLD_BUTTON_RELEASE (R28). -/
def execHoldButtonRelease (h : Hoist) (s : State) : Host.Outcome State Fault Refusal :=
  .next (if s.active then endEvent (releaseButton h s) else holdLevel h false s)

/-- HOLD_BUTTON_4S_MARK (R29). -/
def execHoldButton4sMark (h : Hoist) (s : State) : Host.Outcome State Fault Refusal :=
  .next (event (fun s => if fourSecondsDue h s then fourSecondMark h s else s) s)

/-- MOTION_OVERDUE (R5, R171). -/
def execMotionOverdue (h : Hoist) (s : State) : Host.Outcome State Fault Refusal :=
  .next (event (fun s => if overdueDue h s then overdue h s else lateOverdue h s) s)

/-- SKIM_LEAD_REACHED (R14). -/
def execSkimLeadReached (h : Hoist) (s : State) : Host.Outcome State Fault Refusal :=
  .next (event (sendSkimAtLead h) s)

/-- IMMERSION_COUNTDOWN_ZERO (R15, R17). -/
def execImmersionCountdownZero (h : Hoist) (s : State) : Host.Outcome State Fault Refusal :=
  .next (event (fun s => if countdownZeroDue h s then countdownZero h s else s) s)

/-- SKIM_WAIT_EXPIRED (R16). -/
def execSkimWaitExpired (h : Hoist) (s : State) : Host.Outcome State Fault Refusal :=
  .next (event (checkSkimWait h) s)

/-- OVERDIP_LIMIT_EXCEEDED (R17). -/
def execOverdipLimitExceeded (h : Hoist) (s : State) : Host.Outcome State Fault Refusal :=
  .next (event (compareOverdip h) s)

/-- VIBRATE_END (R19). -/
def execVibrateEnd (h : Hoist) (s : State) : Host.Outcome State Fault Refusal :=
  .next (event (fun s => if vibrateDue h s then runDrain h s else s) s)

/-- DRAIN_END (R19). -/
def execDrainEnd (h : Hoist) (s : State) : Host.Outcome State Fault Refusal :=
  .next (event (fun s => if drainDue h s then enterWeighOut h s else s) s)

/-- RECOVERY_TIMEOUT (R32). -/
def execRecoveryTimeout (h : Hoist) (s : State) : Host.Outcome State Fault Refusal :=
  .next (event (fun s => if recoveryDue h s then recoverInBath h s else s) s)

/-- WEIGH_IN_TIMEOUT (R8, R104). -/
def execWeighInTimeout (h : Hoist) (s : State) : Host.Outcome State Fault Refusal :=
  .next (event (fun s => if weighTimeoutDue h .weighIn s then weighInPasses h s else s) s)

/-- WEIGH_OUT_TIMEOUT (R20, R105). -/
def execWeighOutTimeout (h : Hoist) (s : State) : Host.Outcome State Fault Refusal :=
  .next (event (fun s => if weighTimeoutDue h .weighOut s then withDepthTrials (weighOutPasses h) s else s) s)

end Sys2Proof.Machine
end

