-- ==== Sys2Proof/Machine/Dispatch.lean ====
section
/-! DEFINITION. What each command does: one arm per row of the table, each one direct call of its meaning. -/

namespace Sys2Proof.Machine

/-- The effect of a command on everything but the queue. -/
def exec (i : Instr) (s : State) : Host.Outcome State Fault Refusal :=
  match i with
  | .identify => Sys2Proof.Machine.execIdentify s
  | .readStatus part => Sys2Proof.Machine.execReadStatus part s
  | .setClock value => Sys2Proof.Machine.execSetClock value s
  | .restart => Sys2Proof.Machine.execRestart s
  | .writeSetting id value => Sys2Proof.Machine.execWriteSetting id value s
  | .readSetting id => Sys2Proof.Machine.execReadSetting id s
  | .writeClass table number f1 f2 f3 f4 f5 f6 => Sys2Proof.Machine.execWriteClass table number f1 f2 f3 f4 f5 f6 s
  | .readClass table number => Sys2Proof.Machine.execReadClass table number s
  | .lockCalibration => Sys2Proof.Machine.execLockCalibration s
  | .openOrder number reference => Sys2Proof.Machine.execOpenOrder number reference s
  | .closeOrder number => Sys2Proof.Machine.execCloseOrder number s
  | .readOrder number => Sys2Proof.Machine.execReadOrder number s
  | .removeOrder number => Sys2Proof.Machine.execRemoveOrder number s
  | .registerLoad id order jig sect silicon thick zones hang height declared => Sys2Proof.Machine.execRegisterLoad id order jig sect silicon thick zones hang height declared s
  | .readLoad id => Sys2Proof.Machine.execReadLoad id s
  | .removeLoad id => Sys2Proof.Machine.execRemoveLoad id s
  | .addJig jig base allowance => Sys2Proof.Machine.execAddJig jig base allowance s
  | .readJig jig => Sys2Proof.Machine.execReadJig jig s
  | .stripJig jig newBase => Sys2Proof.Machine.execStripJig jig newBase s
  | .removeJig jig => Sys2Proof.Machine.execRemoveJig jig s
  | .present hoist load => Sys2Proof.Machine.execPresent hoist load s
  | .hold hoist => Sys2Proof.Machine.execHold hoist s
  | .resume hoist => Sys2Proof.Machine.execResume hoist s
  | .jog hoist delta => Sys2Proof.Machine.execJog hoist delta s
  | .cancel hoist => Sys2Proof.Machine.execCancel hoist s
  | .acceptUnweighed hoist => Sys2Proof.Machine.execAcceptUnweighed hoist s
  | .finishUnweighed hoist => Sys2Proof.Machine.execFinishUnweighed hoist s
  | .enableHoist hoist => Sys2Proof.Machine.execEnableHoist hoist s
  | .disableHoist hoist => Sys2Proof.Machine.execDisableHoist hoist s
  | .setZoneService zone state => Sys2Proof.Machine.execSetZoneService zone state s
  | .claimZones number first last => Sys2Proof.Machine.execClaimZones number first last s
  | .releaseZones number => Sys2Proof.Machine.execReleaseZones number s
  | .readZones => Sys2Proof.Machine.execReadZones s
  | .restoreSkimmer => Sys2Proof.Machine.execRestoreSkimmer s
  | .chargeZinc weight => Sys2Proof.Machine.execChargeZinc weight s
  | .reportDross weight => Sys2Proof.Machine.execReportDross weight s
  | .reportAsh weight => Sys2Proof.Machine.execReportAsh weight s
  | .reconcile rebase => Sys2Proof.Machine.execReconcile rebase s
  | .readBalance => Sys2Proof.Machine.execReadBalance s
  | .closePeriod => Sys2Proof.Machine.execClosePeriod s
  | .readPeriod number => Sys2Proof.Machine.execReadPeriod number s
  | .discardPeriod number => Sys2Proof.Machine.execDiscardPeriod number s
  | .fetchNotice => Sys2Proof.Machine.execFetchNotice s
  | .setNoticeMask fault progress => Sys2Proof.Machine.execSetNoticeMask fault progress s
  | .readFault => Sys2Proof.Machine.execReadFault s
  | .ackFault => Sys2Proof.Machine.execAckFault s
  | .readFieldStatus clear => Sys2Proof.Machine.execReadFieldStatus clear s
  | .unknownKindRequest kind tag => Sys2Proof.Machine.execUnknownKindRequest kind tag s
  | .frameDiscarded => Sys2Proof.Machine.execFrameDiscarded s
  | .frameGapTimeout => Sys2Proof.Machine.execFrameGapTimeout s
  | .replySent => Sys2Proof.Machine.execReplySent s
  | .supplyOn fastBaud singleLine key => Sys2Proof.Machine.execSupplyOn fastBaud singleLine key s
  | .resetInputAsserted => Sys2Proof.Machine.execResetInputAsserted s
  | .resetInputReleased => Sys2Proof.Machine.execResetInputReleased s
  | .plantClockAdvance => Sys2Proof.Machine.execPlantClockAdvance s
  | .holdButtonPress h => Sys2Proof.Machine.execHoldButtonPress h s
  | .holdButtonRelease h => Sys2Proof.Machine.execHoldButtonRelease h s
  | .holdButton4sMark h => Sys2Proof.Machine.execHoldButton4sMark h s
  | .motionOverdue h => Sys2Proof.Machine.execMotionOverdue h s
  | .skimLeadReached h => Sys2Proof.Machine.execSkimLeadReached h s
  | .immersionCountdownZero h => Sys2Proof.Machine.execImmersionCountdownZero h s
  | .skimWaitExpired h => Sys2Proof.Machine.execSkimWaitExpired h s
  | .overdipLimitExceeded h => Sys2Proof.Machine.execOverdipLimitExceeded h s
  | .vibrateEnd h => Sys2Proof.Machine.execVibrateEnd h s
  | .drainEnd h => Sys2Proof.Machine.execDrainEnd h s
  | .recoveryTimeout h => Sys2Proof.Machine.execRecoveryTimeout h s
  | .weighInTimeout h => Sys2Proof.Machine.execWeighInTimeout h s
  | .weighOutTimeout h => Sys2Proof.Machine.execWeighOutTimeout h s
  | .gateTrialTick h => Sys2Proof.Machine.execGateTrialTick h s
  | .windowEntryExpiry => Sys2Proof.Machine.execWindowEntryExpiry s
  | .kettleQuiet => Sys2Proof.Machine.execKettleQuiet s
  | .reconcileTimeout => Sys2Proof.Machine.execReconcileTimeout s
  | .fieldPollDue st => Sys2Proof.Machine.execFieldPollDue st s
  | .fieldRetryDue st => Sys2Proof.Machine.execFieldRetryDue st s
  | .fieldNoAnswer st => Sys2Proof.Machine.execFieldNoAnswer st s
  | .fieldAnswerReceived st code report => Sys2Proof.Machine.execFieldAnswerReceived st code report s
  | .frameByteReceived b => Sys2Proof.Machine.execFrameByteReceived b s
  | .supplyLost cutOff => Sys2Proof.Machine.execSupplyLost cutOff s

end Sys2Proof.Machine
end

