-- ==== Sys2Proof/Machine/Timing.lean ====
section
/-! DEFINITION. One second of the module's own timing (log entry 3): what the blocks count by the second, and the
events that the counts make due, which then wait in the queue. -/

namespace Sys2Proof.Machine

/-- A countdown that stays at 0 (R14, R19). -/
def countDown (n : Option Nat) : Option Nat := n.map (fun k => k - 1)

def countUp (n : Option Nat) : Option Nat := n.map (fun k => k + 1)

/-- The immersion countdown runs in IMMERSE and held (R14, R23, R25). -/
def Phase.immersing (p : Phase) : Bool := decide (p = .immerse) || p.heldLike

/-- The skim wait count runs in AWAIT_SKIM and held (R16, R23). -/
def Phase.awaitingSkim (p : Phase) : Bool := decide (p = .awaitSkim) || p.heldLike

/-- The overdip count runs in IMMERSE, AWAIT_SKIM and held (R17). -/
def Phase.overdipping (p : Phase) : Bool := p.immersing || decide (p = .awaitSkim)

/-- One second of a sequencer (R3). -/
def Sequencer.second (q : Sequencer) : Sequencer :=
  { q with
    countdown := if q.phase.immersing then countDown q.countdown else q.countdown
    overdip := if q.phase.overdipping then countUp q.overdip else q.overdip
    skimWait := if q.phase.awaitingSkim && decide (q.skim = .waiting) then countUp q.skimWait else q.skimWait
    vibrate := if draining q && q.vibratorOn then countDown q.vibrate else q.vibrate
    drain := if draining q && !q.vibratorOn then countDown q.drain else q.drain
    motion := q.motion.map (fun m => { m with elapsed := m.elapsed + 1 })
    holdTimer := countUp q.holdTimer
    recoverWait := countUp q.recoverWait
    lateAxis := none }

/-- One second of a Weigh Engine (R94). -/
def WeighEngine.second (e : WeighEngine) : WeighEngine :=
  { e with weigh := e.weigh.map (fun w => { w with elapsed := w.elapsed + 1 }) }

/-- One second of the quiet settle count (R80). -/
def State.settleSecond (s : State) : Nat := if s.disturbed then 0 else min 30 (s.bath.settle + 1)

/-- The seconds since a periodic poll was last due: back to 0 as the interval is reached (R160). -/
def nextSecs (interval n : Nat) : Nat := if interval ≤ n + 1 then 0 else n + 1

/-- Every count that runs by the second advances by one. -/
def countSecond (s : State) : State :=
  { s with
    seqA := s.seqA.second
    seqB := s.seqB.second
    engA := s.engA.second
    engB := s.engB.second
    bath := { s.bath with settle := s.settleSecond }
    window := s.window.map (fun e => { e with age := e.age + 1 })
    balance := { s.balance with pending := s.balance.pending.map (fun p => { p with waited := p.waited + 1 }) }
    field := { s.field with thermoSecs := nextSecs 2 s.field.thermoSecs,
                            levelSecs := if s.bath.quiet then nextSecs 10 s.field.levelSecs else 0 } }

/-- An event that is due. -/
def dueIf (b : Bool) (i : Instr) : List Instr := if b then [i] else []

/-- The events of one hoist that its counts make due; the overdip limit before what can stop the count (R17). -/
def hoistEvents (h : Hoist) (s : State) : List Instr :=
  dueIf (skimLeadDue h s) (.skimLeadReached h) ++
  dueIf (countdownZeroDue h s) (.immersionCountdownZero h) ++
  dueIf (overdipDue h s) (.overdipLimitExceeded h) ++
  dueIf (skimWaitDue h s) (.skimWaitExpired h) ++
  dueIf (vibrateDue h s) (.vibrateEnd h) ++
  dueIf (drainDue h s) (.drainEnd h) ++
  dueIf (overdueDue h s) (.motionOverdue h) ++
  dueIf (fourSecondsDue h s) (.holdButton4sMark h) ++
  dueIf (recoveryDue h s) (.recoveryTimeout h) ++
  dueIf (weighTimeoutDue h .weighIn s) (.weighInTimeout h) ++
  dueIf (weighTimeoutDue h .weighOut s) (.weighOutTimeout h) ++
  dueIf (decide ((s.seq h).phase = .awaitAdmit)) (.gateTrialTick h)

/-- The events that the counts make due, in a fixed order (log entry 3). -/
def dueEvents (s : State) : List Instr :=
  hoistEvents .A s ++ hoistEvents .B s ++
  (s.window.filter (fun e => decide (3600 ≤ e.age))).map (fun _ => .windowEntryExpiry) ++
  dueIf (quietDue s) .kettleQuiet ++
  dueIf (reconcileDue s) .reconcileTimeout ++
  dueIf (decide (s.field.thermoSecs = 0)) (.fieldPollDue .thermo) ++
  dueIf (s.bath.quiet && decide (s.field.levelSecs = 0)) (.fieldPollDue .level)

/-- One second passes.  The plant clock advances first; in a reset nothing else is counted (R91, R197). -/
def tick (s : State) : State :=
  if s.active then
    let t := countSecond s
    { t with pending := .plantClockAdvance :: dueEvents t }
  else if s.unit.powered then { s with pending := [.plantClockAdvance] }
  else s

end Sys2Proof.Machine
end

