-- ==== Sys2Proof/Machine/Encode.lean ====
section
/-! DEFINITION. The bytes of a reply frame (R173, R177, R179).  Where R179 and the owning rules leave the form of a
field open, the form taken here is the model's (log entry 15). -/

namespace Sys2Proof.Machine

/-! ## Forms (R179) -/

def enc1 (v : Nat) : List Byte := natBytes 1 v
def enc2 (v : Nat) : List Byte := natBytes 2 v
def enc4 (v : Nat) : List Byte := natBytes 4 v
def encS2 (v : Int) : List Byte := natBytes 2 (v % 65536).toNat
def encS4 (v : Int) : List Byte := intBytes v

/-- A flag or a yes-and-no value: 0 for no or clear, 1 for yes or set (R180, R184, R185; log entry 15). -/
def encFlag (b : Bool) : List Byte := enc1 b.toNat

/-- A value of a field whose rule lists the affirmed value first ("set or clear", "asserted or idle", "pressed or
released", "stable or not"): by that order 0 affirmed, 1 not (R179, log entry 15). -/
def encListed (b : Bool) : List Byte := enc1 (!b).toNat

/-- An optional field: a presence byte, then the field's bytes, zero when it is absent (R179). -/
def encOpt {α : Type} (width : Nat) (f : α → List Byte) : Option α → List Byte
  | none => List.replicate (width + 1) 0#8
  | some a => 1#8 :: f a

/-- A list: a count byte, then its items (R179). -/
def encList {α : Type} (f : α → List Byte) (l : List α) : List Byte := enc1 l.length ++ (l.map f).flatten

/-- A set of flags, bit 0 first, in two bytes (R179). -/
def flagNat : List Bool → Nat
  | [] => 0
  | b :: bs => b.toNat + 2 * flagNat bs

def encFlags (bs : List Bool) : List Byte := enc2 (flagNat bs)

/-! ## Named values, numbered in the order of their rules (R179) -/

def Hoist.number : Hoist → Nat
  | .A => 0
  | .B => 1

def Phase.number : Phase → Nat
  | .idle => 0 | .weighIn => 1 | .awaitSpan => 2 | .travelIn => 3 | .awaitAdmit => 4 | .entry => 5 | .immerse => 6
  | .awaitSkim => 7 | .withdraw => 8 | .drain => 9 | .weighOut => 10 | .travelOut => 11 | .held => 12 | .raising => 13
  | .jogging => 14 | .recover => 15 | .disabled => 16

/-- DESIGN CHOICE (log entry 15): no numbered rule lists the axes; lift 0 and travel 1 is the order of chapter 1. -/
def Axis.number : Axis → Nat
  | .lift => 0 | .travel => 1

def SkimState.number : SkimState → Nat
  | .none => 0 | .waiting => 1 | .done _ => 2 | .missed => 3

def SkimState.time : SkimState → Option Nat
  | .done t => some t
  | _ => Option.none

def WeighKind.number : WeighKind → Nat
  | .weighIn => 0 | .weighOut => 1

/-- DESIGN CHOICE (log entry 15): no rule lists the two flags as the values of one field. -/
def RangeFlag.number : RangeFlag → Nat
  | .over => 0 | .under => 1

def SkimmerMode.number : SkimmerMode → Nat
  | .idle => 0 | .sweeping => 1 | .outOfService => 2

def Owner.number : Owner → Nat
  | .hoist .A => 0
  | .hoist .B => 1
  | .maint n => n + 1

def LoadState.number : LoadState → Nat
  | .registered => 0 | .inCycle => 1 | .complete => 2

def ReconOutcome.number : ReconOutcome → Nat
  | .done => 0 | .notQuiet => 1 | .abandoned => 2

def TransName.number : TransName → Nat
  | .poll => 0 | .move => 1 | .stop => 2 | .sweep => 3 | .abort => 4

/-- The codes of R181. -/
def NoticeKind.code : NoticeKind → Nat
  | .none => 0x00 | .fieldFault => 0x01 | .emergencyRaise => 0x02 | .overdip => 0x03 | .lossSuspect => 0x04
  | .overTemperature => 0x05 | .tempUnknown => 0x06 | .recoveredInBath => 0x07 | .skimmerOut => 0x08
  | .totalSaturated => 0x09 | .storeLost => 0x0A | .entered => 0x21 | .dipPosted => 0x22 | .weighUnstable => 0x23
  | .admitWait => 0x24 | .skimMissed => 0x25 | .levelLow => 0x26 | .reconciled => 0x27 | .periodClosed => 0x28
  | .restarted => 0x29

/-- The category byte (R181). -/
def NoticeKind.category (k : NoticeKind) : Nat := if k.isFault then 1 else if k.isProgress then 2 else 0

/-- The status bytes (R178). -/
def Status.code : Status → Nat
  | .ok => 0x00 | .format => 0x01 | .unknownKind => 0x02 | .range => 0x03 | .state => 0x04 | .busy => 0x05
  | .full => 0x06 | .notFound => 0x07 | .exists => 0x08 | .locked => 0x09 | .disabled => 0x0A | .ignored => 0x0B

/-! ## Records -/

def encHoist (h : Hoist) : List Byte := enc1 (Hoist.number h)
def encPair (p : Nat × Nat) : List Byte := enc1 p.1 ++ enc1 p.2

def encMotion (m : Motion) : List Byte := enc1 m.axis.number ++ encS4 m.target ++ enc2 m.speed.toNat

def encLastWindow (w : LastWindow) : List Byte :=
  enc1 w.kind.number ++ enc1 w.size ++ encS4 w.mean ++ encS4 w.spread ++ encListed w.stable ++ enc4 w.weight ++
    encOpt 1 (fun r => enc1 (RangeFlag.number r)) w.range ++ enc4 w.time

/-- The items of a Weigh Engine that R110 lists. -/
def encEngine (e : WeighEngine) : List Byte :=
  encFlag e.weigh.isSome ++
    encOpt 1 (fun w => enc1 w.kind.number) e.weigh ++ encOpt 1 (fun w => enc1 w.size) e.weigh ++
    encOpt 4 (fun w => encS4 w.band) e.weigh ++ encOpt 2 (fun w => enc2 w.timeout) e.weigh ++
    encOpt 2 (fun w => enc2 w.elapsed) e.weigh ++ encOpt 1 (fun w => encFlag w.passed) e.weigh ++
    encOpt 1 (fun w => enc1 w.window.length) e.weigh ++ encOpt 4 (fun w => enc4 w.completed) e.weigh ++
    encOpt 4 (fun w => enc4 w.bad) e.weigh ++
    encOpt 12 (fun b => encS4 b.mean ++ encS4 b.spread ++ enc4 b.time) (e.weigh.bind Weigh.best) ++
    encOpt 21 encLastWindow e.last

/-- Parts 0 and 1 of READ_STATUS (R196).  p_imm and p_clr have a presence byte each, and the skim state is a byte followed
by its time done as an optional field of four bytes (log entry 15). -/
def encHoistStatus (q : Sequencer) (e : WeighEngine) : List Byte :=
  encFlag q.enabled ++ enc1 q.phase.number ++ encOpt 1 (fun p => enc1 (Phase.number p)) q.heldPhase ++
    encOpt 2 enc2 q.load ++ encOpt 4 encS4 q.pImm ++ encOpt 4 encS4 q.pClr ++ encOpt 4 encS4 q.lift ++
    encOpt 4 encS4 q.travel ++ encOpt 7 encMotion q.motion ++ encOpt 2 enc2 q.countdown ++ enc1 q.skim.number ++
    encOpt 4 enc4 q.skim.time ++ encOpt 2 enc2 q.skimWait ++ encOpt 2 enc2 q.overdip ++ encOpt 2 enc2 q.vibrate ++
    encOpt 2 enc2 q.drain ++ encListed q.pressed ++ encEngine e

def encSweep (w : Sweep) : List Byte :=
  encOpt 1 encHoist w.hoist ++ encOpt 2 encPair w.span ++ enc4 w.start ++ encFlag w.abort

def encSkimRequest (r : SkimRequest) : List Byte := encHoist r.hoist ++ enc1 r.first ++ enc1 r.last ++ enc4 r.due

/-- A channel of part 3; for one without a reading the two bytes are a free value (log entry 7).  DESIGN CHOICE (log entry
56): a reading that does not fit the two signed bytes of a temperature is sent modulo 65,536. -/
def encChannel (place : Nat) (c : ChannelView) : List Byte :=
  encS2 (c.reading.getD (Config.absentChannelReading place)) ++ encFlag c.valid

/-- The channels in their places. -/
def encChannels : Nat → List ChannelView → List Byte
  | _, [] => []
  | n, c :: cs => encChannel n c ++ encChannels (n + 1) cs

/-- Part 3 (R92, R196).  DESIGN CHOICE (log entry 15): the settle count is a seconds figure, of two bytes. -/
def encBathStatus (b : BathStatus) : List Byte :=
  encChannels 0 b.channels ++ encOpt 2 encS2 b.temp ++ encFlag b.quiet ++ enc2 b.settle ++ encOpt 4 encS4 b.hEst ++
    enc1 b.entries ++ enc4 b.total ++ encOpt 2 enc2 b.oldestLeaves

def encModuleStatus (m : ModuleStatus) : List Byte :=
  enc4 m.clock ++ encListed m.lock ++ enc1 m.lastReset ++ enc1 m.orders ++ enc1 m.loads ++ enc1 m.jigs ++
    enc1 m.faultNotices ++ enc1 m.progressNotices ++ encFlag m.overrun ++ encFlag m.maskFault ++
    encFlag m.maskProgress ++ encListed m.lineF ++ encListed m.lineP ++ encFlag m.reconPending ++ encFlag m.faultFull ++
    encFlag m.multiple

def encOrder (r : OrderRec) : List Byte :=
  enc4 r.number ++ encFlag (!r.isOpen) ++ encOpt 17 textBytes r.reference ++ enc4 r.opened ++ encOpt 4 enc4 r.closed ++
    enc4 r.blackNet ++ enc4 r.galvNet ++ enc4 r.pickup ++ enc4 r.dipped ++ enc4 r.nonconforming ++
    enc4 r.lossSuspect ++ enc4 r.unweighed ++ encListed r.overflow

/-- The ten flags in the order of R117. -/
def LoadFlags.bits (f : LoadFlags) : List Bool :=
  [f.thickClamped, f.unweighedIn, f.unweighedOut, f.unsettled, f.skimMissed, f.nonconforming, f.lossSuspect,
   f.interrupted, f.overRange, f.underRange]

def encLoad (r : LoadRec) : List Byte :=
  enc2 r.id ++ enc4 r.order ++ enc1 r.jig ++ enc1 r.sect ++ enc1 r.silicon ++ enc2 r.thick ++ enc1 r.zones ++
    encS4 r.hang ++ encS4 r.height ++ encOpt 4 enc4 r.declared ++ enc1 r.state.number ++ encOpt 1 encHoist r.hoist ++
    encOpt 2 encPair r.span ++ encOpt 2 (fun l => encS2 (Latched.theta l)) r.latched ++
    encOpt 2 (fun l => enc2 (Latched.tImm l)) r.latched ++ encOpt 4 (fun l => enc4 (Latched.entryTime l)) r.latched ++
    encOpt 2 (fun l => enc2 (Latched.entrySpeed l)) r.latched ++
    encOpt 2 (fun l => enc2 (Latched.withdrawSpeed l)) r.latched ++
    encOpt 2 (fun l => enc2 (Latched.vibrate l)) r.latched ++ encOpt 2 (fun l => enc2 (Latched.drain l)) r.latched ++
    encOpt 4 enc4 r.withdrawTime ++ encOpt 4 enc4 r.wIn ++ encOpt 4 enc4 r.wOut ++ encOpt 2 enc2 r.overdipSeconds ++
    encOpt 4 enc4 r.postingTime ++ encOpt 4 enc4 r.loadPickup ++ encOpt 4 enc4 r.jigPickup ++
    encOpt 4 enc4 r.blackNet ++ encOpt 4 enc4 r.galvNet ++ encOpt 4 enc4 r.steelLost ++ encFlags r.flags.bits

def encJig (r : JigRec) : List Byte :=
  enc1 r.number ++ enc4 r.base ++ enc4 r.allowance ++ enc4 r.buildUp ++ enc4 r.dips ++ encListed r.overflow ++
    encOpt 2 enc2 r.carriedBy

def encZone (z : Bool × Option Owner) : List Byte := encFlag (!z.1) ++ encOpt 1 (fun o => enc1 (Owner.number o)) z.2

def encSpan (p : Span) : List Byte := enc1 p.owner.number ++ enc1 p.first ++ enc1 p.last ++ enc4 p.granted

/-- The length or the zones of a claim, each an optional field (R49). -/
def encNeed : ClaimNeed → List Byte
  | .length n => encOpt 1 enc1 (some n) ++ encOpt 1 enc1 none ++ encOpt 1 enc1 none
  | .zones f l => encOpt 1 enc1 none ++ encOpt 1 enc1 (some f) ++ encOpt 1 enc1 (some l)

def encClaim (c : Claim) : List Byte := enc1 c.claimant.number ++ encNeed c.need ++ enc4 c.joined

def encPeriod (p : Period) : List Byte :=
  enc2 p.number ++ enc4 p.start ++ encS4 p.openingBook ++ enc4 p.charged ++ enc4 p.pickup ++ enc4 p.jigPickup ++
    enc4 p.dross ++ enc4 p.ash ++ enc4 p.jigStrip ++ enc4 p.steelLost ++ enc4 p.dips ++ encS4 p.adjustment ++
    encListed p.overflow ++ encOpt 4 enc4 p.closeTime ++ encOpt 4 encS4 p.closingBook

def encResult (r : ReconResult) : List Byte :=
  enc1 r.outcome.number ++ enc4 r.requested ++ enc4 r.ended ++ encFlag r.rebase ++ encOpt 4 encS4 r.book ++
    encOpt 4 encS4 r.mass ++ encOpt 4 encS4 r.residual ++ encOpt 4 encS4 r.adjustment

def encPending (p : PendingRecon) : List Byte := enc4 p.requested ++ encFlag p.rebase ++ enc2 p.waited

def encReading (q : QuietReading) : List Byte :=
  encS4 q.depth ++ encS2 q.temp ++ enc2 q.density.toNat ++ encS4 q.length ++ encS4 q.width ++ encS4 q.book ++ enc4 q.time

/-- A notice of FETCH_NOTICE: 21 bytes (R181). -/
def encNotice (n : Notice) : List Byte :=
  enc1 n.kind.code ++ enc1 n.kind.category ++ enc4 n.time ++ encOpt 1 encHoist n.hoist ++ encOpt 2 enc2 n.load ++
    encOpt 4 encS4 n.data1 ++ encOpt 4 encS4 n.data2

def encFault (r : FaultRecord) : List Byte :=
  enc1 r.cause.number ++ encOpt 1 (fun t => enc1 (TransName.number t)) r.trans ++ encOpt 1 encHoist r.hoist ++
    encOpt 2 enc2 r.load ++ encOpt 1 (fun p => enc1 (Phase.number p)) r.phase ++ encOpt 4 encS4 r.data ++ enc4 r.time

def encStation (x : StationStatus) : List Byte :=
  encOpt 1 enc1 x.lastCode ++ encFlags x.accum ++ encS4 x.mask ++ encFlag x.polled

/-! ## Reply frames (R173, R177) -/

def vendor : List Nat := [70, 108, 97, 100, 114, 105, 110]
def part : List Nat := [72, 97, 108, 109, 105, 99, 32, 75, 90, 45, 50]

/-- What follows the status OK, in the order of the owning rules.  DESIGN CHOICE (log entry 15), among other forms that R179
leaves open: READ_BALANCE carries M and the book minus M, which R151 returns only beside a quiet reading, as optional fields,
so that each has its presence byte, and without a reading that byte alone. -/
def ReplyBody.bytes : ReplyBody → List Byte
  | .empty => []
  | .identity fast single => textBytes vendor ++ textBytes part ++ enc1 1 ++ encFlag fast ++ encFlag single
  | .hoistStatus q e => encHoistStatus q e
  | .skimmerStatus mode sweep queue => enc1 mode.number ++ encOpt 10 encSweep sweep ++ encList encSkimRequest queue
  | .bathStatus b => encBathStatus b
  | .moduleStatus m => encModuleStatus m
  | .clockBefore t => enc4 t
  | .setting v => encS4 v
  | .sectionClass c =>
    enc2 c.base ++ enc2 c.perMm ++ enc2 c.entrySpeed ++ enc2 c.withdrawSpeed ++ enc2 c.vibrate ++ enc2 c.drain
  | .siliconClass m => enc2 m
  | .order r naming inCycle => encOrder r ++ enc1 naming ++ enc1 inCycle
  | .load r perMille => encLoad r ++ encOpt 4 enc4 perMille
  | .jigMade made => encFlag (!made)
  | .jig r tare naming => encJig r ++ enc4 tare ++ enc1 naming
  | .spanGranted first last => enc1 0 ++ enc1 first ++ enc1 last
  | .claimWaiting place => enc1 1 ++ enc1 place
  | .spanReleased => enc1 0
  | .claimWithdrawn => enc1 1
  | .zones zs spans queue => (zs.map encZone).flatten ++ encList encSpan spans ++ encList encClaim queue
  | .book b => encS4 b
  | .balance bk current closed last pending reading mass residual =>
    encS4 bk ++ encPeriod current ++ encList enc2 closed ++ encOpt 30 encResult last ++ encOpt 7 encPending pending ++
      encOpt 24 encReading reading ++ encOpt 4 encS4 mass ++ encOpt 4 encS4 residual
  | .period p bk => encPeriod p ++ (match bk with | some b => encS4 b | none => [])
  | .notice overrun n => encFlag overrun ++ encNotice n
  | .fault record multiple =>
    encFlag record.isSome ++ (match record with | some r => encFault r | none => []) ++ encFlag multiple
  | .fieldStatus stations => (stations.map encStation).flatten

/-- The payload of a reply (R177): the status, and with OK the record. -/
def Reply.payload (r : Reply) : List Byte :=
  enc1 r.status.code ++ (if r.status = .ok then r.body.bytes else [])

/-- The whole frame, its check word high byte first (R173, R174). -/
def Reply.frame (r : Reply) : List Byte :=
  let checked := enc1 r.payload.length ++ enc1 r.kind ++ enc1 r.tag ++ r.payload
  0xA7#8 :: (checked ++ enc1 ((crc checked).toNat / 256) ++ enc1 ((crc checked).toNat % 256))

/-- The bytes that the module sends on the plant link while it is ANSWERING (R172, R175). -/
def State.lineBytes (s : State) : List Byte := (s.link.reply.map Reply.frame).getD []

end Sys2Proof.Machine
end

