-- ==== Sys2Proof/Safety.lean ====
section
/-! DEFINITION. The words in which statements about the KZ-2 are said: a request taken or refused, a run of commands,
a frame on the plant link, and the laws of the KZ-2 that the manual names ("It is a law of the KZ-2 that ..."). -/

namespace Sys2Proof

/-- The byte that names a hoist in a request (R179). -/
def Hoist.byte : Hoist → Nat
  | .A => 0
  | .B => 1

end Sys2Proof

namespace Sys2Proof.Machine

/-! ## Requests taken and refused (R175, R177) -/

/-- The state with a reply on the line: the interface is ANSWERING with an empty buffer (log entry 50); the reply has the request's
kind plus 80h modulo 100h, its tag, the status and the record (R175, R177). -/
def State.answered (s : State) (kind tag : Nat) (st : Status) (b : ReplyBody) : State :=
  { s with link := { s.link with
      rx := .answering, buffer := [],
      reply := some { kind := (kind + 128) % 256, tag := tag, status := st, body := b } } }

/-- The request row `c`, of this kind, is taken in `s`: it leaves `t` with the reply OK and a record on the line.  A row
is a request in hand, and its tag is 0 (log entry 8); the bytes of a frame carry their own. -/
def Taken (c : Instr) (kind : Nat) (b : ReplyBody) (s t : State) : Prop := exec c s = .next (t.answered kind 0 .ok b)

/-- The request row `c` is refused in `s`: nothing changes but the reply, which carries the status alone. -/
def Refused (c : Instr) (kind : Nat) (st : Status) (s : State) : Prop := exec c s = .next (s.answered kind 0 st .empty)

/-! ## Runs and frames -/

/-- Commands taken one after another. -/
def runCommands : List Instr → State → Host.Outcome State Fault Refusal
  | [], s => .next s
  | c :: cs, s =>
    match exec c s with
    | .next t => runCommands cs t
    | .fault r => .fault r
    | .refused r => .refused r

/-- The bytes of a frame (R173): lead byte, length, kind, tag, payload, and the CRC with its high byte first. -/
def frameOf (kind tag : Nat) (payload : List Byte) : List Byte :=
  let body := [BitVec.ofNat 8 payload.length, BitVec.ofNat 8 kind, BitVec.ofNat 8 tag] ++ payload
  0xA7#8 :: (body ++ [BitVec.ofNat 8 ((crc body).toNat / 256), BitVec.ofNat 8 ((crc body).toNat % 256)])

/-! ## Motions (R4, R5) -/

/-- A motion in flight from `pos` to `target`: the move is asked of the drive, and recorded with the time it was issued
and its overdue limit (R4, R5). -/
def moving (h : Hoist) (axis : Axis) (target speed pos : Int) (s : State) : State :=
  sendCommand (driveOf h) (.move axis target speed)
    (setSeq h { s.seq h with
      motion := some { axis := axis, target := target, speed := speed, issued := s.link.clock,
                       limit := overdueLimit |target - pos| speed, elapsed := 0 } } s)

/-- A change of the load records that carry one id. -/
def withLoad (id : Nat) (f : LoadRec → LoadRec) (s : State) : State :=
  { s with records := { s.records with loads := s.records.loads.map (fun r => if r.id = id then f r else r) } }

/-- TOTAL_SATURATED for a record whose overflow flag an event has set, where the saturation notice is on (R152, R182). -/
def saturated (kind number : Nat) (before after : Bool) (s : State) : State :=
  if s.setting 37 = 1 ∧ after = true ∧ before = false then
    raise .totalSaturated none none (some (kind : Int)) (some (number : Int)) s
  else s

/-- The load is posted, and DIP_POSTED is raised with the posted figures (R20, R130). -/
def postedWithNotice (h : Hoist) (s : State) : State :=
  let t := post h s
  let r := t.carried h
  raise .dipPosted (some h) (s.seq h).load ((r.bind LoadRec.loadPickup).map Int.ofNat)
    ((r.bind LoadRec.galvNet).map Int.ofNat) t

/-- The dip of load `id` ends with the hoist at its station (R21): the load is COMPLETE, or back in REGISTERED where it was
never admitted, its jig is free, the hoist IDLE, its span is released and the claims that wait are tried. -/
def dipEnded (h : Hoist) (id : Nat) (s : State) : State :=
  placeClaims (setSeq h (Sequencer.cleared (s.seq h))
    { s with
      arbiter := { s.arbiter with spans := s.arbiter.spans.filter (fun p => !decide (p.owner = .hoist h)) }
      records := { s.records with
        loads := s.records.loads.map (fun l =>
          if l.id = id ∧ l.latched = none then
            { l with state := .registered, hoist := none, span := none, wIn := none,
                     flags := { l.flags with unweighedIn := false } }
          else if l.id = id then { l with state := .complete, hoist := none, span := none }
          else l)
        jigs := s.records.jigs.map (fun j => if j.carriedBy = some id then { j with carriedBy := none } else j) } })

/-- The end of a weigh-out with the hoist at the travel position `y`, away from its station (R20, R130): the load is
posted, DIP_POSTED is raised with the posted figures, and the hoist travels to its station. -/
def postedAndAway (h : Hoist) (y : Int) (s : State) : State :=
  let u := postedWithNotice h s
  moving h .travel (s.stationPosition h) (s.setting 13) y (setSeq h { u.seq h with phase := .travelOut } u)

/-- R17: the overdip count of hoist `h`, which carries load `id`, is compared with the limit in force: above it with the
mark still no, the load is NONCONFORMING, one OVERDIP is raised and the mark is set. -/
def overdipCompared (h : Hoist) (id : Nat) (s : State) : State :=
  if (s.seq h).overdipRaised = false ∧ (s.seq h).overdip.any (fun n => decide (s.overdipLimit < n)) = true then
    setSeq h { s.seq h with overdipRaised := true }
      (raise .overdip (some h) (some id) (some ((s.overdipLimit : Nat) : Int)) none
        (withLoad id (fun l => { l with flags := { l.flags with nonconforming := true } }) s))
  else s

/-- The trials that follow a change of the estimated depth within an event (R85). -/
def withTrials (before t : State) : State := if t.bath.hEst = before.bath.hEst then t else tryWaiting t

/-- The phases of the dip cycle, WEIGH_IN to TRAVEL_OUT (the phase table of chapter 1). -/
def Phase.dipCycle : List Phase :=
  [.weighIn, .awaitSpan, .travelIn, .awaitAdmit, .entry, .immerse, .awaitSkim, .withdraw, .drain, .weighOut, .travelOut]

/-! ## Start-up (R198, R199) -/

/-- A reset or a loss of supply waits, so that it can come while a start-up is in progress (R199). -/
def State.interrupted (s : State) : Prop :=
  ∃ c ∈ s.pending, c = .resetInputAsserted ∨ ∃ cutOff, c = .supplyLost cutOff

/-- The load record that a hoist finds IN_CYCLE with it at start-up (R32). -/
def State.retained (s : State) (h : Hoist) : Option LoadRec :=
  s.records.loads.find? (fun r => decide (r.state = .inCycle ∧ r.hoist = some h))

/-- The notices that a start-up raises up to stage `n`, in their order (R84, R145, R188, R194): RESTARTED with the kind of
the reset, STORE_LOST after a supply reset while the mark is set, RECONCILED (ABANDONED), LEVEL_LOW. -/
def startUpNotices (k : ResetKind) (n : Nat) (depth : Option Int) (s : State) : List Notice :=
  let note (kind : NoticeKind) (d1 d2 : Option Int) : Notice :=
    { kind := kind, time := s.link.clock, hoist := none, load := none, data1 := d1, data2 := d2 }
  (if 2 ≤ n then [note .restarted (some (match k with | .supply => 0 | .restart => 1 | .input => 2)) none] else []) ++
    (if 3 ≤ n ∧ k = .supply ∧ s.unit.storeLost = true then [note .storeLost none none] else []) ++
    (if 4 ≤ n ∧ s.balance.pending.isSome = true then [note .reconciled (some 2) none] else []) ++
    match depth with
    | some d => if 6 ≤ n ∧ d < s.setting 22 then [note .levelLow (some d) (some (s.setting 22))] else []
    | none => []

/-- What a start-up of a reset of kind `k` makes of `s`, when it has passed the stages up to `n` (R198): the whole state.
With `n` 8 it has ended; below 8 it stands where a reset or the loss of supply overtakes it (R199). -/
structure StartUpReaches (k : ResetKind) (n : Nat) (s t : State) : Prop where
  unit : t.unit = { s.unit with
    restartPending := false, inReset := decide (n < 8), starting := if n < 8 then some n else none,
    lastReset := if 2 ≤ n then k else s.unit.lastReset, overtaken := Config.nextOvertaken s.free }
  /-- stages 2, 3, 4 and 6: HUNTING, the lines from the queue, and the notices -/
  link : t.link = (startUpNotices k n t.bath.hEst s).foldl Link.raise
    (if 2 ≤ n then { s.link with rx := .hunting, buffer := [], reply := none }.setLines
      else { s.link with rx := .hunting, buffer := [], reply := none, lineF := false, lineP := false })
  /-- stage 7: RECOVER with a retained load, its positions computed afresh, or the phase of the enable state -/
  hoists : ∀ h, t.seq h =
    match s.retained h with
    | some r =>
      if 7 ≤ n then
        { Sequencer.fresh (s.seq h).enabled (s.seq h).pressed with
          phase := .recover, load := some r.id, pImm := some (s.setting 9 + r.hang),
          pClr := some (s.setting 3 + s.setting 10 + r.hang),
          centre := (t.arbiter.spanOf (.hoist h)).map
            (fun p => 2000 + (((p.first : Int) - 1 + p.last) * s.setting 1) / 24),
          recoverWait := some 0 }
      else Sequencer.fresh (s.seq h).enabled (s.seq h).pressed
    | none => Sequencer.fresh (s.seq h).enabled (s.seq h).pressed
  engines : ∀ h, t.eng h = { s.eng h with weigh := none }
  /-- stage 5: the claims are gone, and the span of a hoist without a load IN_CYCLE is released -/
  arbiter : t.arbiter = { s.arbiter with
    queue := []
    spans := if 5 ≤ n then s.arbiter.spans.filter (fun p =>
        match p.owner with
        | .maint _ => true
        | .hoist h => (s.retained h).isSome)
      else s.arbiter.spans }
  /-- stage 7 -/
  skimmer : t.skimmer = { s.skimmer with
    mode := if n < 7 then .idle else if s.skimmer.outFlag then .outOfService else .sweeping
    sweep := if n < 7 ∨ s.skimmer.outFlag = true then none
      else some { hoist := none, span := none, start := s.link.clock, abort := true }
    queue := [], pollsBegun := false }
  /-- stage 6 -/
  bath : t.bath = if n < 6 then s.bath else
    { channels := List.replicate 4 { reading := none, valid := false }, temp := none, polled := false, overArmed := true,
      quiet := false, settle := 0, reading := s.bath.reading,
      hEst := s.bath.reading.map (fun q => estimatedDepth q s.balance.book),
      levelArmed := !(s.bath.reading.any (fun q => decide (estimatedDepth q s.balance.book < s.setting 22))) }
  window : t.window = s.window
  orders : t.records.orders = s.records.orders
  /-- stage 5: the span field of a load IN_CYCLE is its hoist's span in the map, or absent -/
  loads : t.records.loads = s.records.loads.map (fun r =>
    match r.hoist with
    | some h => if 5 ≤ n ∧ r.state = .inCycle then
        { r with span := (t.arbiter.spanOf (.hoist h)).map (fun p => (p.first, p.last)) } else r
    | none => r)
  /-- stage 5: the carried-by field is the load IN_CYCLE on the jig, or absent -/
  jigs : t.records.jigs = s.records.jigs.map (fun j => if 5 ≤ n then
    { j with carriedBy :=
        (s.records.loads.find? (fun r => decide (r.state = .inCycle ∧ r.jig = j.number))).map LoadRec.id } else j)
  /-- stage 4: a pending reconciliation is ABANDONED -/
  balance : t.balance =
    match s.balance.pending with
    | some p => if 4 ≤ n then
        { s.balance with
          pending := none
          last := some { outcome := .abandoned, requested := p.requested, ended := s.link.clock, rebase := p.rebase,
                         book := none, mass := none, residual := none, adjustment := none } }
      else { s.balance with pending := some { p with waited := 0 } }
    | none => s.balance
  /-- before stage 8 the field line is idle; the codes stand -/
  idle : n < 8 → t.field =
    { driveA := { s.field.driveA with trans := none, pollDue := none, cmds := [] }
      driveB := { s.field.driveB with trans := none, pollDue := none, cmds := [] }
      scaleA := { s.field.scaleA with trans := none, pollDue := none, cmds := [] }
      scaleB := { s.field.scaleB with trans := none, pollDue := none, cmds := [] }
      skimmer := { s.field.skimmer with trans := none, pollDue := none, cmds := [] }
      thermo := { s.field.thermo with trans := none, pollDue := none, cmds := [] }
      level := { s.field.level with trans := none, pollDue := none, cmds := [] }
      instant := s.field.instant, thermoSecs := 0, levelSecs := 0 }
  /-- stage 8: the stops of hoists in RECOVER, the start-up abort, and the first polls of the enabled drives and of THERMO
  are due, and the line begins -/
  due : n = 8 → t = endEvent { t with field :=
    { driveA := { s.field.driveA with
        trans := none
        pollDue := if t.seqA.phase = .disabled then none else some s.field.instant
        cmds := if t.seqA.phase = .recover then [{ cmd := .stop, due := s.field.instant }] else [] }
      driveB := { s.field.driveB with
        trans := none
        pollDue := if t.seqB.phase = .disabled then none else some s.field.instant
        cmds := if t.seqB.phase = .recover then [{ cmd := .stop, due := s.field.instant }] else [] }
      scaleA := { s.field.scaleA with trans := none, pollDue := none, cmds := [] }
      scaleB := { s.field.scaleB with trans := none, pollDue := none, cmds := [] }
      skimmer := { s.field.skimmer with
        trans := none, pollDue := none
        cmds := if s.skimmer.outFlag then [] else [{ cmd := .abort, due := s.field.instant }] }
      thermo := { s.field.thermo with trans := none, pollDue := some s.field.instant, cmds := [] }
      level := { s.field.level with trans := none, pollDue := none, cmds := [] }
      instant := s.field.instant, thermoSecs := 0, levelSecs := 0 } }
  capture : t.capture = s.capture
  settings : t.settings = s.settings
  /-- the model's own counter of free choices, and its queue -/
  model : t.free = s.free + 1 ∧ t.pending = s.pending

/-! ## The laws of the KZ-2 -/

/-- R112: the three tables hold at most 32, 48 and 64 records, and at most one record for each key. -/
def State.tablesLawful (s : State) : Prop :=
  s.records.orders.length ≤ 32 ∧ s.records.loads.length ≤ 48 ∧ s.records.jigs.length ≤ 64 ∧
    (s.records.orders.map OrderRec.number).Nodup ∧ (s.records.loads.map LoadRec.id).Nodup ∧
    (s.records.jigs.map JigRec.number).Nodup

/-- R3 (and R21, R118): a load IN_CYCLE names one hoist, and with the module at work that hoist carries it; a hoist
carries at most one load, which is IN_CYCLE with it, and carries none exactly in IDLE and DISABLED, where no motion is
in flight; neither of the two is ever a held phase (R22). -/
def State.carryLawful (s : State) : Prop :=
  (∀ r ∈ s.records.loads, r.state = .inCycle → r.hoist ≠ none) ∧
  (∀ r ∈ s.records.loads, ∀ r' ∈ s.records.loads, r.state = .inCycle → r'.state = .inCycle → r.hoist = r'.hoist →
    r.id = r'.id) ∧
  (s.active = true → ∀ h ∈ [Hoist.A, .B],
    ((s.seq h).load = none ↔ (s.seq h).phase ∈ [Phase.idle, .disabled]) ∧
    ((s.seq h).phase ∈ [Phase.idle, .disabled] → (s.seq h).motion = none) ∧
    (s.seq h).heldPhase ≠ some .idle ∧ (s.seq h).heldPhase ≠ some .disabled ∧
    (∀ r ∈ s.records.loads, r.state = .inCycle → r.hoist = some h → (s.seq h).load = some r.id) ∧
    ∀ id ∈ (s.seq h).load.toList, ∃ r ∈ s.records.loads, r.id = id ∧ r.state = .inCycle ∧ r.hoist = some h)

/-- R186: when each attention line is asserted, with the module at work. -/
def Link.linesRight (l : Link) : Prop :=
  (l.lineF = true ↔
    ((∃ n ∈ l.notices, n.kind.isFault = true) ∧ l.maskFault = false) ∨
      (l.singleLine = true ∧ (∃ n ∈ l.notices, n.kind.isProgress = true) ∧ l.maskProgress = false)) ∧
  (l.lineP = true ↔
    (l.singleLine = false ∧ (∃ n ∈ l.notices, n.kind.isProgress = true) ∧ l.maskProgress = false))

/-- The lines have been set from the queue: the module works, or its start-up has passed stage 2 (R198, R199). -/
def State.linesSet (s : State) : Bool := s.active || s.unit.starting.any (fun n => decide (2 ≤ n))

/-- R183, R186 and R198: the queue has room for 32; the lines follow the queue, and are idle from the start of a reset
until stage 2 of the start-up that follows.  (No start-up stands overtaken in a module that works.) -/
def State.noticesLawful (s : State) : Prop :=
  s.link.notices.length ≤ 32 ∧ (s.active = true → s.unit.starting = none) ∧ (s.linesSet = true → s.link.linesRight) ∧
    (s.linesSet = false → s.link.lineF = false ∧ s.link.lineP = false)

/-- R198, R199: a start-up stands short of its last stage only with the supply on, the module in reset, and the reset or
the loss of supply that ends it still waiting. -/
def State.startsLawful (s : State) : Prop :=
  s.unit.starting.isSome = true → s.unit.powered = true ∧ s.unit.inReset = true ∧ s.interrupted

/-- R48: no zone belongs to two granted spans, and no zone out of service to any. -/
def State.zonesLawful (s : State) : Prop :=
  ∀ z ∈ List.range' 1 12,
    (s.arbiter.spans.filter (fun p => p.covers z)).length ≤ 1 ∧
      (s.arbiter.service.getD (z - 1) false = false → ∀ p ∈ s.arbiter.spans, p.covers z = false)

/-- R53: the span of hoist A ends at least two zones below the first zone of hoist B's. -/
def State.runwayLawful (s : State) : Prop :=
  ∀ p ∈ (s.arbiter.spanOf (.hoist .A)).toList, ∀ q ∈ (s.arbiter.spanOf (.hoist .B)).toList, p.last + 2 ≤ q.first

/-- The hoist waits for the grant of its claim: in AWAIT_SPAN, or HELD or JOGGING with that held phase (R10, R25, R50). -/
def Sequencer.awaitsGrant (q : Sequencer) : Prop :=
  q.phase = .awaitSpan ∨ ((q.phase = .held ∨ q.phase = .jogging) ∧ q.heldPhase = some .awaitSpan)

/-- The hoist has a weigh-in still to end, so that it can hold no span (R8). -/
def Sequencer.weighsIn (q : Sequencer) : Prop :=
  q.phase = .weighIn ∨ ((q.phase = .held ∨ q.phase = .jogging) ∧ q.heldPhase = some .weighIn)

/-- R47, R49, R50 and R56: an owner holds at most one span, a claimant has at most one claim in the queue, and none while it
holds a span; with the module at work, a hoist whose claim waits is waiting for its grant, and a hoist that holds a span is
past its weigh-in, and the record of the load it carries names that span. -/
def State.claimsLawful (s : State) : Prop :=
  (s.arbiter.spans.map Span.owner).Nodup ∧ (s.arbiter.queue.map Claim.claimant).Nodup ∧
  (∀ c ∈ s.arbiter.queue, ∀ p ∈ s.arbiter.spans, c.claimant ≠ p.owner) ∧
  (s.active = true → ∀ h ∈ [Hoist.A, .B],
    (∀ c ∈ s.arbiter.queue, c.claimant = .hoist h → (s.seq h).awaitsGrant) ∧
    ∀ p ∈ s.arbiter.spans, p.owner = .hoist h →
      (s.seq h).phase ≠ .awaitSpan ∧ ¬ (s.seq h).weighsIn ∧
        ∃ r ∈ s.records.loads, (s.seq h).load = some r.id ∧ r.span = some (p.first, p.last))

/-- R42 and R103: every latched immersion time lies in 30..1200 s, every recorded hook weight in 0..200,000 wu. -/
def State.loadsLawful (s : State) : Prop :=
  ∀ r ∈ s.records.loads,
    (∀ l ∈ r.latched.toList, 30 ≤ l.tImm ∧ l.tImm ≤ 1200) ∧
      (∀ w ∈ r.wIn.toList, w ≤ 200000) ∧ (∀ w ∈ r.wOut.toList, w ≤ 200000)

/-- R34, R35, R159, R190: every setting stands in its range, with the drive masks of codes 3, 4 and 5 clear, and every
class record in its own. -/
def State.settingsLawful (s : State) : Prop :=
  s.settings.values.length = 37 ∧
    (∀ id ∈ List.range' 1 37, id ≠ 25 →
      (s.settingRange id).1 ≤ s.setting id ∧ s.setting id ≤ (s.settingRange id).2) ∧
    s.setting 25 ∈ ([8, 16, 32] : List Int) ∧
    (∀ st ∈ [Station.driveA, .driveB], ∀ code ∈ [3, 4, 5], s.masked st code = false) ∧
    s.settings.sections.length = 16 ∧ (∀ c ∈ s.settings.sections, c.ok = true) ∧
    s.settings.silicons.length = 4 ∧ (∀ m ∈ s.settings.silicons, 40 ≤ m ∧ m ≤ 150)

/-- R147: the totals of a period record, and its adjustment, lie in their ranges. -/
def Period.lawful (p : Period) : Prop :=
  1 ≤ p.number ∧ p.number ≤ 65535 ∧
    (∀ x ∈ [p.charged, p.pickup, p.jigPickup, p.dross, p.ash, p.jigStrip, p.steelLost, p.dips], x ≤ 4294967295) ∧
    -2147483648 ≤ p.adjustment ∧ p.adjustment ≤ 2147483647

/-- R147: what the book is by a period's totals, unless a total has saturated. -/
def Period.balances (p : Period) (book : Int) : Prop :=
  p.overflow = false →
    book = p.openingBook + p.charged - p.pickup - p.jigPickup - p.dross - p.ash + p.adjustment

/-- R138, R147, R150: the book lies in its range; the open period balances with it and has no close time or closing
book; the at most four closed ones have both, and balance with their closing books. -/
def State.booksLawful (s : State) : Prop :=
  -2000000000 ≤ s.balance.book ∧ s.balance.book ≤ 2000000000 ∧
    s.balance.current.lawful ∧ s.balance.current.balances s.balance.book ∧
    s.balance.current.closeTime = none ∧ s.balance.current.closingBook = none ∧
    s.balance.closed.length ≤ 4 ∧
    ∀ p ∈ s.balance.closed, p.lawful ∧ p.closeTime.isSome = true ∧ p.closingBook.isSome = true ∧
      ∀ b ∈ p.closingBook.toList, p.balances b

/-- R87: the throughput window has at most 64 entries. -/
def State.windowLawful (s : State) : Prop := s.window.length ≤ 64

/-- The eight calibration values (R190, ids 1 to 8). -/
def State.calibration (s : State) : List Int := s.settings.values.take 8

end Sys2Proof.Machine
end

