-- ==== Sys2Proof/WellFormed.lean ====
section
/-! DEFINITION. When the operands of a command fit the places they come from: the payload bytes of a request
(R179, R180), the three-bit code and the value widths of a field answer (R76, R94, R155), a byte of kind and tag. -/

namespace Sys2Proof

def fits8 (n : Nat) : Bool := decide (n < 256)
def fits16 (n : Nat) : Bool := decide (n < 65536)
def fits32 (n : Nat) : Bool := decide (n < 4294967296)
def fitsSigned32 (x : Int) : Bool := decide (-2147483648 ≤ x) && decide (x < 2147483648)
def fitsOpt32 : Option Nat → Bool
  | none => true
  | some n => fits32 n

/-- A customer reference as a text carries it: at most 16 characters of one byte (R179). -/
def fitsText (r : List Nat) : Bool := decide (r.length ≤ 16) && r.all fits8

/-- A report's values in the widths of R76 and R94; a reading, a position or a distance, for which no rule gives a width, in
32 signed bits (DESIGN CHOICE, log entry 56). -/
def FieldReport.fits : FieldReport → Bool
  | .codeOnly => true
  | .drive l t _ => fitsSigned32 l && fitsSigned32 t
  | .scale x => decide (-8388608 ≤ x) && decide (x ≤ 8388607)
  | .skimmer _ => true
  | .thermo c1 c2 c3 c4 => [c1, c2, c3, c4].all (fun c => decide (c.code ≤ 7) && fitsSigned32 c.reading)
  | .level d => fitsSigned32 d

/-- The operands of a command fit. -/
def Instr.wellFormed : Instr → Bool
  | .identify => true
  | .readStatus part => fits8 part
  | .setClock v => fits32 v
  | .restart => true
  | .writeSetting id v => fits16 id && fitsSigned32 v
  | .readSetting id => fits16 id
  | .writeClass t n f1 f2 f3 f4 f5 f6 =>
    fits8 t && fits8 n && fits16 f1 && fits16 f2 && fits16 f3 && fits16 f4 && fits16 f5 && fits16 f6 &&
      (decide (t ≠ 1) || (decide (f2 = 0) && decide (f3 = 0) && decide (f4 = 0) && decide (f5 = 0) && decide (f6 = 0)))
  | .readClass t n => fits8 t && fits8 n
  | .lockCalibration => true
  | .openOrder n r => fits32 n && fitsText r
  | .closeOrder n => fits32 n
  | .readOrder n => fits32 n
  | .removeOrder n => fits32 n
  | .registerLoad id order jig sect silicon thick zones hang height declared =>
    fits16 id && fits32 order && fits8 jig && fits8 sect && fits8 silicon && fits16 thick && fits8 zones &&
      fitsSigned32 hang && fitsSigned32 height && fitsOpt32 declared
  | .readLoad id => fits16 id
  | .removeLoad id => fits16 id
  | .addJig j b a => fits8 j && fits32 b && fits32 a
  | .readJig j => fits8 j
  | .stripJig j b => fits8 j && fitsOpt32 b
  | .removeJig j => fits8 j
  | .present h l => fits8 h && fits16 l
  | .hold h => fits8 h
  | .resume h => fits8 h
  | .jog h d => fits8 h && fitsSigned32 d
  | .cancel h => fits8 h
  | .acceptUnweighed h => fits8 h
  | .finishUnweighed h => fits8 h
  | .enableHoist h => fits8 h
  | .disableHoist h => fits8 h
  | .setZoneService z st => fits8 z && fits8 st
  | .claimZones n f l => fits8 n && fits8 f && fits8 l
  | .releaseZones n => fits8 n
  | .readZones => true
  | .restoreSkimmer => true
  | .chargeZinc w => fits32 w
  | .reportDross w => fits32 w
  | .reportAsh w => fits32 w
  | .reconcile r => fits8 r
  | .readBalance => true
  | .closePeriod => true
  | .readPeriod n => fits16 n
  | .discardPeriod n => fits16 n
  | .fetchNotice => true
  | .setNoticeMask f p => fits8 f && fits8 p
  | .readFault => true
  | .ackFault => true
  | .readFieldStatus c => fits8 c
  | .unknownKindRequest k t => fits8 k && fits8 t
  | .frameDiscarded => true
  | .frameGapTimeout => true
  | .replySent => true
  | .supplyOn _ _ _ => true
  | .resetInputAsserted => true
  | .resetInputReleased => true
  | .plantClockAdvance => true
  | .holdButtonPress _ => true
  | .holdButtonRelease _ => true
  | .holdButton4sMark _ => true
  | .motionOverdue _ => true
  | .skimLeadReached _ => true
  | .immersionCountdownZero _ => true
  | .skimWaitExpired _ => true
  | .overdipLimitExceeded _ => true
  | .vibrateEnd _ => true
  | .drainEnd _ => true
  | .recoveryTimeout _ => true
  | .weighInTimeout _ => true
  | .weighOutTimeout _ => true
  | .gateTrialTick _ => true
  | .windowEntryExpiry => true
  | .kettleQuiet => true
  | .reconcileTimeout => true
  | .fieldPollDue _ => true
  | .fieldRetryDue _ => true
  | .fieldNoAnswer _ => true
  | .fieldAnswerReceived _ code report => decide (code ≤ 7) && report.fits
  | .frameByteReceived _ => true
  | .supplyLost _ => true

end Sys2Proof
end

