-- ==== Sys2Proof/Certificates/Slice0/Obligations.lean ====
section
/-! DEFINITION. The statements about the KZ-2, for the provers.  Each docstring names the rules of spec/ that the
statement formalises.  `Taken` and `Refused` (Safety.lean) say what a request's reply carries and the state it leaves;
every part of the state that an equation does not name is unchanged. -/

open Sys2Proof Sys2Proof.Machine

/-! ## The machine as a whole -/

/-- The command at the front of the queue is taken from it and run on the rest. The model's choices in it: log entry 3. -/
def Obligations.StepTakesTheFrontCommand : Prop :=
  ∀ (c : Instr) (rest : List Instr) (s : State),
    s.pending = c :: rest → step s = exec c { s with pending := rest }

/-- No command stops the module, and none touches the commands that wait behind it. -/
def Obligations.EveryCommandRunsAndKeepsTheQueue : Prop :=
  ∀ (c : Instr) (s : State), ∃ t, exec c s = .next t ∧ t.pending = s.pending

/-- With no command waiting, one second of the module's own timing passes (the model's choice, log entry 3): the
immersion countdown (R14), the skim wait count (R16), the overdip count (R17), the motion timer (R5), the quiet
settle count (R80), the ages of the window entries (R87), the weighs' elapsed seconds (R94) and the seconds waited by
a reconciliation (R142) are counted; the plant clock's advance is the first event that then waits. R3, R19, R28, R32:
in that second the vibrate countdown runs in DRAIN, with no motion in flight, while the vibrator is on, and the drain
countdown while it is off; the timers of the hold button and of the recovery wait run; and the events that then wait
are exactly those whose conditions the counts have met (R5, R14 to R17, R19, R29, R32, R80, R85, R87, R104, R105,
R144, R160). The model's choices in it: log entries 3, 36. -/
def Obligations.IdleSecondCountsByTheBlocksOwnTiming : Prop :=
  (∀ s : State, s.pending = [] →
      (s.active = true → ∃ t, step s = .next t ∧
        t.pending.head? = some .plantClockAdvance ∧
        t.window = s.window.map (fun e => { e with age := e.age + 1 }) ∧
        (s.disturbed = true → t.bath.settle = 0) ∧
        (s.disturbed = false → t.bath.settle = min 30 (s.bath.settle + 1)) ∧
        (∀ p, s.balance.pending = some p → t.balance.pending = some { p with waited := p.waited + 1 }) ∧
        (∀ h w, (s.eng h).weigh = some w → (t.eng h).weigh = some { w with elapsed := w.elapsed + 1 }) ∧
        (∀ h n, (s.seq h).countdown = some n →
          (t.seq h).countdown = some (if (s.seq h).phase ∈ [Phase.immerse, .held, .jogging] then n - 1 else n)) ∧
        (∀ h n, (s.seq h).overdip = some n →
          (t.seq h).overdip =
            some (if (s.seq h).phase ∈ [Phase.immerse, .awaitSkim, .held, .jogging] then n + 1 else n)) ∧
        (∀ h n, (s.seq h).skimWait = some n →
          (t.seq h).skimWait =
            some (if (s.seq h).phase ∈ [Phase.awaitSkim, .held, .jogging] ∧ (s.seq h).skim = .waiting
              then n + 1 else n)) ∧
        (∀ h m, (s.seq h).motion = some m → (t.seq h).motion = some { m with elapsed := m.elapsed + 1 }) ∧
        (∀ h, (t.seq h).phase = (s.seq h).phase ∧ (t.seq h).load = (s.seq h).load ∧
          (t.seq h).skim = (s.seq h).skim ∧ (t.seq h).lift = (s.seq h).lift ∧ (t.seq h).travel = (s.seq h).travel) ∧
        t.unit = s.unit ∧ t.link = s.link ∧ t.arbiter = s.arbiter ∧ t.skimmer = s.skimmer ∧ t.records = s.records ∧
        t.balance.book = s.balance.book ∧ t.balance.current = s.balance.current ∧
        t.balance.closed = s.balance.closed ∧ t.capture = s.capture ∧ t.settings = s.settings ∧ t.free = s.free) ∧
      (s.unit.powered = true → s.unit.inReset = true → step s = .next { s with pending := [.plantClockAdvance] }) ∧
      (s.unit.powered = false → step s = .next s)) ∧
  (∀ s t : State, s.pending = [] → s.active = true → step s = .next t →
      (∀ (h : Hoist) (q : Sequencer), q = s.seq h →
        (t.seq h).vibrate = (if q.phase = .drain ∧ q.motion = none ∧ q.vibratorOn = true
          then q.vibrate.map (fun n => n - 1) else q.vibrate) ∧
        (t.seq h).drain = (if q.phase = .drain ∧ q.motion = none ∧ q.vibratorOn = false
          then q.drain.map (fun n => n - 1) else q.drain) ∧
        (t.seq h).holdTimer = q.holdTimer.map (fun n => n + 1) ∧
        (t.seq h).recoverWait = q.recoverWait.map (fun n => n + 1)) ∧
      t.field.thermoSecs = (if s.field.thermoSecs = 0 then 1 else 0) ∧
      t.field.levelSecs =
        (if s.bath.quiet = true then (if 9 ≤ s.field.levelSecs then 0 else s.field.levelSecs + 1) else 0) ∧
      (∀ (h : Hoist) (q : Sequencer) (immersing : Prop), q = t.seq h →
        (immersing ↔ (q.phase = .immerse ∨ ((q.phase = .held ∨ q.phase = .jogging) ∧ q.heldPhase = some .immerse))) →
        (.skimLeadReached h ∈ t.pending ↔
          q.skim = .none ∧ immersing ∧ ∃ n, q.countdown = some n ∧ n ≤ s.skimLead) ∧
        (.immersionCountdownZero h ∈ t.pending ↔ q.countdown = some 0 ∧ q.overdip = none ∧ immersing) ∧
        (.skimWaitExpired h ∈ t.pending ↔ q.skim = .waiting ∧ q.phase ∈ [Phase.awaitSkim, .held, .jogging] ∧
          ∃ n, q.skimWait = some n ∧ s.skimWaitLimit ≤ n) ∧
        (.overdipLimitExceeded h ∈ t.pending ↔
          q.overdipRaised = false ∧ ∃ n, q.overdip = some n ∧ s.overdipLimit < n) ∧
        (.vibrateEnd h ∈ t.pending ↔
          q.phase = .drain ∧ q.motion = none ∧ q.vibratorOn = true ∧ q.vibrate = some 0) ∧
        (.drainEnd h ∈ t.pending ↔
          q.phase = .drain ∧ q.motion = none ∧ q.vibratorOn = false ∧ q.vibrate.getD 0 = 0 ∧ q.drain = some 0) ∧
        (.motionOverdue h ∈ t.pending ↔ ∃ m, q.motion = some m ∧ m.limit ≤ m.elapsed) ∧
        (.holdButton4sMark h ∈ t.pending ↔
          q.pressed = true ∧ q.phase = .held ∧ ∃ n, q.holdTimer = some n ∧ 4 ≤ n) ∧
        (.recoveryTimeout h ∈ t.pending ↔ q.phase = .recover ∧ ∃ n, q.recoverWait = some n ∧ 10 ≤ n) ∧
        (.weighInTimeout h ∈ t.pending ↔
          ∃ w, (t.eng h).weigh = some w ∧ w.kind = .weighIn ∧ w.passed = false ∧ w.timeout ≤ w.elapsed) ∧
        (.weighOutTimeout h ∈ t.pending ↔
          ∃ w, (t.eng h).weigh = some w ∧ w.kind = .weighOut ∧ w.passed = false ∧ w.timeout ≤ w.elapsed) ∧
        (.gateTrialTick h ∈ t.pending ↔ q.phase = .awaitAdmit)) ∧
      t.pending.count .windowEntryExpiry = t.window.countP (fun e => decide (3600 ≤ e.age)) ∧
      (.kettleQuiet ∈ t.pending ↔ s.disturbed = false ∧ s.bath.quiet = false ∧ 30 ≤ t.bath.settle) ∧
      (.reconcileTimeout ∈ t.pending ↔ ∃ p, t.balance.pending = some p ∧ 600 ≤ p.waited) ∧
      (∀ st, .fieldPollDue st ∈ t.pending ↔
        (st = .thermo ∧ t.field.thermoSecs = 0) ∨ (st = .level ∧ s.bath.quiet = true ∧ t.field.levelSecs = 0)) ∧
      (∀ i ∈ t.pending, encodeRequest i = none) ∧
      (∀ i, i ≠ .windowEntryExpiry → t.pending.count i ≤ 1))

/-! ## Plant link -/

/-- R173, R176, R179, R180: the payload of a request, in the forms of R179 and the layout of R180, passes the checks of
R176 and reads back as that request, with every operand. -/
def Obligations.EncodedRequestReadsBackAsItself : Prop :=
  ∀ (i : Instr) (kind : Nat) (p : List Byte),
    i.wellFormed = true → encodeRequest i = some (kind, p) →
      checkForm kind p = .request i ∧ payloadLength kind = some p.length

/-- R176: the checks of the interface in their order: the kind, the payload length, the presence bytes, the reserved
bytes. R173, R174, R176: the check word bit by bit and its figure over the digits 1 to 9, and the worked frames of
chapter 10: the payload of a charge of 30,000 wu, one cut short, and a kind outside the index. R176, R179: a presence
byte that is neither 0 nor 1, and a reserved byte that is not 0, give FORMAT: in the declared weight of
REGISTER_LOAD, the new base tare of STRIP_JIG, the unused places of WRITE_CLASS for the silicon table, and the places
of a text beyond its length. -/
def Obligations.FormChecksStandInTheirOrder : Prop :=
  (∀ (kind : Nat) (p : List Byte),
      (payloadLength kind = none → checkForm kind p = .unknownKind) ∧
      (∀ n, payloadLength kind = some n → p.length ≠ n → checkForm kind p = .format) ∧
      (∀ n i, payloadLength kind = some n → checkForm kind p = .request i →
        p.length = n ∧
        (kind = 0x14 → field p 20 1 ≤ 1 ∧ (field p 20 1 = 0 → field p 21 4 = 0)) ∧
        (kind = 0x1A → field p 1 1 ≤ 1 ∧ (field p 1 1 = 0 → field p 2 4 = 0)) ∧
        (kind = 0x0A → field p 0 1 = 1 → field p 4 10 = 0) ∧
        (kind = 0x10 → field p 4 1 ≤ 16 → field p (5 + field p 4 1) (16 - field p 4 1) = 0))) ∧
  (crc [] = 0xFFFF#16 ∧
    (∀ (bs : List Byte) (b : Byte), crc (bs ++ [b]) = [7, 6, 5, 4, 3, 2, 1, 0].foldl
      (fun (c : BitVec 16) i => if c.getLsbD 15 = b.getLsbD i then c <<< 1 else (c <<< 1) ^^^ 0x1021#16) (crc bs)) ∧
    crc [0x31#8, 0x32#8, 0x33#8, 0x34#8, 0x35#8, 0x36#8, 0x37#8, 0x38#8, 0x39#8] = 0x29B1#16 ∧
    checkForm 0x38 [0x30#8, 0x75#8, 0x00#8, 0x00#8] = .request (.chargeZinc 30000) ∧
    checkForm 0x38 [0x30#8, 0x75#8, 0x00#8] = .format ∧
    checkForm 0x50 [0x30#8, 0x75#8, 0x00#8, 0x00#8] = .unknownKind ∧
    (frameOf 0x38 0x5C [0x30#8, 0x75#8, 0x00#8, 0x00#8]).take 4 = [0xA7#8, 0x04#8, 0x38#8, 0x5C#8]) ∧
  (∀ p : List Byte,
      (p.length = 25 → 1 < field p 20 1 ∨ (field p 20 1 = 0 ∧ field p 21 4 ≠ 0) → checkForm 0x14 p = .format) ∧
      (p.length = 6 → 1 < field p 1 1 ∨ (field p 1 1 = 0 ∧ field p 2 4 ≠ 0) → checkForm 0x1A p = .format) ∧
      (p.length = 14 → field p 0 1 = 1 → field p 4 10 ≠ 0 → checkForm 0x0A p = .format) ∧
      (p.length = 21 → field p 4 1 ≤ 16 → field p (5 + field p 4 1) (16 - field p 4 1) ≠ 0 →
        checkForm 0x10 p = .format))

/-- R173, R175, R177: the bytes of a good frame, arriving in HUNTING at a module that takes requests, have at the last
byte the effect of the request they spell, and the reply carries the frame's tag. The model's choices in it: log
entries 8, 50. -/
def Obligations.GoodFrameIsTheRequestItSpells : Prop :=
  ∀ (i : Instr) (kind tag : Nat) (p : List Byte) (s t : State),
    i.wellFormed = true → encodeRequest i = some (kind, p) → tag < 256 →
      s.listening = true → s.link.rx = .hunting →
      exec i { s with link := { s.link with rx := .receiving, buffer := (frameOf kind tag p).dropLast } } = .next t →
        runCommands ((frameOf kind tag p).map .frameByteReceived) s =
          .next { t with link := { t.link with reply := t.link.reply.map (fun r => { r with tag := tag }) } }

/-- R175: a byte in each of the three receiving states. R175, R176: a discarded frame returns the interface to HUNTING
with no reply and changes nothing else; a gap of more than 5 ms discards; a request of a kind outside the index is
answered UNKNOWN_KIND, with its kind plus 80h and its tag, and changes nothing else. R175, R176, R177: the bytes of a
frame whose check word is right and whose form is bad are answered FORMAT, or UNKNOWN_KIND for a kind outside the
index, with the frame's kind plus 80h and its own tag, and change nothing else. The model's choices in it: log
entries 8, 25, 50. -/
def Obligations.BytesAndDiscardsInEachReceivingState : Prop :=
  (∀ (b : Byte) (s : State), s.active = true →
      (s.link.rx = .hunting → b = 0xA7#8 →
        exec (.frameByteReceived b) s =
          .next { s with link := { s.link with rx := .receiving, buffer := [b] } }) ∧
      (s.link.rx = .hunting → b ≠ 0xA7#8 → exec (.frameByteReceived b) s = .next s) ∧
      (s.link.rx = .answering → exec (.frameByteReceived b) s = .next s) ∧
      (s.link.rx = .receiving → 1 ≤ s.link.buffer.length → 200 < field (s.link.buffer ++ [b]) 1 1 →
        exec (.frameByteReceived b) s =
          .next { s with link := { s.link with rx := .hunting, buffer := [] } }) ∧
      (s.link.rx = .receiving → field (s.link.buffer ++ [b]) 1 1 ≤ 200 →
        (s.link.buffer ++ [b]).length < field (s.link.buffer ++ [b]) 1 1 + 6 →
        exec (.frameByteReceived b) s =
          .next { s with link := { s.link with buffer := s.link.buffer ++ [b] } }) ∧
      (∀ n, s.link.rx = .receiving → field (s.link.buffer ++ [b]) 1 1 = n → n ≤ 200 →
        (s.link.buffer ++ [b]).length = n + 6 →
        (crc (((s.link.buffer ++ [b]).drop 1).take (n + 3))).toNat ≠
          256 * field (s.link.buffer ++ [b]) (4 + n) 1 + field (s.link.buffer ++ [b]) (5 + n) 1 →
        exec (.frameByteReceived b) s =
          .next { s with link := { s.link with rx := .hunting, buffer := [] } })) ∧
  (∀ s : State,
      (∀ c ∈ [Instr.frameDiscarded, .frameGapTimeout],
        (s.active = true → s.link.rx = .receiving →
          exec c s = .next { s with link := { s.link with rx := .hunting, buffer := [] } }) ∧
        (s.link.rx ≠ .receiving → exec c s = .next s)) ∧
      ∀ kind tag, s.listening = true → payloadLength kind = none →
        exec (.unknownKindRequest kind tag) s = .next (s.answered kind tag .unknownKind .empty)) ∧
  (∀ (kind tag : Nat) (p : List Byte) (s : State),
      kind < 256 → tag < 256 → p.length ≤ 200 → s.listening = true → s.link.rx = .hunting →
      (checkForm kind p = .format →
        runCommands ((frameOf kind tag p).map .frameByteReceived) s = .next (s.answered kind tag .format .empty)) ∧
      (checkForm kind p = .unknownKind →
        runCommands ((frameOf kind tag p).map .frameByteReceived) s = .next (s.answered kind tag .unknownKind .empty)))

/-- R181, R183, R186: the categories of the kinds. A notice is raised with the time of the clock, and joins the tail;
into a full queue a fault notice displaces the oldest progress notice, and any other is discarded with the overrun
flag set; the lines follow the queue. -/
def Obligations.NoticeJoinsDisplacesOrIsLost : Prop :=
  (∀ k : NoticeKind,
    (k.isFault = true ↔ k ∈ [NoticeKind.fieldFault, .emergencyRaise, .overdip, .lossSuspect, .overTemperature,
      .tempUnknown, .recoveredInBath, .skimmerOut, .totalSaturated, .storeLost]) ∧
    (k.isProgress = true ↔ k ∈ [NoticeKind.entered, .dipPosted, .weighUnstable, .admitWait, .skimMissed, .levelLow,
      .reconciled, .periodClosed, .restarted])) ∧
  (∀ (k : NoticeKind) (h : Option Hoist) (id : Option Nat) (d1 d2 : Option Int) (s : State),
    raise k h id d1 d2 s = { s with
      link := s.link.raise { kind := k, time := s.link.clock, hoist := h, load := id, data1 := d1, data2 := d2 } }) ∧
  ∀ (n : Notice) (l : Link),
    (l.notices.length < 32 →
      (l.raise n).notices = l.notices ++ [n] ∧ (l.raise n).overrun = l.overrun ∧ (l.raise n).linesRight) ∧
    (32 ≤ l.notices.length → n.kind.isFault = false → l.raise n = { l with overrun := true }) ∧
    (32 ≤ l.notices.length → (∀ x ∈ l.notices, x.kind.isProgress = false) → l.raise n = { l with overrun := true }) ∧
    (∀ before gone after, 32 ≤ l.notices.length → n.kind.isFault = true →
      l.notices = before ++ gone :: after → gone.kind.isProgress = true →
      (∀ x ∈ before, x.kind.isProgress = false) →
        (l.raise n).notices = before ++ after ++ [n] ∧ (l.raise n).overrun = true ∧ (l.raise n).linesRight) ∧
    (l.raise n).rx = l.rx ∧ (l.raise n).buffer = l.buffer ∧ (l.raise n).reply = l.reply ∧
    (l.raise n).maskFault = l.maskFault ∧ (l.raise n).maskProgress = l.maskProgress ∧
    (l.raise n).clock = l.clock ∧ (l.raise n).fastBaud = l.fastBaud ∧ (l.raise n).singleLine = l.singleLine

/-- R184: FETCH_NOTICE returns the head of the queue with the overrun flag, which it clears; an empty queue gives a
notice of kind NONE. A STORE_LOST it returns clears the store-lost mark (R194). -/
def Obligations.FetchReturnsTheHeadNotice : Prop :=
  ∀ s : State, s.listening = true →
    (∀ n rest, s.link.notices = n :: rest → ∃ f p,
      Taken .fetchNotice 0x40 (.notice s.link.overrun n) s
        { s with
          link := { s.link with notices := rest, overrun := false, lineF := f, lineP := p }
          unit := { s.unit with storeLost := s.unit.storeLost && !decide (n.kind = .storeLost) } } ∧
      Link.linesRight { s.link with notices := rest, overrun := false, lineF := f, lineP := p }) ∧
    (s.link.notices = [] →
      Taken .fetchNotice 0x40
        (.notice s.link.overrun
          { kind := .none, time := 0, hoist := none, load := none, data1 := none, data2 := none }) s
        { s with link := { s.link with overrun := false } })

/-- R185, R187: SET_NOTICE_MASK sets both masks and the lines, or is refused RANGE whole; SET_CLOCK sets the clock and
answers the clock before it; the clock advances by one, and to 0 after 4,294,967,295. -/
def Obligations.MasksAndClockAreSetAndTheClockAdvances : Prop :=
  ∀ s : State,
    (s.listening = true →
      (∀ f p : Bool, ∃ x y,
        Taken (.setNoticeMask f.toNat p.toNat) 0x41 .empty s
          { s with link := { s.link with maskFault := f, maskProgress := p, lineF := x, lineP := y } } ∧
        Link.linesRight { s.link with maskFault := f, maskProgress := p, lineF := x, lineP := y }) ∧
      (∀ f p, 1 < f ∨ 1 < p → Refused (.setNoticeMask f p) 0x41 .range s) ∧
      (∀ v, v < 4294967296 →
        Taken (.setClock v) 0x03 (.clockBefore s.link.clock) s { s with link := { s.link with clock := v } })) ∧
    (s.unit.powered = true → s.link.clock ≤ 4294967295 →
      exec .plantClockAdvance s =
        .next { s with link := { s.link with
          clock := if s.link.clock = 4294967295 then 0 else s.link.clock + 1 } })

/-! ## Resets -/

/-- R175, R197: while the module takes no request, in reset, while RESTART waits for the end of its reply, or with a
reply on the line, every request is lost without a reply, and so is one of a kind outside the index, and so are the
bytes of a frame in reset. R175, R197: the end of a reply returns the interface to HUNTING; RESTART is taken in every
state, answered OK, and its command reset waits for the end of that reply. The model's choices in it: log entries 5,
8, 50. -/
def Obligations.RequestsAreLostAndRepliesEnd : Prop :=
  (∀ (c : Instr) (s : State),
      (s.active = true ↔ s.unit.powered = true ∧ s.unit.inReset = false) ∧
      (s.listening = true ↔ s.active = true ∧ s.unit.restartPending = false ∧ s.link.rx ≠ .answering) ∧
      (s.listening = false →
        ((encodeRequest c).isSome = true → exec c s = .next s) ∧
        (∀ kind tag, exec (.unknownKindRequest kind tag) s = .next s) ∧
        (∀ b, s.active = false → exec (.frameByteReceived b) s = .next s))) ∧
  (∀ s : State,
      (s.listening = true →
        Taken .restart 0x04 .empty s { s with unit := { s.unit with restartPending := true } }) ∧
      (s.active = true → s.unit.restartPending = false → s.link.rx = .answering →
        exec .replySent s = .next { s with link := { s.link with rx := .hunting, buffer := [], reply := none } }) ∧
      (s.link.rx ≠ .answering → exec .replySent s = .next s))

/-- R170, R186, R188, R197: a reset by the reset input, and the loss of supply, end the work in progress of every block
at once: motions, weighs, sweeps, countdowns, transactions, timers; the vibrators and the lines are idle, the link is
HUNTING with no reply; nothing retained changes. The model's choices in it: log entries 23, 24, 28, 45. -/
def Obligations.ResetInputAndLossOfSupplyEndAllWork : Prop :=
  ∀ (s : State) (c : Instr), c ∈ [Instr.resetInputAsserted, .supplyLost false, .supplyLost true] →
    s.unit.powered = true → ∃ t, exec c s = .next t ∧
      (c = .resetInputAsserted → t.unit =
        { s.unit with restartPending := false, inReset := true, starting := none }) ∧
      (∀ cut, c = .supplyLost cut →
        t.unit = { s.unit with restartPending := false, powered := false, inReset := false,
                               starting := none, checkGood := s.unit.checkGood && !cut }) ∧
      t.link = { s.link with rx := .hunting, buffer := [], reply := none, lineF := false, lineP := false } ∧
      (∀ h, t.seq h = Sequencer.fresh (s.seq h).enabled (s.seq h).pressed) ∧
      (∀ h, t.eng h = { s.eng h with weigh := none }) ∧
      t.arbiter = { s.arbiter with queue := [] } ∧
      t.skimmer = { s.skimmer with mode := .idle, sweep := none, queue := [], pollsBegun := false } ∧
      (∀ st, t.station st = { s.station st with trans := none, pollDue := none, cmds := [] }) ∧
      t.field.instant = s.field.instant ∧ t.field.thermoSecs = 0 ∧ t.field.levelSecs = 0 ∧
      t.balance = { s.balance with pending := s.balance.pending.map (fun p => { p with waited := 0 }) } ∧
      t.bath = s.bath ∧ t.window = s.window ∧ t.records = s.records ∧ t.capture = s.capture ∧
      t.settings = s.settings ∧ t.free = s.free ∧ t.pending = s.pending

/-- R197, R198, R199: a command reset, begun by the end of RESTART's reply or ended by the release of the reset input,
keeps what the manual keeps and brings every block to its start-up state, as StartUpReaches says of the whole state:
the tables with their load fields and the jigs' carried-by fields (R127), the spans (R61), the last reconciliation
result or ABANDONED (R145), the recovering hoists (R32), the emptied queues, the engines (R94), the estimated depth
and the arming of its warning (R83, R84, R90), the skimmer (R73), the notices behind those that were kept, the lines
(R188) and the line's first transactions (R160, R170). Start-up ends with stage 8 unless a reset or a loss of supply
waits, which may overtake it at an earlier stage (R199). The model's choices in it: log entries 24, 36, 45. -/
def Obligations.CommandResetKeepsWhatTheManualKeeps : Prop :=
  ∀ (s : State) (c : Instr) (k : ResetKind),
    ((c = .replySent ∧ k = .restart ∧ s.active = true ∧ s.link.rx = .answering ∧ s.unit.restartPending = true) ∨
      (c = .resetInputReleased ∧ k = .input ∧ s.unit.powered = true ∧ s.unit.inReset = true ∧
        s.unit.starting = none) →
      (¬ s.interrupted ∨ s.unit.overtaken = none → ∃ t, exec c s = .next t ∧ StartUpReaches k 8 s t) ∧
      (∀ i : Fin 7, s.interrupted → s.unit.overtaken = some i → ∃ t, exec c s = .next t ∧ StartUpReaches k (i.val + 1) s t)) ∧
    (s.unit.powered = false ∨ s.unit.inReset = false ∨ s.unit.starting ≠ none →
      exec .resetInputReleased s = .next s)

/-- R90, R91, R94, R164, R170, R187, R188, R193, R194, R198: SUPPLY_ON with a retained store whose check holds reads the
straps, clears the calibration lock with the key asserted, empties what is not retained, and then starts up, as
StartUpReaches says of the whole state: it keeps the tables with the load fields and the jigs, the spans, the last
reconciliation result or ABANDONED, the settings, the book and the periods. Start-up ends with stage 8 unless a reset
or a loss of supply waits, which may overtake it at an earlier stage (R199). R194, R198: SUPPLY_ON with a retained
store whose check fails brings, where start-up is not overtaken, the state after reset with every retained item at
its default, but for the straps as read, the levels of the hold buttons (R28), and the model's own counter and draw
of free values and queue; a start-up that is overtaken stops at the stage reached, with every retained item at its
default (R199). The model's choices in it: log entries 1, 2, 23, 24, 28, 36, 45. -/
def Obligations.SupplyOnByTheCheckOfTheStore : Prop :=
  (∀ (fast single key : Bool) (s u : State), s.unit.checkGood = true →
      (u = { s with
        unit := { s.unit with powered := true }
        link := { s.link with fastBaud := fast, singleLine := single, notices := [], overrun := false, maskFault := false,
                              maskProgress := false, clock := 0 }
        engA := { weigh := none, last := none }
        engB := { weigh := none, last := none }
        bath := { s.bath with reading := none, hEst := none }
        window := []
        settings := { s.settings with lock := s.settings.lock && !key }
        capture := { record := none, multiple := false }
        field := { driveA := StationState.fresh, driveB := StationState.fresh, scaleA := StationState.fresh,
                   scaleB := StationState.fresh, skimmer := StationState.fresh, thermo := StationState.fresh,
                   level := StationState.fresh, instant := 0, thermoSecs := 0, levelSecs := 0 } }) →
      (¬ s.interrupted ∨ s.unit.overtaken = none →
        ∃ t, exec (.supplyOn fast single key) s = .next t ∧ StartUpReaches .supply 8 u t) ∧
      (∀ i : Fin 7, s.interrupted → s.unit.overtaken = some i →
        ∃ t, exec (.supplyOn fast single key) s = .next t ∧ StartUpReaches .supply (i.val + 1) u t)) ∧
  (∀ (fast single key : Bool) (s u : State), s.unit.checkGood = false →
      (u = { State.reset with
        unit := { s.unit with powered := true, checkGood := true, storeLost := true }
        link := { s.link with fastBaud := fast, singleLine := single, notices := [], overrun := false, maskFault := false,
                              maskProgress := false, clock := 0 }
        seqA := { s.seqA with enabled := true }
        seqB := { s.seqB with enabled := true }
        bath := { s.bath with reading := none, hEst := none }
        field := { driveA := StationState.fresh, driveB := StationState.fresh, scaleA := StationState.fresh,
                   scaleB := StationState.fresh, skimmer := StationState.fresh, thermo := StationState.fresh,
                   level := StationState.fresh, instant := 0, thermoSecs := 0, levelSecs := 0 }
        free := s.free
        pending := s.pending }) →
      (¬ s.interrupted ∨ s.unit.overtaken = none →
        exec (.supplyOn fast single key) s =
          .next { State.reset with
            unit := { State.reset.unit with overtaken := Config.nextOvertaken s.free }
            link := { State.reset.link with fastBaud := fast, singleLine := single, lineP := !single }
            seqA := { State.reset.seqA with pressed := s.seqA.pressed }
            seqB := { State.reset.seqB with pressed := s.seqB.pressed }
            free := s.free + 1
            pending := s.pending }) ∧
      (∀ i : Fin 7, s.interrupted → s.unit.overtaken = some i →
        ∃ t, exec (.supplyOn fast single key) s = .next t ∧ StartUpReaches .supply (i.val + 1) u t))

/-! ## Settings, classes, identity and status -/

/-- R84, R159, R191: WRITE_SETTING in the order of its checks. A drive's mask is stored without the bits of codes 3, 4
and 5, and a write of the level warning is compared with the estimated depth at once. -/
def Obligations.WriteSettingByItsTable : Prop :=
  ∀ (id : Nat) (v : Int) (s : State), s.listening = true →
    (id = 0 ∨ 37 < id → Refused (.writeSetting id v) 0x08 .range s) ∧
    (1 ≤ id → id ≤ 8 → s.settings.lock = true → Refused (.writeSetting id v) 0x08 .locked s) ∧
    (id = 25 → v ∉ ([8, 16, 32] : List Int) → Refused (.writeSetting id v) 0x08 .ignored s) ∧
    (id = 25 → v ∈ ([8, 16, 32] : List Int) →
      Taken (.writeSetting id v) 0x08 (.setting v) s
        { s with settings := { s.settings with values := s.settings.values.set 24 v } }) ∧
    (1 ≤ id → id ≤ 37 → id ≠ 25 → (8 < id ∨ s.settings.lock = false) →
      (v < (s.settingRange id).1 ∨ (s.settingRange id).2 < v ∨ (id = 1 ∧ s.setting 12 < 2000 + v)) →
      Refused (.writeSetting id v) 0x08 .range s) ∧
    (1 ≤ id → id ≤ 37 → id ≠ 25 → (8 < id ∨ s.settings.lock = false) →
      (s.settingRange id).1 ≤ v → v ≤ (s.settingRange id).2 → (id = 1 → 2000 + v ≤ s.setting 12) →
      (id ≠ 22 → id ≠ 30 → id ≠ 31 →
        Taken (.writeSetting id v) 0x08 (.setting v) s
          { s with settings := { s.settings with values := s.settings.values.set (id - 1) v } }) ∧
      (id = 30 ∨ id = 31 → ∃ m : Nat, m = v.toNat &&& 49 ∧
        Taken (.writeSetting id v) 0x08 (.setting (m : Int)) s
          { s with settings := { s.settings with values := s.settings.values.set (id - 1) (m : Int) } }) ∧
      (id = 22 →
        Taken (.writeSetting id v) 0x08 (.setting v) s
          (compareLevel { s with settings := { s.settings with values := s.settings.values.set 21 v } })))

/-- R34, R35, R37: WRITE_CLASS replaces one whole record, or is refused RANGE with every record as it was. -/
def Obligations.WriteClassReplacesAWholeRecord : Prop :=
  ∀ (table number f1 f2 f3 f4 f5 f6 : Nat) (s : State), s.listening = true →
    (1 < table → Refused (.writeClass table number f1 f2 f3 f4 f5 f6) 0x0A .range s) ∧
    (table = 0 →
      (15 < number ∨ 900 < f1 ∨ 60 < f2 ∨ f3 < 10 ∨ 200 < f3 ∨ f4 < 5 ∨ 60 < f4 ∨ 60 < f5 ∨ 600 < f6) →
      Refused (.writeClass table number f1 f2 f3 f4 f5 f6) 0x0A .range s) ∧
    (table = 1 → (3 < number ∨ f1 < 40 ∨ 150 < f1) →
      Refused (.writeClass table number f1 f2 f3 f4 f5 f6) 0x0A .range s) ∧
    (table = 0 → number ≤ 15 → f1 ≤ 900 → f2 ≤ 60 → 10 ≤ f3 → f3 ≤ 200 → 5 ≤ f4 → f4 ≤ 60 → f5 ≤ 60 → f6 ≤ 600 →
      Taken (.writeClass table number f1 f2 f3 f4 f5 f6) 0x0A .empty s
        { s with settings := { s.settings with
          sections := s.settings.sections.set number
            ({ base := f1, perMm := f2, entrySpeed := f3, withdrawSpeed := f4, vibrate := f5, drain := f6 } :
              SectionClass) } }) ∧
    (table = 1 → number ≤ 3 → 40 ≤ f1 → f1 ≤ 150 →
      Taken (.writeClass table number f1 f2 f3 f4 f5 f6) 0x0A .empty s
        { s with settings := { s.settings with silicons := s.settings.silicons.set number f1 } })

/-- R38, R192, R193, R195, R196: the requests of the Settings Store that read, and the setting of the lock. R2, R14, R16,
R17, R18, R43, R47, R60, R102, R190: what the names used in these statements read: the settings by their ids, a
hoist's parts, its carried load's latched recipe, the span of an owner and the lists of READ_ZONES. -/
def Obligations.SettingsStoreReadsAndLock : Prop :=
  (∀ s : State, s.listening = true →
      Taken .identify 0x01 (.identity s.link.fastBaud s.link.singleLine) s s ∧
      Taken .lockCalibration 0x0C .empty s { s with settings := { s.settings with lock := true } } ∧
      (∀ id, 1 ≤ id → id ≤ 37 → Taken (.readSetting id) 0x09 (.setting (s.setting id)) s s) ∧
      (∀ id, id = 0 ∨ 37 < id → Refused (.readSetting id) 0x09 .range s) ∧
      (∀ n c, s.settings.sections[n]? = some c → n ≤ 15 → Taken (.readClass 0 n) 0x0B (.sectionClass c) s s) ∧
      (∀ n m, s.settings.silicons[n]? = some m → n ≤ 3 → Taken (.readClass 1 n) 0x0B (.siliconClass m) s s) ∧
      (∀ t n, 1 < t ∨ (t = 0 ∧ 15 < n) ∨ (t = 1 ∧ 3 < n) → Refused (.readClass t n) 0x0B .range s) ∧
      Taken (.readStatus 0) 0x02 (.hoistStatus s.seqA s.engA) s s ∧
      Taken (.readStatus 1) 0x02 (.hoistStatus s.seqB s.engB) s s ∧
      Taken (.readStatus 2) 0x02 (.skimmerStatus s.skimmer.mode s.skimmer.sweep s.skimmer.queue) s s ∧
      Taken (.readStatus 3) 0x02
        (.bathStatus
          { channels := s.bath.channels, temp := s.bath.temp, quiet := s.bath.quiet, settle := s.bath.settle,
            hEst := s.bath.hEst, entries := s.window.length, total := (s.window.map WindowEntry.weight).sum,
            oldestLeaves := s.window.head?.map (fun e => 3600 - e.age) }) s s ∧
      Taken (.readStatus 4) 0x02
        (.moduleStatus
          { clock := s.link.clock, lock := s.settings.lock
            lastReset := match s.unit.lastReset with | .supply => 0 | .restart => 1 | .input => 2
            orders := s.records.orders.length, loads := s.records.loads.length, jigs := s.records.jigs.length
            faultNotices := s.link.notices.countP (fun n => n.kind.isFault)
            progressNotices := s.link.notices.countP (fun n => n.kind.isProgress)
            overrun := s.link.overrun, maskFault := s.link.maskFault, maskProgress := s.link.maskProgress
            lineF := s.link.lineF, lineP := s.link.lineP, reconPending := s.balance.pending.isSome
            faultFull := s.capture.record.isSome, multiple := s.capture.multiple }) s s ∧
      (∀ part, 4 < part → Refused (.readStatus part) 0x02 .range s)) ∧
  ((∀ (s : State) (id : Nat), s.setting id = s.settings.values.getD (id - 1) 0) ∧
    (∀ s : State,
      s.skimLead = (s.setting 16).toNat ∧ s.skimWaitLimit = (s.setting 17).toNat ∧
      s.overdipLimit = (s.setting 18).toNat ∧
      s.stationPosition .A = s.setting 11 ∧ s.stationPosition .B = s.setting 12 ∧
      s.scaleZero .A = s.setting 5 ∧ s.scaleZero .B = s.setting 6 ∧
      s.spanFactor .A = s.setting 7 ∧ s.spanFactor .B = s.setting 8 ∧
      s.seq .A = s.seqA ∧ s.seq .B = s.seqB ∧ s.eng .A = s.engA ∧ s.eng .B = s.engB ∧
      [Station.driveA, .driveB, .scaleA, .scaleB, .skimmer, .thermo, .level].map s.station =
        [s.field.driveA, s.field.driveB, s.field.scaleA, s.field.scaleB, s.field.skimmer, s.field.thermo, s.field.level] ∧
      driveOf .A = .driveA ∧ driveOf .B = .driveB ∧ scaleOf .A = .scaleA ∧ scaleOf .B = .scaleB) ∧
    (∀ (s : State) (q : Sequencer) (e : WeighEngine) (x : StationState),
      setSeq .A q s = { s with seqA := q } ∧ setSeq .B q s = { s with seqB := q } ∧
      setEng .A e s = { s with engA := e } ∧ setEng .B e s = { s with engB := e } ∧
      setStation .driveA x s = { s with field := { s.field with driveA := x } } ∧
      setStation .driveB x s = { s with field := { s.field with driveB := x } } ∧
      setStation .scaleA x s = { s with field := { s.field with scaleA := x } } ∧
      setStation .scaleB x s = { s with field := { s.field with scaleB := x } } ∧
      setStation .skimmer x s = { s with field := { s.field with skimmer := x } } ∧
      setStation .thermo x s = { s with field := { s.field with thermo := x } } ∧
      setStation .level x s = { s with field := { s.field with level := x } } ∧
      q.position .lift = q.lift ∧ q.position .travel = q.travel ∧
      q.cleared = { q with
        phase := .idle, heldPhase := none, load := none, pImm := none, pClr := none, centre := none, motion := none,
        countdown := none, skim := .none, skimWait := none, overdip := none, overdipRaised := false, vibrate := none,
        drain := none, vibratorOn := false, holdTimer := none, recoverWait := none }) ∧
    (∀ (h : Hoist) (s : State) (f : LoadRec → LoadRec),
      s.carried h = (s.seq h).load.bind (fun id => s.records.loads.find? (fun r => r.id == id)) ∧
      s.latched h = (s.carried h).bind LoadRec.latched ∧
      (s.admitted h = true ↔ ∃ l, s.latched h = some l) ∧
      (∀ l, s.latched h = some l →
        s.entrySpeed h = (l.entrySpeed : Int) ∧ s.withdrawSpeed h = (l.withdrawSpeed : Int)) ∧
      (s.latched h = none → s.withdrawSpeed h = s.setting 14) ∧
      (∀ id, (s.seq h).load = some id → modCarried h f s = withLoad id f s)) ∧
    ∀ (a : SpanArbiter) (o : Owner),
      a.spanOf o = a.spans.find? (fun p => decide (p.owner = o)) ∧
      a.listed = [Owner.hoist .A, .hoist .B, .maint 1, .maint 2, .maint 3, .maint 4].filterMap
        (fun o => a.spans.find? (fun p => decide (p.owner = o))) ∧
      a.entries = [1, 2, 3, 4, 5, 6, 7, 8, 9, 10, 11, 12].map (fun z => (a.service.getD (z - 1) false,
        (a.spans.find? (fun p => decide (p.first ≤ z ∧ z ≤ p.last))).map Span.owner)))

/-! ## Records -/

/-- R113, R114: OPEN_ORDER in the order of its checks; a new record stands behind the others, with its totals at 0. R115,
R116: CLOSE_ORDER, READ_ORDER and REMOVE_ORDER of an order that exists (the first record of its number), of one that
does not, and of a number out of range. -/
def Obligations.OrdersAreOpenedClosedReadAndRemoved : Prop :=
  (∀ (n : Nat) (text : List Nat) (s : State), s.listening = true →
      (n = 0 ∨ 4294967295 < n → Refused (.openOrder n text) 0x10 .range s) ∧
      (16 < text.length ∨ (∃ c ∈ text, c < 0x20 ∨ 0x7E < c) → Refused (.openOrder n text) 0x10 .range s) ∧
      (1 ≤ n → n ≤ 4294967295 → text.length ≤ 16 → (∀ c ∈ text, 0x20 ≤ c ∧ c ≤ 0x7E) →
        ((∃ o ∈ s.records.orders, o.number = n) → Refused (.openOrder n text) 0x10 .exists s) ∧
        ((∀ o ∈ s.records.orders, o.number ≠ n) →
          (32 ≤ s.records.orders.length → Refused (.openOrder n text) 0x10 .full s) ∧
          (s.records.orders.length < 32 → Taken (.openOrder n text) 0x10 .empty s
            { s with records := { s.records with orders := s.records.orders ++
              [{ number := n, isOpen := true, reference := if text = [] then none else some text,
                 opened := s.link.clock, closed := none, blackNet := 0, galvNet := 0, pickup := 0, dipped := 0,
                 nonconforming := 0, lossSuspect := 0, unweighed := 0, overflow := false }] } })))) ∧
  (∀ (n : Nat) (s : State), s.listening = true →
     (n = 0 ∨ 4294967295 < n →
      Refused (.closeOrder n) 0x11 .range s ∧ Refused (.readOrder n) 0x12 .range s ∧
      Refused (.removeOrder n) 0x13 .range s) ∧
     (1 ≤ n → n ≤ 4294967295 →
      ((∀ o ∈ s.records.orders, o.number ≠ n) →
        Refused (.closeOrder n) 0x11 .notFound s ∧ Refused (.readOrder n) 0x12 .notFound s ∧
        Refused (.removeOrder n) 0x13 .notFound s) ∧
      ∀ o, s.records.orders.find? (fun o => o.number == n) = some o →
        Taken (.readOrder n) 0x12
          (.order o (s.records.loads.countP (fun r => decide (r.order = n)))
            (s.records.loads.countP (fun r => decide (r.order = n) && decide (r.state = .inCycle)))) s s ∧
        ((∃ r ∈ s.records.loads, r.order = n ∧ r.state = .inCycle) → Refused (.closeOrder n) 0x11 .state s) ∧
        ((∀ r ∈ s.records.loads, r.order = n → r.state ≠ .inCycle) →
          (o.isOpen = false → Taken (.closeOrder n) 0x11 .empty s s) ∧
          (o.isOpen = true → Taken (.closeOrder n) 0x11 .empty s
            { s with records := { s.records with orders := s.records.orders.map (fun x =>
              if x.number = n then { x with isOpen := false, closed := some s.link.clock } else x) } })) ∧
        (o.isOpen = true ∨ (∃ r ∈ s.records.loads, r.order = n) → Refused (.removeOrder n) 0x13 .state s) ∧
        (o.isOpen = false → (∀ r ∈ s.records.loads, r.order ≠ n) →
          Taken (.removeOrder n) 0x13 .empty s
            { s with records := { s.records with
              orders := s.records.orders.filter (fun x => !decide (x.number = n)) } })))

/-- R39, R117, R119: REGISTER_LOAD in the order of its checks; t above 100 is stored as 100 with THICK_CLAMPED. -/
def Obligations.RegisterLoadByItsTable : Prop :=
  ∀ (id order jig sect silicon thick zones : Nat) (hang height : Int) (declared : Option Nat) (s : State) (c : Instr),
    c = .registerLoad id order jig sect silicon thick zones hang height declared → s.listening = true →
    ((id = 0 ∨ 65535 < id ∨ order = 0 ∨ 4294967295 < order ∨ jig = 0 ∨ 255 < jig ∨ 15 < sect ∨ 3 < silicon ∨
        thick = 0 ∨ zones = 0 ∨ 12 < zones ∨ hang < 200 ∨ 4000 < hang ∨ height < 100 ∨ 3500 < height ∨
        (∃ w, declared = some w ∧ (w = 0 ∨ 200000 < w))) →
      Refused c 0x14 .range s) ∧
    (1 ≤ id → id ≤ 65535 → 1 ≤ order → order ≤ 4294967295 → 1 ≤ jig → jig ≤ 255 → sect ≤ 15 → silicon ≤ 3 →
      1 ≤ thick → 1 ≤ zones → zones ≤ 12 → 200 ≤ hang → hang ≤ 4000 → 100 ≤ height → height ≤ 3500 →
      (∀ w, declared = some w → 1 ≤ w ∧ w ≤ 200000) →
      ((∀ o ∈ s.records.orders, o.number ≠ order) → Refused c 0x14 .notFound s) ∧
      ((∀ j ∈ s.records.jigs, j.number ≠ jig) → Refused c 0x14 .notFound s) ∧
      ∀ o, s.records.orders.find? (fun o => o.number == order) = some o → (∃ j ∈ s.records.jigs, j.number = jig) →
        (o.isOpen = false → Refused c 0x14 .state s) ∧
        (o.isOpen = true → (∃ r ∈ s.records.loads, r.id = id) → Refused c 0x14 .exists s) ∧
        (o.isOpen = true → (∀ r ∈ s.records.loads, r.id ≠ id) → 48 ≤ s.records.loads.length →
          Refused c 0x14 .full s) ∧
        (o.isOpen = true → (∀ r ∈ s.records.loads, r.id ≠ id) → s.records.loads.length < 48 →
          Taken c 0x14 .empty s
            { s with records := { s.records with loads := s.records.loads ++
              [{ id := id, order := order, jig := jig, sect := sect, silicon := silicon, thick := min thick 100,
                 zones := zones, hang := hang, height := height, declared := declared, state := .registered,
                 hoist := none, span := none, latched := none, withdrawTime := none, wIn := none, wOut := none,
                 overdipSeconds := none, postingTime := none, loadPickup := none, jigPickup := none,
                 blackNet := none, galvNet := none, steelLost := none,
                 flags := { thickClamped := decide (100 < thick), unweighedIn := false, unweighedOut := false,
                            unsettled := false, skimMissed := false, nonconforming := false, lossSuspect := false,
                            interrupted := false, overRange := false, underRange := false } }] } }))

/-- R120, R121: READ_LOAD with the pickup per mille, and REMOVE_LOAD. R122, R124, R126: ADD_JIG makes or updates a jig,
READ_JIG reports it, REMOVE_JIG removes it. -/
def Obligations.LoadsAndJigsAreReadAndRemoved : Prop :=
  (∀ (id : Nat) (s : State), s.listening = true →
      (id = 0 ∨ 65535 < id → Refused (.readLoad id) 0x15 .range s ∧ Refused (.removeLoad id) 0x16 .range s) ∧
      (1 ≤ id → id ≤ 65535 →
        ((∀ r ∈ s.records.loads, r.id ≠ id) →
          Refused (.readLoad id) 0x15 .notFound s ∧ Refused (.removeLoad id) 0x16 .notFound s) ∧
        ∀ r, s.records.loads.find? (fun r => r.id == id) = some r →
          (∀ p b, r.loadPickup = some p → r.blackNet = some b → 0 < b →
            Taken (.readLoad id) 0x15 (.load r (some (p * 1000 / b))) s s) ∧
          (r.loadPickup = none ∨ r.blackNet = none ∨ r.blackNet = some 0 →
            Taken (.readLoad id) 0x15 (.load r none) s s) ∧
          (r.state = .inCycle → Refused (.removeLoad id) 0x16 .state s) ∧
          (r.state ≠ .inCycle → Taken (.removeLoad id) 0x16 .empty s
            { s with records := { s.records with
              loads := s.records.loads.filter (fun x => !decide (x.id = id)) } }))) ∧
  (∀ (n base a : Nat) (s : State), s.listening = true →
      (n = 0 ∨ 255 < n ∨ 50000 < base ∨ 2000 < a → Refused (.addJig n base a) 0x18 .range s) ∧
      (n = 0 ∨ 255 < n → Refused (.readJig n) 0x19 .range s ∧ Refused (.removeJig n) 0x1B .range s) ∧
      (1 ≤ n → n ≤ 255 →
        (base ≤ 50000 → a ≤ 2000 →
          ((∀ j ∈ s.records.jigs, j.number ≠ n) → 64 ≤ s.records.jigs.length →
            Refused (.addJig n base a) 0x18 .full s) ∧
          ((∀ j ∈ s.records.jigs, j.number ≠ n) → s.records.jigs.length < 64 →
            Taken (.addJig n base a) 0x18 (.jigMade true) s
              { s with records := { s.records with jigs := s.records.jigs ++
                [{ number := n, base := base, allowance := a, buildUp := 0, dips := 0, overflow := false,
                   carriedBy := none }] } }) ∧
          ∀ j, s.records.jigs.find? (fun j => j.number == n) = some j →
            (j.carriedBy ≠ none → Refused (.addJig n base a) 0x18 .state s) ∧
            (j.carriedBy = none → Taken (.addJig n base a) 0x18 (.jigMade false) s
              { s with records := { s.records with jigs := s.records.jigs.map (fun x =>
                if x.number = n then { x with base := base, allowance := a } else x) } })) ∧
        ((∀ j ∈ s.records.jigs, j.number ≠ n) →
          Refused (.readJig n) 0x19 .notFound s ∧ Refused (.removeJig n) 0x1B .notFound s) ∧
        ∀ j, s.records.jigs.find? (fun j => j.number == n) = some j →
          Taken (.readJig n) 0x19
            (.jig j (j.base + j.buildUp)
              (s.records.loads.countP (fun r => decide (r.jig = n) && decide (r.state ≠ .complete)))) s s ∧
          ((∃ r ∈ s.records.loads, r.jig = n ∧ r.state ≠ .complete) → Refused (.removeJig n) 0x1B .state s) ∧
          ((∀ r ∈ s.records.loads, r.jig = n → r.state = .complete) →
            Taken (.removeJig n) 0x1B .empty s
              { s with records := { s.records with
                jigs := s.records.jigs.filter (fun x => !decide (x.number = n)) } })))

/-- R125, R148, R152: STRIP_JIG empties the jig's build-up into the open period's jig-strip total, which saturates, and
leaves the book as it was. The model's choices in it: log entry 52. -/
def Obligations.StripHandsTheBuildUpToThePeriod : Prop :=
  ∀ (n : Nat) (tare : Option Nat) (s : State), s.listening = true →
    (n = 0 ∨ 255 < n ∨ (∃ b, tare = some b ∧ 50000 < b) → Refused (.stripJig n tare) 0x1A .range s) ∧
    (1 ≤ n → n ≤ 255 → (∀ b, tare = some b → b ≤ 50000) →
      ((∀ j ∈ s.records.jigs, j.number ≠ n) → Refused (.stripJig n tare) 0x1A .notFound s) ∧
      ∀ j, s.records.jigs.find? (fun j => j.number == n) = some j →
        (j.carriedBy ≠ none → Refused (.stripJig n tare) 0x1A .state s) ∧
        (∀ spill, (spill = (s.balance.current.overflow || decide (4294967295 < s.balance.current.jigStrip + j.buildUp))) →
          j.carriedBy = none → Taken (.stripJig n tare) 0x1A .empty s
            (saturated 3 s.balance.current.number s.balance.current.overflow spill
              { s with
                records := { s.records with jigs := s.records.jigs.map (fun x =>
                  if x.number = n then
                    { x with base := tare.getD x.base, buildUp := 0, dips := 0, overflow := false }
                  else x) }
                balance := { s.balance with current := { s.balance.current with
                  jigStrip := min (s.balance.current.jigStrip + j.buildUp) 4294967295
                  overflow := spill } } })))

/-! ## Zones and the skimmer -/

/-- R52, R54, R59: SET_ZONE_SERVICE in the order of its checks; a zone that returns to service brings a placement try.
R49, R58, R60: RELEASE_ZONES releases a span, with a placement try, or withdraws a claim, the next one tried where it
stood at the head; READ_ZONES reports the map and the queue. -/
def Obligations.ZonesAreServedReleasedAndRead : Prop :=
  (∀ (z st : Nat) (s : State), s.listening = true →
      (z = 0 ∨ 12 < z ∨ 1 < st → Refused (.setZoneService z st) 0x30 .range s) ∧
      (1 ≤ z → z ≤ 12 →
        ((∃ p ∈ s.arbiter.spans, p.first ≤ z ∧ z ≤ p.last) → Refused (.setZoneService z 1) 0x30 .state s) ∧
        ((∀ p ∈ s.arbiter.spans, ¬ (p.first ≤ z ∧ z ≤ p.last)) →
          Taken (.setZoneService z 1) 0x30 .empty s
            { s with arbiter := { s.arbiter with service := s.arbiter.service.set (z - 1) false } }) ∧
        (s.arbiter.service[z - 1]? = some true → Taken (.setZoneService z 0) 0x30 .empty s s) ∧
        (s.arbiter.service[z - 1]? = some false →
          Taken (.setZoneService z 0) 0x30 .empty s
            (endEvent (placeClaims
              { s with arbiter := { s.arbiter with service := s.arbiter.service.set (z - 1) true } }))))) ∧
  (∀ (n : Nat) (s : State), s.listening = true →
      Taken .readZones 0x33 (.zones s.arbiter.entries s.arbiter.listed s.arbiter.queue) s s ∧
      (n = 0 ∨ 4 < n → Refused (.releaseZones n) 0x32 .range s) ∧
      (1 ≤ n → n ≤ 4 →
        ((∃ p ∈ s.arbiter.spans, p.owner = .maint n) →
          Taken (.releaseZones n) 0x32 .spanReleased s
            (endEvent (placeClaims { s with arbiter := { s.arbiter with
              spans := s.arbiter.spans.filter (fun p => !decide (p.owner = .maint n)) } }))) ∧
        ((∀ p ∈ s.arbiter.spans, p.owner ≠ .maint n) →
          ((∀ c ∈ s.arbiter.queue, c.claimant ≠ .maint n) → Refused (.releaseZones n) 0x32 .notFound s) ∧
          (∀ c rest, s.arbiter.queue = c :: rest → c.claimant = .maint n →
            Taken (.releaseZones n) 0x32 .claimWithdrawn s
              (endEvent (placeClaims { s with arbiter := { s.arbiter with
                queue := rest.filter (fun c => !decide (c.claimant = .maint n)) } }))) ∧
          (∀ c rest, s.arbiter.queue = c :: rest → c.claimant ≠ .maint n → (∃ d ∈ rest, d.claimant = .maint n) →
            Taken (.releaseZones n) 0x32 .claimWithdrawn s
              (endEvent { s with arbiter := { s.arbiter with
                queue := c :: rest.filter (fun c => !decide (c.claimant = .maint n)) } })))))

/-- R51, R52, R55, R56: CLAIM_ZONES in the order of its checks; a claim behind others waits at the tail, one that joins
an empty queue is tried at once and granted exactly its zones, or waits at the head. -/
def Obligations.ClaimZonesByItsRule : Prop :=
  ∀ (n f l : Nat) (s : State), s.listening = true →
    (n = 0 ∨ 4 < n ∨ f = 0 ∨ 12 < l ∨ l < f → Refused (.claimZones n f l) 0x31 .range s) ∧
    (1 ≤ n → n ≤ 4 → 1 ≤ f → f ≤ l → l ≤ 12 →
      ((∃ p ∈ s.arbiter.spans, p.owner = .maint n) ∨ (∃ c ∈ s.arbiter.queue, c.claimant = .maint n) →
        Refused (.claimZones n f l) 0x31 .exists s) ∧
      ((∀ p ∈ s.arbiter.spans, p.owner ≠ .maint n) → (∀ c ∈ s.arbiter.queue, c.claimant ≠ .maint n) →
        (s.arbiter.queue ≠ [] →
          Taken (.claimZones n f l) 0x31 (.claimWaiting (s.arbiter.queue.length + 1)) s
            (endEvent { s with arbiter := { s.arbiter with queue := s.arbiter.queue ++
              [{ claimant := .maint n, need := .zones f l, joined := s.link.clock }] } })) ∧
        (s.arbiter.queue = [] →
          ((∀ z ∈ List.range' f (l + 1 - f), s.arbiter.service[z - 1]? = some true ∧
              ∀ p ∈ s.arbiter.spans, ¬ (p.first ≤ z ∧ z ≤ p.last)) →
            Taken (.claimZones n f l) 0x31 (.spanGranted f l) s
              (endEvent { s with arbiter := { s.arbiter with spans := s.arbiter.spans ++
                [{ owner := .maint n, first := f, last := l, granted := s.link.clock }] } })) ∧
          ((∃ z ∈ List.range' f (l + 1 - f), s.arbiter.service[z - 1]? ≠ some true ∨
              ∃ p ∈ s.arbiter.spans, p.first ≤ z ∧ z ≤ p.last) →
            Taken (.claimZones n f l) 0x31 (.claimWaiting 1) s
              (endEvent { s with arbiter := { s.arbiter with queue :=
                [{ claimant := .maint n, need := .zones f l, joined := s.link.clock }] } })))))

/-- R52, R54: first-fit placement of a hoist claim. A takes the lowest first zone, B the highest last zone, whose zones
are all in service and free with the runway condition met; with none, the claim is not placed. R52, R56: the tries of
an event examine the head alone, and go on while the head is placed. R2, R10, R56: a grant to a hoist enters the map,
the load record and the centre in one event; a hoist in AWAIT_SPAN travels in with its travel to the centre, or has
arrived there and is tried at the gate; in any other phase, as HELD, the span is recorded alone. -/
def Obligations.PlacementIsFirstFitAndStopsAtAHeadNotPlaced : Prop :=
  (∀ (a : SpanArbiter) (n : Nat), 1 ≤ n →
      let free (f l : Nat) : Prop := ∀ z, f ≤ z → z ≤ l → a.service.getD (z - 1) false = true ∧
        ∀ p ∈ a.spans, ¬ (p.first ≤ z ∧ z ≤ p.last)
      let fitsA (f : Nat) : Prop := 1 ≤ f ∧ f + n ≤ 13 ∧ free f (f + n - 1) ∧
        ∀ b, a.spanOf (.hoist .B) = some b → f + n - 1 + 2 ≤ b.first
      let fitsB (l : Nat) : Prop := n ≤ l ∧ l ≤ 12 ∧ free (l + 1 - n) l ∧
        ∀ p, a.spanOf (.hoist .A) = some p → p.last + 2 ≤ l + 1 - n
      (∀ f l, a.placeHoist .A n = some (f, l) ↔ (fitsA f ∧ l = f + n - 1 ∧ ∀ g, g < f → ¬ fitsA g)) ∧
      (∀ f l, a.placeHoist .B n = some (f, l) ↔ (fitsB l ∧ f = l + 1 - n ∧ ∀ m, l < m → ¬ fitsB m))) ∧
  (∀ s : State,
      (s.arbiter.queue = [] → placeClaims s = s) ∧
      ∀ c rest, s.arbiter.queue = c :: rest →
        (s.arbiter.place c = none → placeClaims s = s) ∧
        (∀ f l, s.arbiter.place c = some (f, l) →
          placeClaims s =
            placeClaims (grant c.claimant f l { s with arbiter := { s.arbiter with queue := rest } })) ∧
        (∀ n f l, c.claimant = .maint n → c.need = .zones f l → s.arbiter.place c = some (f, l) →
          grant (.maint n) f l { s with arbiter := { s.arbiter with queue := rest } } =
            { s with arbiter := { s.arbiter with
              queue := rest
              spans := s.arbiter.spans ++
                [{ owner := .maint n, first := f, last := l, granted := s.link.clock }] } })) ∧
  (∀ (h : Hoist) (f l id : Nat) (c : Int) (s s' : State), (s.seq h).load = some id →
      c = 2000 + (((f : Int) - 1 + l) * s.setting 1) / 24 →
      (s' = setSeq h { s.seq h with centre := some c }
        (withLoad id (fun r => { r with span := some (f, l) })
          { s with arbiter := { s.arbiter with spans := s.arbiter.spans ++
            [{ owner := .hoist h, first := f, last := l, granted := s.link.clock }] } })) →
      ((s.seq h).phase ≠ .awaitSpan → grant (.hoist h) f l s = s') ∧
      (∀ x y pc, (s.seq h).phase = .awaitSpan → (s.seq h).lift = some x → (s.seq h).pClr = some pc → pc ≤ x →
        (s.seq h).travel = some y →
        (5 < |c - y| → grant (.hoist h) f l s =
          moving h .travel c (s.setting 13) y (setSeq h { s'.seq h with phase := .travelIn } s')) ∧
        (|c - y| ≤ 5 → grant (.hoist h) f l s =
          trial h (setSeq h { s'.seq h with phase := .awaitAdmit, motion := none } s'))))

/-- R63, R65, R72: RESTORE_SKIMMER clears the out-of-service flag, or is refused STATE; an idle skimmer starts the sweep
of the head request over the span its hoist holds: a poll that waits is dropped, and the sweep is asked for between
the ends of the span; with none waiting nothing changes, and a request whose hoist holds no span is dropped. R66,
R69, R71, R72: a report at rest ends the sweep, done or as the acknowledgement of its abort; a skimmer fault puts the
skimmer out of service, with an abort for a sweep, the waiting hoists answered as missed, and SKIMMER_OUT. R14, R16,
R66, R71: a skim that ends for a hoist in AWAIT_SKIM, done or missed, withdraws its load; a hoist that waits for none
is not changed. A skimmer fault answers the swept hoist, but for a sweep whose abort was sent, and then the waiting
ones in the queue's order, also where the skimmer is idle or none waits. The model's choices in it: log entries 34,
55. -/
def Obligations.SkimmerSweepsIsRestoredAndGoesOut : Prop :=
  (∀ s : State,
      (s.listening = true →
        (s.skimmer.mode = .outOfService →
          Taken .restoreSkimmer 0x34 .empty s
            { s with skimmer := { s.skimmer with mode := .idle, sweep := none, queue := [], outFlag := false } }) ∧
        (s.skimmer.mode ≠ .outOfService → Refused .restoreSkimmer 0x34 .state s)) ∧
      (s.skimmer.mode ≠ .idle → startSweep s = s) ∧
      (∀ r rest p, s.skimmer.mode = .idle → s.skimmer.queue = r :: rest →
        s.arbiter.spans.find? (fun p => decide (p.owner = .hoist r.hoist)) = some p →
        startSweep s = sendCommand .skimmer
          (.sweep (2000 + (((p.first : Int) - 1) * s.setting 1) / 12) (2000 + ((p.last : Int) * s.setting 1) / 12))
          (setStation .skimmer { s.station .skimmer with pollDue := none }
            { s with skimmer := { s.skimmer with
                mode := .sweeping, queue := rest, pollsBegun := false,
                sweep := some { hoist := some r.hoist, span := some (p.first, p.last), start := s.link.clock,
                                abort := false } } })) ∧
      (s.skimmer.queue = [] → startSweep s = s) ∧
      (∀ r rest, s.skimmer.mode = .idle → s.skimmer.queue = r :: rest →
        s.arbiter.spans.find? (fun p => decide (p.owner = .hoist r.hoist)) = none →
        startSweep s = { s with skimmer := { s.skimmer with queue := rest } })) ∧
  (∀ (s : State),
      (s.skimmer.mode ≠ .sweeping → skimmerAtRest s = s) ∧
      (∀ w, s.skimmer.mode = .sweeping → s.skimmer.sweep = some w → w.abort = true ∨ w.hoist = none →
        skimmerAtRest s =
          startSweep { s with skimmer := { s.skimmer with mode := .idle, sweep := none, pollsBegun := false } }) ∧
      (∀ w h, s.skimmer.mode = .sweeping → s.skimmer.sweep = some w → w.abort = false → w.hoist = some h →
        (s.seq h).skim = .waiting → (s.seq h).phase ≠ .awaitSkim →
        skimmerAtRest s =
          startSweep (setSeq h { s.seq h with skim := .done s.link.clock }
            { s with skimmer := { s.skimmer with mode := .idle, sweep := none, pollsBegun := false } })) ∧
      (∀ code, s.skimmer.mode = .outOfService → skimmerFault code s = s) ∧
      (∀ code w, s.skimmer.mode = .sweeping → s.skimmer.sweep = some w → w.abort = true → s.skimmer.queue = [] →
        skimmerFault code s =
          raise .skimmerOut w.hoist none (some (code : Int)) none
            { sendCommand .skimmer .abort s with
              skimmer := { mode := .outOfService, sweep := none, queue := [], outFlag := true, pollsBegun := false } }) ∧
      (∀ code w h, s.skimmer.mode = .sweeping → s.skimmer.sweep = some w → w.abort = false → w.hoist = some h →
        s.skimmer.queue = [] → (s.seq h).skim = .waiting → (s.seq h).phase ≠ .awaitSkim →
        skimmerFault code s =
          raise .skimmerOut (some h) none (some (code : Int)) none (markMissed h
            { sendCommand .skimmer .abort s with
              skimmer := { mode := .outOfService, sweep := none, queue := [], outFlag := true, pollsBegun := false } })) ∧
      (∀ code r, s.skimmer.mode = .idle → s.skimmer.sweep = none → s.skimmer.queue = [r] →
        (s.seq r.hoist).skim = .waiting → (s.seq r.hoist).phase ≠ .awaitSkim →
        skimmerFault code s =
          raise .skimmerOut none none (some (code : Int)) none (markMissed r.hoist
            { s with
              skimmer := { mode := .outOfService, sweep := none, queue := [], outFlag := true, pollsBegun := false } }))) ∧
  (∀ (s s₀ : State),
      (s₀ = { s with skimmer := { s.skimmer with mode := .idle, sweep := none, pollsBegun := false } }) →
      (∀ w h, s.skimmer.mode = .sweeping → s.skimmer.sweep = some w → w.abort = false → w.hoist = some h →
        ((s.seq h).skim = .waiting → (s.seq h).phase = .awaitSkim →
          skimmerAtRest s =
            startSweep (startWithdraw h (setSeq h { s.seq h with skim := .done s.link.clock } s₀))) ∧
        ((s.seq h).skim ≠ .waiting → skimmerAtRest s = startSweep s₀)) ∧
      (∀ (code : Nat) (s₁ : State) (swept : List Hoist), s.skimmer.mode ≠ .outOfService →
        (s₁ = { (if s.skimmer.mode = .sweeping then sendCommand .skimmer .abort s else s) with
          skimmer := { mode := .outOfService, sweep := none, queue := [], outFlag := true, pollsBegun := false } }) →
        (swept = match s.skimmer.sweep with
          | some w => if w.abort = true then [] else w.hoist.toList
          | none => []) →
        skimmerFault code s =
          raise .skimmerOut (s.skimmer.sweep.bind Sweep.hoist) none (some (code : Int)) none
            ((swept ++ s.skimmer.queue.map SkimRequest.hoist).foldl (fun u h =>
              if (u.seq h).skim = .waiting then
                (if (u.seq h).phase = .awaitSkim then startWithdraw h (markMissed h u) else markMissed h u)
              else u) s₁)) ∧
      (∀ code, s.skimmer.mode = .idle → s.skimmer.sweep = none → s.skimmer.queue = [] →
        skimmerFault code s =
          raise .skimmerOut none none (some (code : Int)) none
            { s with
              skimmer := { mode := .outOfService, sweep := none, queue := [], outFlag := true, pollsBegun := false } }))

/-! ## The hoists' requests -/

/-- R6, R24, R25, R26, R27: the requests that name a hoist, refused by the hoist's byte and phase alone. R31, R160:
ENABLE_HOIST and DISABLE_HOIST. -/
def Obligations.HoistRequestsByPhase : Prop :=
  (∀ (s : State), s.listening = true →
      (∀ n load d, 1 < n → d ≠ 0 → -500 ≤ d → d ≤ 500 →
        ∀ c ∈ [(Instr.present n load, 0x20), (.hold n, 0x21), (.resume n, 0x22), (.jog n d, 0x23), (.cancel n, 0x24),
            (.acceptUnweighed n, 0x25), (.finishUnweighed n, 0x26), (.enableHoist n, 0x27), (.disableHoist n, 0x28)],
          Refused c.1 c.2 .range s) ∧
      ∀ h load d, 1 ≤ load → load ≤ 65535 → d ≠ 0 → -500 ≤ d → d ≤ 500 →
        ((s.seq h).phase = .disabled →
          ∀ c ∈ [(Instr.present h.byte load, 0x20), (.hold h.byte, 0x21), (.resume h.byte, 0x22), (.jog h.byte d, 0x23),
              (.cancel h.byte, 0x24), (.acceptUnweighed h.byte, 0x25), (.finishUnweighed h.byte, 0x26)],
            Refused c.1 c.2 .disabled s) ∧
        ((s.seq h).phase = .recover →
          ∀ c ∈ [(Instr.present h.byte load, 0x20), (.hold h.byte, 0x21), (.resume h.byte, 0x22), (.jog h.byte d, 0x23),
              (.cancel h.byte, 0x24), (.acceptUnweighed h.byte, 0x25), (.finishUnweighed h.byte, 0x26),
              (.enableHoist h.byte, 0x27), (.disableHoist h.byte, 0x28)],
            Refused c.1 c.2 .busy s) ∧
        ((s.seq h).phase = .jogging →
          Refused (.present h.byte load) 0x20 .busy s ∧ Refused (.resume h.byte) 0x22 .busy s ∧
          Refused (.jog h.byte d) 0x23 .busy s ∧ Refused (.finishUnweighed h.byte) 0x26 .busy s ∧
          Refused (.cancel h.byte) 0x24 .state s ∧ Refused (.acceptUnweighed h.byte) 0x25 .state s ∧
          Refused (.enableHoist h.byte) 0x27 .state s ∧ Refused (.disableHoist h.byte) 0x28 .state s) ∧
        ((s.seq h).phase = .idle ∨ (s.seq h).phase = .raising ∨ (s.seq h).phase ∈ Phase.dipCycle →
          Refused (.resume h.byte) 0x22 .state s ∧ Refused (.jog h.byte d) 0x23 .state s ∧
          Refused (.finishUnweighed h.byte) 0x26 .state s) ∧
        ((s.seq h).phase = .idle ∨ (s.seq h).phase = .raising → Refused (.hold h.byte) 0x21 .state s) ∧
        ((s.seq h).phase ∈ [Phase.entry, .immerse, .awaitSkim, .withdraw, .drain, .weighOut, .travelOut, .held,
            .raising, .idle] → Refused (.cancel h.byte) 0x24 .state s) ∧
        ((s.seq h).phase ∈ Phase.dipCycle ++ [.held, .raising] →
          Refused (.present h.byte load) 0x20 .busy s ∧
          Refused (.enableHoist h.byte) 0x27 .state s ∧ Refused (.disableHoist h.byte) 0x28 .state s) ∧
        ((s.seq h).phase ∈ Phase.dipCycle ++ [.held, .raising, .idle] → (s.seq h).phase ≠ .weighIn →
          Refused (.acceptUnweighed h.byte) 0x25 .state s)) ∧
  (∀ (h : Hoist) (s : State), s.listening = true →
      ((s.seq h).phase = .disabled →
        Taken (.enableHoist h.byte) 0x27 .empty s
          (endEvent (pollFallsDue (driveOf h) (setSeq h { s.seq h with phase := .idle, enabled := true } s))) ∧
        Taken (.disableHoist h.byte) 0x28 .empty s s) ∧
      ((s.seq h).phase = .idle →
        Taken (.enableHoist h.byte) 0x27 .empty s s ∧
        Taken (.disableHoist h.byte) 0x28 .empty s
          (endEvent (setSeq h
            { s.seq h with phase := .disabled, enabled := false, lift := none, travel := none } s))))

/-- R1, R7, R95, R118, R123, R160: PRESENT of a registered load on an idle hoist whose lift stands clear: the load is
IN_CYCLE, its jig carried, the two lift positions computed, and a weigh-in started with its settings latched. R7:
PRESENT of a load id out of range, of one without a record, of a load whose order or jig has no record, and with the
lift's position unknown. -/
def Obligations.PresentStartsTheDip : Prop :=
  (∀ (h : Hoist) (id : Nat) (s : State) (r : LoadRec) (o : OrderRec) (j : JigRec) (x : Int),
      s.listening = true → 1 ≤ id → id ≤ 65535 → (s.seq h).phase = .idle →
      s.records.loads.find? (fun r => r.id == id) = some r →
      s.records.orders.find? (fun o => o.number == r.order) = some o →
      s.records.jigs.find? (fun j => j.number == r.jig) = some j →
      (s.seq h).lift = some x →
      (r.state ≠ .registered ∨ o.isOpen = false ∨ j.carriedBy ≠ none ∨ x < s.setting 3 + s.setting 10 + r.hang →
        Refused (.present h.byte id) 0x20 .state s) ∧
      (r.state = .registered → o.isOpen = true → j.carriedBy = none → s.setting 3 + s.setting 10 + r.hang ≤ x →
        Taken (.present h.byte id) 0x20 .empty s
          (endEvent (pollFallsDue (scaleOf h)
            (setEng h
              { s.eng h with
                weigh := some { kind := .weighIn, size := (s.setting 25).toNat, band := s.setting 26,
                                timeout := (s.setting 27).toNat, elapsed := 0, passed := false, window := [],
                                best := none, completed := 0, bad := 0 } }
              (setSeq h
                { s.seq h with
                  phase := .weighIn, load := some id, pImm := some (s.setting 9 + r.hang),
                  pClr := some (s.setting 3 + s.setting 10 + r.hang), skim := .none, overdipRaised := false, causes := [] }
                { s with records := { s.records with
                  loads := s.records.loads.map (fun l =>
                    if l.id = id then { l with state := .inCycle, hoist := some h } else l)
                  jigs := s.records.jigs.map (fun y =>
                    if y.number = r.jig then { y with carriedBy := some id } else y) } })))))) ∧
  (∀ (h : Hoist) (id : Nat) (s : State), s.listening = true →
      (id = 0 ∨ 65535 < id → Refused (.present h.byte id) 0x20 .range s) ∧
      (1 ≤ id → id ≤ 65535 → (s.seq h).phase = .idle →
        ((∀ r ∈ s.records.loads, r.id ≠ id) → Refused (.present h.byte id) 0x20 .notFound s) ∧
        ∀ r, s.records.loads.find? (fun r => r.id == id) = some r →
          ((s.seq h).lift = none → Refused (.present h.byte id) 0x20 .state s) ∧
          ((∀ o ∈ s.records.orders, o.number ≠ r.order) → Refused (.present h.byte id) 0x20 .state s) ∧
          ((∀ j ∈ s.records.jigs, j.number ≠ r.jig) → Refused (.present h.byte id) 0x20 .state s)))

/-- R6, R22, R28, R106: HOLD and a press of the hold button make a hoist of the dip cycle, or one that is jogging, HELD:
a motion in flight is stopped, the vibrator goes off, a weigh ends without a weight. A press also starts the timer; a
hoist already HELD keeps its phase; elsewhere HOLD is refused by the phase, and a press is ignored but for the level
of the button. The model's choices in it: log entry 28. -/
def Obligations.HoldAndPressStopTheHoist : Prop :=
  ∀ (h : Hoist) (s s₁ : State) (q : Sequencer), q = s.seq h →
    (s₁ = if q.motion.isSome then sendCommand (driveOf h) .stop s else s) →
    (q.phase ∈ Phase.dipCycle ++ [.jogging] →
      (s.listening = true →
        Taken (.hold h.byte) 0x21 .empty s
          (endEvent (setSeq h
            { q with phase := .held, heldPhase := if q.phase = .jogging then q.heldPhase else some q.phase,
                     motion := none, vibratorOn := false }
            (setEng h { s.eng h with weigh := none } s₁)))) ∧
      (s.active = true →
        exec (.holdButtonPress h) s = .next
          (endEvent (setSeq h
            { q with phase := .held, heldPhase := if q.phase = .jogging then q.heldPhase else some q.phase,
                     motion := none, vibratorOn := false, pressed := true, holdTimer := some 0 }
            (setEng h { s.eng h with weigh := none } s₁))))) ∧
    (q.phase = .held →
      (s.listening = true → Taken (.hold h.byte) 0x21 .empty s s) ∧
      (s.active = true →
        exec (.holdButtonPress h) s = .next (endEvent (setSeq h { q with pressed := true, holdTimer := some 0 } s)))) ∧
    (s.listening = true →
      (q.phase = .idle ∨ q.phase = .raising → Refused (.hold h.byte) 0x21 .state s) ∧
      (q.phase = .disabled → Refused (.hold h.byte) 0x21 .disabled s) ∧
      (q.phase = .recover → Refused (.hold h.byte) 0x21 .busy s)) ∧
    (q.phase ∈ [Phase.idle, .disabled, .recover, .raising] → s.active = true →
      exec (.holdButtonPress h) s = .next (endEvent (setSeq h { q with pressed := true } s)))

/-- R4, R5: a motion within 5 mm of its target has arrived with no command; any other is asked of the drive and recorded,
and its overdue limit is the ceiling of three halves of the distance over the speed, plus 10 s. -/
def Obligations.MotionIsIssuedWithItsOverdueLimit : Prop :=
  (∀ (h : Hoist) (axis : Axis) (target speed pos : Int) (s : State), (s.seq h).position axis = some pos →
    (|target - pos| ≤ 5 →
      issueMotion h axis target speed s = (setSeq h { s.seq h with motion := none } s, true)) ∧
    (5 < |target - pos| → issueMotion h axis target speed s = (moving h axis target speed pos s, false))) ∧
  (∀ d speed : Int, 0 ≤ d → 0 < speed →
    10 ≤ overdueLimit d speed ∧
    d * 3 ≤ 2 * speed * ((overdueLimit d speed : Int) - 10) ∧
    ∀ n : Int, d * 3 ≤ 2 * speed * n → (overdueLimit d speed : Int) - 10 ≤ n) ∧
  overdueLimit 5500 300 = 38 ∧ overdueLimit 3000 80 = 67

/-- R13, R15, R18, R20, R21, R24, R29: RESUME takes up the work of the held phase again, toward the same target. R2, R4,
R10, R13, R14, R18, R19, R21, R24, R29: RESUME where the hoist stands within 5 mm of the target: no motion is issued
and the phase has arrived at once. TRAVEL_IN is tried at the gate; ENTRY enters IMMERSE with the countdown; WITHDRAW
enters DRAIN, or sends a load never admitted to its station, the travel kept back in TRAVEL_OUT while the lift is
below p_clr (the model's deduction from R2, log entry 10); TRAVEL_OUT ends the dip and releases the span; RAISING is
HELD in DRAIN. R24, R25: RESUME and JOG of a HELD hoist whose position is unknown are refused STATE, a JOG of no
distance or one beyond 500 mm RANGE; the target of a jog is clamped, at p_imm for an admitted load with its span,
else at p_clr, and at 500 mm above p_clr; within 5 mm no motion follows. R13, R15, R16, R19, R20, R21, R24: RESUME
into DRAIN goes on with the countdowns where they stood, first back to p_clr; into WEIGH_OUT it goes first back to
p_clr; into AWAIT_SKIM, and into IMMERSE with the countdown at 0, the end-of-immersion decision is made, and a hoist
that goes on waiting goes first back to p_imm. The model's choices in it: log entries 10, 12, 19, 22, 27, 43. -/
def Obligations.ResumeAndJogOfAHeldHoist : Prop :=
  (∀ (h : Hoist) (p : Phase) (s s' : State) (x y : Int) (q : Sequencer), q = s.seq h →
      s.listening = true → q.phase = .held → q.heldPhase = some p → q.lift = some x → q.travel = some y →
      s' = setSeq h { q with phase := p, heldPhase := none, holdTimer := none } s →
      (p = .weighIn → Taken (.resume h.byte) 0x22 .empty s (endEvent (startWeigh h .weighIn s'))) ∧
      (p = .awaitSpan → s.arbiter.spanOf (.hoist h) = none → Taken (.resume h.byte) 0x22 .empty s (endEvent s')) ∧
      (∀ c pc, (p = .travelIn ∨ (p = .awaitSpan ∧ (s.arbiter.spanOf (.hoist h)).isSome = true)) → q.centre = some c →
        q.pClr = some pc → pc ≤ x → 5 < |c - y| →
        Taken (.resume h.byte) 0x22 .empty s
          (endEvent (moving h .travel c (s.setting 13) y (setSeq h { s'.seq h with phase := .travelIn } s)))) ∧
      (p = .awaitAdmit → Taken (.resume h.byte) 0x22 .empty s (endEvent (trial h s'))) ∧
      (∀ t, p = .entry → q.pImm = some t → 5 < |t - x| →
        Taken (.resume h.byte) 0x22 .empty s (endEvent (moving h .lift t (s.entrySpeed h) x s'))) ∧
      (∀ n t, p = .immerse → q.countdown = some (n + 1) → q.pImm = some t →
        (|t - x| ≤ 5 → Taken (.resume h.byte) 0x22 .empty s (endEvent s')) ∧
        (5 < |t - x| → Taken (.resume h.byte) 0x22 .empty s (endEvent (moving h .lift t (s.entrySpeed h) x s')))) ∧
      (∀ t, p = .withdraw → q.pClr = some t → 5 < |t - x| →
        Taken (.resume h.byte) 0x22 .empty s
          (endEvent (moving h .lift t (s.withdrawSpeed h) x
            (modCarried h (fun r => { r with withdrawTime := some (r.withdrawTime.getD s.link.clock) }) s')))) ∧
      (∀ t, p = .weighOut → q.pClr = some t → |t - x| ≤ 5 →
        Taken (.resume h.byte) 0x22 .empty s (endEvent (enterWeighOut h s'))) ∧
      (∀ pc, p = .travelOut → q.pClr = some pc → pc ≤ x → 5 < |s.stationPosition h - y| →
        Taken (.resume h.byte) 0x22 .empty s
          (endEvent (moving h .travel (s.stationPosition h) (s.setting 13) y s'))) ∧
      (∀ t, p = .raising → q.pClr = some t → 5 < |t - x| →
        Taken (.resume h.byte) 0x22 .empty s (endEvent (moving h .lift t (s.setting 14) x s')))) ∧
  (∀ (h : Hoist) (p : Phase) (s s' : State) (x y pc : Int) (id : Nat) (q : Sequencer), q = s.seq h →
      s.listening = true → q.phase = .held → q.heldPhase = some p → q.lift = some x → q.travel = some y →
      q.pClr = some pc → q.load = some id →
      s' = setSeq h { q with phase := p, heldPhase := none, holdTimer := none } s →
      (∀ c, p = .travelIn ∨ (p = .awaitSpan ∧ (s.arbiter.spanOf (.hoist h)).isSome = true) → q.centre = some c →
        pc ≤ x → |c - y| ≤ 5 → Taken (.resume h.byte) 0x22 .empty s
          (endEvent (trial h (setSeq h { s'.seq h with phase := .awaitAdmit, motion := none } s)))) ∧
      (∀ l t, p = .entry → q.pImm = some t → |t - x| ≤ 5 → s.latched h = some l →
        Taken (.resume h.byte) 0x22 .empty s (endEvent (sendSkimAtLead h
          (setSeq h { s'.seq h with phase := .immerse, motion := none, countdown := some l.tImm } s)))) ∧
      (∀ u, p = .withdraw → |pc - x| ≤ 5 →
        (u = withLoad id (fun r => { r with withdrawTime := some (r.withdrawTime.getD s.link.clock) }) s) →
        (∀ (l : Latched) (w : State), s.latched h = some l →
          (w = setSeq h { s'.seq h with phase := .drain, motion := none, vibrate := some l.vibrate, drain := some l.drain } u) →
          (0 < l.vibrate ∨ 0 < l.drain → Taken (.resume h.byte) 0x22 .empty s
            (endEvent (setSeq h { w.seq h with vibratorOn := decide (0 < l.vibrate) } w))) ∧
          (l.vibrate = 0 → l.drain = 0 → Taken (.resume h.byte) 0x22 .empty s (endEvent (enterWeighOut h w)))) ∧
        (s.latched h = none → pc ≤ x → 5 < |s.stationPosition h - y| → Taken (.resume h.byte) 0x22 .empty s
          (endEvent (moving h .travel (s.stationPosition h) (s.setting 13) y
            (setSeq h { s'.seq h with phase := .travelOut, motion := none } u)))) ∧
        (s.latched h = none → x < pc → Taken (.resume h.byte) 0x22 .empty s
          (endEvent (setSeq h { s'.seq h with phase := .travelOut, motion := none } u)))) ∧
      (p = .travelOut → pc ≤ x → |s.stationPosition h - y| ≤ 5 → Taken (.resume h.byte) 0x22 .empty s
        (endEvent (placeClaims (setSeq h (Sequencer.cleared q)
          { s with
            arbiter := { s.arbiter with spans := s.arbiter.spans.filter (fun p => !decide (p.owner = .hoist h)) }
            records := { s.records with
              loads := s.records.loads.map (fun l =>
                if l.id = id ∧ l.latched = none then
                  { l with state := .registered, hoist := none, span := none, wIn := none,
                           flags := { l.flags with unweighedIn := false } }
                else if l.id = id then { l with state := .complete, hoist := none, span := none }
                else l)
              jigs := s.records.jigs.map (fun j =>
                if j.carriedBy = some id then { j with carriedBy := none } else j) } })))) ∧
      (p = .raising → |pc - x| ≤ 5 → Taken (.resume h.byte) 0x22 .empty s
        (endEvent (setSeq h { s'.seq h with phase := .held, heldPhase := some .drain, motion := none } s)))) ∧
  (∀ (h : Hoist) (s : State) (q : Sequencer), q = s.seq h → s.listening = true →
      (∀ n d, d = 0 ∨ d < -500 ∨ 500 < d → n ≤ 1 → Refused (.jog n d) 0x23 .range s) ∧
      (q.phase = .held → q.lift = none ∨ q.travel = none → Refused (.resume h.byte) 0x22 .state s) ∧
      (∀ d, q.phase = .held → q.lift = none → d ≠ 0 → -500 ≤ d → d ≤ 500 →
        Refused (.jog h.byte d) 0x23 .state s) ∧
      (∀ d x c lo t : Int, q.phase = .held → q.lift = some x → q.pClr = some c → d ≠ 0 → -500 ≤ d → d ≤ 500 →
        ((s.admitted h = true ∧ (s.arbiter.spanOf (.hoist h)).isSome = true ∧ q.pImm = some lo) ∨
          ((s.admitted h = false ∨ s.arbiter.spanOf (.hoist h) = none) ∧ lo = c)) →
        (t = if x + d < lo then lo else if c + 500 < x + d then c + 500 else x + d) →
          (|t - x| ≤ 5 → Taken (.jog h.byte d) 0x23 .empty s (endEvent (setSeq h { q with holdTimer := none } s))) ∧
          (5 < |t - x| → Taken (.jog h.byte d) 0x23 .empty s
            (endEvent (moving h .lift t (s.setting 15) x (setSeq h { q with holdTimer := none, phase := .jogging } s)))))) ∧
  (∀ (h : Hoist) (p : Phase) (s s' : State) (x y pc pi : Int) (q : Sequencer), q = s.seq h →
      s.listening = true → q.phase = .held → q.heldPhase = some p → q.lift = some x → q.travel = some y →
      q.pClr = some pc → q.pImm = some pi →
      s' = setSeq h { q with phase := p, heldPhase := none, holdTimer := none } s →
      (∀ (l : Latched) (v d : Nat) (u : State), p = .drain → s.latched h = some l →
        v = q.vibrate.getD l.vibrate → d = q.drain.getD l.drain →
        (u = setSeq h { s'.seq h with vibrate := some v, drain := some d } s) →
        (|pc - x| ≤ 5 → 0 < v ∨ 0 < d → Taken (.resume h.byte) 0x22 .empty s
          (endEvent (setSeq h { u.seq h with motion := none, vibratorOn := decide (0 < v) } s))) ∧
        (|pc - x| ≤ 5 → v = 0 → d = 0 → Taken (.resume h.byte) 0x22 .empty s (endEvent (enterWeighOut h u))) ∧
        (5 < |pc - x| → Taken (.resume h.byte) 0x22 .empty s
          (endEvent (moving h .lift pc (l.withdrawSpeed : Int) x u)))) ∧
      (p = .drain → s.latched h = none → pc ≤ x → 5 < |s.stationPosition h - y| →
        Taken (.resume h.byte) 0x22 .empty s
          (endEvent (moving h .travel (s.stationPosition h) (s.setting 13) y
            (setSeq h { s'.seq h with phase := .travelOut } s)))) ∧
      (p = .weighOut → 5 < |pc - x| →
        Taken (.resume h.byte) 0x22 .empty s (endEvent (moving h .lift pc (s.withdrawSpeed h) x s'))) ∧
      (∀ u : State, 5 < |pc - x| →
        (p = .awaitSkim ∧ u = s') ∨
        (p = .immerse ∧ q.countdown = some 0 ∧
          u = setSeq h { s'.seq h with
            overdip := some (q.overdip.getD 0)
            skimWait := if q.overdip = none ∧ q.skim = .waiting then some 0 else q.skimWait } s) →
        (q.skim = .missed ∨
            (∃ t, q.skim = .done t ∧ t ≤ s.link.clock ∧ s.link.clock < 4294967296 ∧ s.link.clock ≤ t + 60) →
          Taken (.resume h.byte) 0x22 .empty s (endEvent (startWithdraw h u))) ∧
        (∀ n, q.skim = .waiting → n = (u.seq h).skimWait.getD 0 → n < s.skimWaitLimit →
          (|pi - x| ≤ 5 → Taken (.resume h.byte) 0x22 .empty s
            (endEvent (setSeq h { u.seq h with phase := .awaitSkim, skimWait := some n } s))) ∧
          (5 < |pi - x| → Taken (.resume h.byte) 0x22 .empty s
            (endEvent (moving h .lift pi (s.entrySpeed h) x
              (setSeq h { u.seq h with phase := .awaitSkim, skimWait := some n } s))))) ∧
        (∀ n, q.skim = .waiting → n = (u.seq h).skimWait.getD 0 → s.skimWaitLimit ≤ n →
          Taken (.resume h.byte) 0x22 .empty s
            (endEvent (startWithdraw h (withdrawSkim h (markMissed h
              (setSeq h { u.seq h with phase := .awaitSkim, skimWait := some n } s)))))) ∧
        (q.skim = .none → |pi - x| ≤ 5 →
          Taken (.resume h.byte) 0x22 .empty s (endEvent (askSkimAgain h (q.skimWait.getD 0) u))) ∧
        (∀ (wait : Nat) (v : State),
          (q.skim = .none ∧ wait = q.skimWait.getD 0) ∨
            (∃ t, q.skim = .done t ∧ t + 60 < s.link.clock ∧ s.link.clock < 4294967296 ∧ wait = 0) →
          v = askSkimAgain h wait u →
          (|pi - x| ≤ 5 ∨ (v.seq h).phase = .withdraw → Taken (.resume h.byte) 0x22 .empty s (endEvent v)) ∧
          (5 < |pi - x| → (v.seq h).phase = .awaitSkim →
            Taken (.resume h.byte) 0x22 .empty s (endEvent (moving h .lift pi (s.entrySpeed h) x v))))))

/-- R21, R27, R50, R118, R123: CANCEL before the grant ends the dip at once, with the claim withdrawn and a try for the
claim behind it; after the grant it sends the hoist back to its station. R8, R9, R50: ACCEPT_UNWEIGHED ends the
weigh-in without a weight, sets UNWEIGHED_IN, and the hoist's claim for the load's length joins the queue, tried at
once where the queue was empty. -/
def Obligations.CancelAndAcceptUnweighedEndTheWeighIn : Prop :=
  (∀ (h : Hoist) (id : Nat) (s s' : State) (r : LoadRec) (q : Sequencer), q = s.seq h → s.listening = true →
      q.load = some id → s.records.loads.find? (fun r => r.id == id) = some r →
      (s' = setSeq h
        { q with phase := .idle, heldPhase := none, load := none, pImm := none, pClr := none, centre := none,
                 motion := none, countdown := none, skim := .none, skimWait := none, overdip := none,
                 overdipRaised := false, vibrate := none, drain := none, vibratorOn := false, holdTimer := none,
                 recoverWait := none }
        (setEng h { s.eng h with weigh := none }
          { s with
            arbiter := { s.arbiter with queue := s.arbiter.queue.filter (fun c => !decide (c.claimant = .hoist h)) }
            records := { s.records with
              loads := s.records.loads.map (fun l =>
                if l.id = id ∧ l.latched = none then
                  { l with state := .registered, hoist := none, span := none, wIn := none,
                           flags := { l.flags with unweighedIn := false } }
                else if l.id = id then { l with state := .complete, hoist := none, span := none }
                else l)
              jigs := s.records.jigs.map (fun j => if j.carriedBy = some id then { j with carriedBy := none } else j) } })) →
      (q.phase = .weighIn ∨ q.phase = .awaitSpan →
        (s.arbiter.queue.head?.map Claim.claimant ≠ some (.hoist h) →
          Taken (.cancel h.byte) 0x24 .empty s (endEvent s')) ∧
        (s.arbiter.queue.head?.map Claim.claimant = some (.hoist h) →
          Taken (.cancel h.byte) 0x24 .empty s (endEvent (placeClaims s')))) ∧
      (∀ x y pc, q.phase = .travelIn ∨ q.phase = .awaitAdmit → q.lift = some x → q.travel = some y →
        q.pClr = some pc → pc ≤ x → 5 < |s.stationPosition h - y| →
        Taken (.cancel h.byte) 0x24 .empty s
          (endEvent (moving h .travel (s.stationPosition h) (s.setting 13) y (setSeq h { q with phase := .travelOut } s))))) ∧
  (∀ (h : Hoist) (id : Nat) (s s' : State) (r : LoadRec), s.listening = true →
      (s.seq h).phase = .weighIn → (s.seq h).load = some id →
      s.records.loads.find? (fun r => r.id == id) = some r →
      (s' = setSeq h { s.seq h with phase := .awaitSpan }
        (setEng h { s.eng h with weigh := none }
          (withLoad id (fun l => { l with flags := { l.flags with unweighedIn := true } })
            { s with arbiter := { s.arbiter with queue := s.arbiter.queue ++
              [{ claimant := .hoist h, need := .length r.zones, joined := s.link.clock }] } }))) →
      (s.arbiter.queue ≠ [] → Taken (.acceptUnweighed h.byte) 0x25 .empty s (endEvent s')) ∧
      (s.arbiter.queue = [] → Taken (.acceptUnweighed h.byte) 0x25 .empty s (endEvent (placeClaims s'))))

/-- R26, R20, R21, R85, R130: FINISH_UNWEIGHED of an admitted load: W_out stays absent with UNWEIGHED_OUT set (a load
already posted keeps its record), the rest of the drain is abandoned, the load is posted and the hoist travels out;
one that stands within 5 mm of its station ends the dip at once. A load never admitted is not posted. HELD with
another held phase, or with the lift below p_clr or unknown, the request is refused STATE. The model's choices in it:
log entries 11, 20, 29, 43. -/
def Obligations.FinishUnweighedPostsAndTravelsOut : Prop :=
  ∀ (h : Hoist) (s : State) (q : Sequencer), q = s.seq h → s.listening = true → q.phase = .held →
    ((q.heldPhase ≠ some .drain ∧ q.heldPhase ≠ some .weighOut) ∨ q.lift = none ∨
        (∃ x pc, q.lift = some x ∧ q.pClr = some pc ∧ x < pc) →
      Refused (.finishUnweighed h.byte) 0x26 .state s) ∧
    ∀ (id : Nat) (u : State) (r : LoadRec) (x y pc : Int), q.heldPhase = some .drain ∨ q.heldPhase = some .weighOut →
      q.lift = some x → q.pClr = some pc → pc ≤ x → q.travel = some y → q.load = some id →
      s.records.loads.find? (fun r => r.id == id) = some r →
      (u = setSeq h { q with heldPhase := none, holdTimer := none, vibrate := none, drain := none }
        (withLoad id (fun l => if l.postingTime.isSome then l
          else { l with wOut := none, flags := { l.flags with unweighedOut := true } }) s)) →
      (r.latched ≠ none →
        (5 < |s.stationPosition h - y| →
          Taken (.finishUnweighed h.byte) 0x26 .empty s (endEvent (withTrials s (postedAndAway h y u)))) ∧
        (|s.stationPosition h - y| ≤ 5 →
          Taken (.finishUnweighed h.byte) 0x26 .empty s (endEvent (withTrials s (dipEnded h id (postedWithNotice h u)))))) ∧
      (r.latched = none →
        (5 < |s.stationPosition h - y| →
          Taken (.finishUnweighed h.byte) 0x26 .empty s (endEvent
            (moving h .travel (s.stationPosition h) (s.setting 13) y (setSeq h { u.seq h with phase := .travelOut } u)))) ∧
        (|s.stationPosition h - y| ≤ 5 →
          Taken (.finishUnweighed h.byte) 0x26 .empty s (endEvent (dipEnded h id u))))

/-! ## The hoists' timing -/

/-- R17, R28, R29, R68: a release stops the timer; at the 4 s mark a load in the bath is raised, with its skim request
withdrawn, the countdown discarded, the overdip count compared with its limit and written, NONCONFORMING set and
EMERGENCY_RAISE raised, and the claim of one held in AWAIT_SPAN withdrawn (R49); a load that is clear, or whose
position is unknown, stays HELD. R5, R22, R167, R168: a motion whose limit has passed is reported to Fault Capture,
and the hoist is stopped and HELD. R5, R171: the overdue of a motion that a drive fault has ended in the same second
is still reported to Fault Capture, which sets the multiple flag where the fault was taken first, and the hoist stays
HELD; with no motion overdue nothing is reported. The model's choices in it: log entries 5, 21, 40, 42, 44, 53. -/
def Obligations.HoldTimerAndOverdueMotions : Prop :=
  (∀ (h : Hoist) (s : State) (q : Sequencer), q = s.seq h → s.active = true →
      exec (.holdButtonRelease h) s = .next (endEvent (setSeq h { q with pressed := false, holdTimer := none } s)) ∧
      (q.pressed = false ∨ q.phase ≠ .held ∨ (∀ n, q.holdTimer = some n → n < 4) →
        exec (.holdButton4sMark h) s = .next (endEvent s)) ∧
      ∀ n, q.pressed = true → q.phase = .held → q.holdTimer = some n → 4 ≤ n →
        (q.lift = none ∨ (∃ x c, q.lift = some x ∧ q.pClr = some c ∧ c ≤ x) →
          exec (.holdButton4sMark h) s = .next (endEvent (setSeq h { q with holdTimer := none } s))) ∧
        ∀ (x c : Int) (id : Nat) (s₁ s₂ : State) (q₂ : Sequencer) (leave : State → State),
          (leave = fun u =>
            let u' := { u with arbiter := { u.arbiter with
              queue := u.arbiter.queue.filter (fun c => !decide (c.claimant = .hoist h)) } }
            if u.arbiter.queue.head?.map Claim.claimant = some (.hoist h) then placeClaims u' else u') →
          q.lift = some x → q.pClr = some c → x < c → q.load = some id →
          (s₁ = if q.skim = .waiting then withdrawSkim h s else s) →
          (s₂ = raise .emergencyRaise (some h) (some id) (some x) none
            (withLoad id (fun l => { l with
              overdipSeconds := q.overdip.or l.overdipSeconds,
              flags := { l.flags with nonconforming := true } }) (overdipCompared h id s₁))) →
          (q₂ = { q with phase := .raising, heldPhase := none, countdown := none, holdTimer := none, overdip := none,
                         overdipRaised := ((overdipCompared h id s).seq h).overdipRaised,
                         skim := if q.skim = .waiting then .missed else q.skim }) →
          (5 < c - x → exec (.holdButton4sMark h) s =
            .next (endEvent (leave (moving h .lift c (s.setting 14) x (setSeq h q₂ s₂))))) ∧
          (c - x ≤ 5 → exec (.holdButton4sMark h) s =
            .next (endEvent (leave (setSeq h { q₂ with phase := .held, heldPhase := some .drain, motion := none } s₂))))) ∧
  (∀ (h : Hoist) (m : Motion) (s : State) (q : Sequencer), q = s.seq h → s.active = true → q.motion = some m →
      (m.elapsed < m.limit → exec (.motionOverdue h) s = .next (endEvent s)) ∧
      (m.limit ≤ m.elapsed → q.phase ∈ Phase.dipCycle ++ [.raising, .jogging] →
        exec (.motionOverdue h) s = .next
          (endEvent (setSeq h
            { q with phase := .held, heldPhase := if q.phase = .jogging then q.heldPhase else some q.phase,
                     motion := none, vibratorOn := false }
            (setEng h { s.eng h with weigh := none }
              (sendCommand (driveOf h) .stop
                (capture
                  { cause := .motionOverdue, trans := none, hoist := some h, load := q.load, phase := some q.phase,
                    data := q.position m.axis
                    time := s.link.clock } s))))))) ∧
  (∀ (h : Hoist) (s : State) (q : Sequencer), q = s.seq h → s.active = true → q.motion = none →
      (∀ axis, q.phase = .held → q.lateAxis = some axis →
        exec (.motionOverdue h) s = .next (endEvent
          (capture
            { cause := .motionOverdue, trans := none, hoist := some h, load := q.load, phase := some .held,
              data := q.position axis, time := s.link.clock }
            (setSeq h { q with lateAxis := none } s)))) ∧
      (q.phase ≠ .held ∨ q.lateAxis = none → exec (.motionOverdue h) s = .next (endEvent s)))

/-- R14, R64, R72: a countdown at the lead sends a skim request, due when it will reach 0; with the skimmer out of
service the skim is missed at once, with the flag and one notice; else the request joins the queue by due time. R14,
R64, R65, R72: what the lead brings, in the event SKIM_LEAD_REACHED and as IMMERSE is entered: nothing where the skim
state is not NONE or the countdown is above the lead; a miss with the skimmer out of service; else a request at its
place by due time, whose head an idle skimmer sweeps at once. R14, R64, R65: at the lead with the skimmer IDLE, the
request takes its place in the queue and the arbiter starts the sweep of its head at once. The model's choices in it:
log entries 5, 18, 54. -/
def Obligations.SkimIsRequestedAtTheLead : Prop :=
  (∀ (h : Hoist) (n : Nat) (s : State) (q : Sequencer), q = s.seq h → s.active = true → q.countdown = some n →
      (q.skim ≠ .none ∨ s.skimLead < n → exec (.skimLeadReached h) s = .next (endEvent s)) ∧
      (q.skim = .none → n ≤ s.skimLead → q.phase = .immerse ∨
          ((q.phase = .held ∨ q.phase = .jogging) ∧ q.heldPhase = some .immerse) →
        (s.skimmer.mode = .outOfService → ∀ id r, q.load = some id →
          s.records.loads.find? (fun r => r.id == id) = some r → ∀ s',
          (s' = withLoad id (fun l => { l with flags := { l.flags with skimMissed := true } })
            (setSeq h { q with skim := .missed } s)) →
          (r.flags.skimMissed = true → exec (.skimLeadReached h) s = .next (endEvent s')) ∧
          (r.flags.skimMissed = false → exec (.skimLeadReached h) s = .next (endEvent
            (raise .skimMissed (some h) (some id) (some (((q.overdip.getD 0 : Nat)) : Int)) none s')))) ∧
        (s.skimmer.mode = .sweeping → ∀ p, s.arbiter.spanOf (.hoist h) = some p →
          ∃ before after, s.skimmer.queue = before ++ after ∧
            (∀ x ∈ before, x.due ≤ (s.link.clock + n) % 4294967296) ∧
            (∀ x ∈ after.head?, (s.link.clock + n) % 4294967296 < x.due) ∧
            exec (.skimLeadReached h) s = .next (endEvent
              (setSeq h { q with skim := .waiting }
                { s with skimmer := { s.skimmer with queue := before ++
                  { hoist := h, first := p.first, last := p.last, due := (s.link.clock + n) % 4294967296 } ::
                    after } }))))) ∧
  (∀ (h : Hoist) (s : State) (q : Sequencer), q = s.seq h →
      (s.active = true → exec (.skimLeadReached h) s = .next (endEvent (sendSkimAtLead h s))) ∧
      (q.skim ≠ .none ∨ (∀ n, q.countdown = some n → s.skimLead < n) → sendSkimAtLead h s = s) ∧
      (∀ n, q.countdown = some n → n ≤ s.skimLead → q.skim = .none →
        q.phase = .immerse ∨ ((q.phase = .held ∨ q.phase = .jogging) ∧ q.heldPhase = some .immerse) →
        (s.skimmer.mode = .outOfService → sendSkimAtLead h s = markMissed h s) ∧
        ∀ p, s.skimmer.mode ≠ .outOfService → s.arbiter.spanOf (.hoist h) = some p →
          ∃ before after, s.skimmer.queue = before ++ after ∧
            (∀ x ∈ before, x.due ≤ (s.link.clock + n) % 4294967296) ∧
            (∀ x ∈ after.head?, (s.link.clock + n) % 4294967296 < x.due) ∧
            ∀ u, (u = setSeq h { q with skim := .waiting }
              { s with skimmer := { s.skimmer with queue := before ++
                { hoist := h, first := p.first, last := p.last, due := (s.link.clock + n) % 4294967296 } :: after } }) →
              (s.skimmer.mode = .idle → sendSkimAtLead h s = startSweep u) ∧
              (s.skimmer.mode = .sweeping → sendSkimAtLead h s = u))) ∧
  (∀ (h : Hoist) (n : Nat) (s : State) (q : Sequencer) (p : Span), q = s.seq h → s.active = true →
      q.countdown = some n → q.skim = .none → n ≤ s.skimLead →
      (q.phase = .immerse ∨ ((q.phase = .held ∨ q.phase = .jogging) ∧ q.heldPhase = some .immerse)) →
      s.skimmer.mode = .idle → s.arbiter.spanOf (.hoist h) = some p →
      ∃ before after, s.skimmer.queue = before ++ after ∧
        (∀ x ∈ before, x.due ≤ (s.link.clock + n) % 4294967296) ∧
        (∀ x ∈ after.head?, (s.link.clock + n) % 4294967296 < x.due) ∧
        exec (.skimLeadReached h) s = .next (endEvent (startSweep
          (setSeq h { q with skim := .waiting }
            { s with skimmer := { s.skimmer with queue := before ++
              { hoist := h, first := p.first, last := p.last, due := (s.link.clock + n) % 4294967296 } ::
                after } }))))

/-- R13, R15, R16, R17: at countdown zero the overdip count starts; with a fresh or missed skim the load withdraws, with
a skim waiting the hoist waits for it, and a hoist that is held waits for RESUME. R15, R16: at countdown zero with no
skim asked for, one is asked for and the hoist waits in AWAIT_SKIM; with the wait's setting at 0 a skim that is
waiting is missed at once. R15, R16, R64, R65, R72: the new request of AWAIT_SKIM is due now, the wait counting from
the count given: out of service, it is missed and the load withdraws; else it joins the queue by its due time, and an
idle skimmer sweeps its head; a count at the setting misses the skim at once. The model's choices in it: log entries
18, 54. -/
def Obligations.CountdownZeroDecides : Prop :=
  (∀ (h : Hoist) (s s' : State) (q : Sequencer), q = s.seq h → s.active = true → q.countdown = some 0 →
      q.overdip = none →
      (s' = setSeq h { q with overdip := some 0, skimWait := if q.skim = .waiting then some 0 else q.skimWait } s) →
      (q.phase = .immerse →
        (∀ t, q.skim = .done t → t ≤ s.link.clock → s.link.clock < 4294967296 → s.link.clock ≤ t + 60 →
          exec (.immersionCountdownZero h) s = .next (endEvent (startWithdraw h s'))) ∧
        (q.skim = .missed → exec (.immersionCountdownZero h) s = .next (endEvent (startWithdraw h s'))) ∧
        (q.skim = .waiting → 0 < s.skimWaitLimit →
          exec (.immersionCountdownZero h) s = .next (endEvent (setSeq h { s'.seq h with phase := .awaitSkim } s'))) ∧
        (∀ t, q.skim = .done t → t ≤ s.link.clock → s.link.clock < 4294967296 → t + 60 < s.link.clock →
          exec (.immersionCountdownZero h) s = .next (endEvent (askSkimAgain h 0 s')))) ∧
      (q.phase = .held ∨ q.phase = .jogging → q.heldPhase = some .immerse →
        (q.skim ≠ .waiting ∨ 0 < s.skimWaitLimit →
          exec (.immersionCountdownZero h) s = .next (endEvent s')))) ∧
  (∀ (h : Hoist) (s s' : State) (q : Sequencer), q = s.seq h → s.active = true → q.countdown = some 0 →
      q.overdip = none →
      (s' = setSeq h { q with overdip := some 0, skimWait := if q.skim = .waiting then some 0 else q.skimWait } s) →
      (q.phase = .immerse →
        (q.skim = .none →
          exec (.immersionCountdownZero h) s = .next (endEvent (askSkimAgain h (q.skimWait.getD 0) s'))) ∧
        (q.skim = .waiting → s.skimWaitLimit = 0 →
          exec (.immersionCountdownZero h) s = .next (endEvent (startWithdraw h (withdrawSkim h (markMissed h
            (setSeq h { s'.seq h with phase := .awaitSkim } s'))))))) ∧
      (q.phase = .held ∨ q.phase = .jogging → q.heldPhase = some .immerse → q.skim = .waiting → s.skimWaitLimit = 0 →
        exec (.immersionCountdownZero h) s = .next (endEvent (withdrawSkim h (markMissed h s'))))) ∧
  (∀ (h : Hoist) (wait due : Nat) (s s₁ : State), due = s.link.clock % 4294967296 →
      (s₁ = setSeq h { s.seq h with phase := .awaitSkim, skimWait := some wait, skim := .waiting } s) →
      (s.skimmer.mode = .outOfService → askSkimAgain h wait s = startWithdraw h (markMissed h s₁)) ∧
      (∀ p, s.skimmer.mode ≠ .outOfService → s.arbiter.spanOf (.hoist h) = some p →
        ∃ before after, s.skimmer.queue = before ++ after ∧ (∀ x ∈ before, x.due ≤ due) ∧
          (∀ x ∈ after.head?, due < x.due) ∧
          ∀ u, (u = { s₁ with skimmer := { s.skimmer with queue := before ++
              { hoist := h, first := p.first, last := p.last, due := due } :: after } }) →
            (wait < s.skimWaitLimit → s.skimmer.mode = .sweeping → askSkimAgain h wait s = u) ∧
            (wait < s.skimWaitLimit → s.skimmer.mode = .idle → askSkimAgain h wait s = startSweep u) ∧
            (s.skimWaitLimit ≤ wait → s.skimmer.mode = .sweeping →
              askSkimAgain h wait s = startWithdraw h (withdrawSkim h (markMissed h u))) ∧
            (s.skimWaitLimit ≤ wait → s.skimmer.mode = .idle →
              askSkimAgain h wait s = startWithdraw h (withdrawSkim h (markMissed h (startSweep u))))))

/-- R17, R18: WITHDRAW compares the overdip count with its limit, writes it and the withdraw time into the load record
and lifts to p_clr at the latched withdrawal speed, or at the raise speed for a load that was never admitted. R16,
R68: a skim wait count at its setting makes the skim missed, withdraws the request, and withdraws the load, or leaves
a hoist that is held where it is. R68, R69: a withdrawal from a hoist that is not being swept, or whose sweep has
been sent its abort already, removes the request that waits in the queue, the others closing up in their order, and
sends nothing; with none waiting it changes nothing. The model's choices in it: log entries 5, 42, 53. -/
def Obligations.WithdrawalAndTheSkimWait : Prop :=
  (∀ (h : Hoist) (id : Nat) (s : State) (r : LoadRec) (q : Sequencer) (x c v : Int), q = s.seq h →
      q.load = some id → s.records.loads.find? (fun r => r.id == id) = some r →
      q.lift = some x → q.pClr = some c → 5 < |c - x| →
      ((∃ l, r.latched = some l ∧ v = (l.withdrawSpeed : Int)) ∨ (r.latched = none ∧ v = s.setting 14)) →
      startWithdraw h s =
        moving h .lift c v x (setSeq h { (overdipCompared h id s).seq h with phase := .withdraw, overdip := none }
          (withLoad id (fun l => { l with
            withdrawTime := some s.link.clock
            overdipSeconds := q.overdip.or l.overdipSeconds }) (overdipCompared h id s)))) ∧
  (∀ (h : Hoist) (n : Nat) (s : State) (q : Sequencer), q = s.seq h → s.active = true → q.skim = .waiting →
      q.skimWait = some n →
      (n < s.skimWaitLimit → exec (.skimWaitExpired h) s = .next (endEvent s)) ∧
      (s.skimWaitLimit ≤ n →
        (q.phase = .awaitSkim → exec (.skimWaitExpired h) s =
          .next (endEvent (startWithdraw h (withdrawSkim h (markMissed h s))))) ∧
        (q.phase = .held ∨ q.phase = .jogging → exec (.skimWaitExpired h) s =
          .next (endEvent (withdrawSkim h (markMissed h s))))) ∧
      (∀ id r, q.load = some id → s.records.loads.find? (fun r => r.id == id) = some r → r.flags.skimMissed = false →
        markMissed h s = raise .skimMissed (some h) (some id) (some (((q.overdip.getD 0 : Nat)) : Int)) none
          (withLoad id (fun l => { l with flags := { l.flags with skimMissed := true } })
            (setSeq h { q with skim := .missed } s))) ∧
      (∀ w, s.skimmer.sweep = some w → w.hoist = some h → w.abort = false →
        withdrawSkim h s = sendCommand .skimmer .abort
          { s with skimmer := { s.skimmer with sweep := some { w with abort := true } } })) ∧
  (∀ (h : Hoist) (s : State),
      (∀ w, s.skimmer.sweep = some w → w.hoist ≠ some h ∨ w.abort = true) →
      (∀ before r after, s.skimmer.queue = before ++ r :: after → r.hoist = h →
        (∀ x ∈ before, x.hoist ≠ h) → (∀ x ∈ after, x.hoist ≠ h) →
        withdrawSkim h s = { s with skimmer := { s.skimmer with queue := before ++ after } }) ∧
      ((∀ x ∈ s.skimmer.queue, x.hoist ≠ h) → withdrawSkim h s = s))

/-- R17: an overdip count above the limit in force sets NONCONFORMING and raises one OVERDIP. R32: 10 s after the stop of
a recovery with no answer at rest, the hoist is HELD with held phase WITHDRAW, the load is INTERRUPTED and
NONCONFORMING, and RECOVERED_IN_BATH is raised with the last reported lift position. The model's choices in it: log
entries 5, 26. -/
def Obligations.OverdipAndRecoveryLimits : Prop :=
  (∀ (h : Hoist) (n id : Nat) (s : State) (q : Sequencer), q = s.seq h → s.active = true → q.overdip = some n →
      q.load = some id →
      (q.overdipRaised = true ∨ n ≤ s.overdipLimit → exec (.overdipLimitExceeded h) s = .next (endEvent s)) ∧
      (q.overdipRaised = false → s.overdipLimit < n →
        exec (.overdipLimitExceeded h) s = .next (endEvent
          (setSeq h { q with overdipRaised := true }
            (raise .overdip (some h) (some id) (some ((s.overdipLimit : Nat) : Int)) none
              (withLoad id (fun l => { l with flags := { l.flags with nonconforming := true } }) s)))))) ∧
  (∀ (h : Hoist) (n id : Nat) (s : State) (q : Sequencer), q = s.seq h → s.active = true → q.phase = .recover →
      q.recoverWait = some n → q.load = some id →
      (n < 10 → exec (.recoveryTimeout h) s = .next (endEvent s)) ∧
      (10 ≤ n →
        exec (.recoveryTimeout h) s = .next (endEvent
          (raise .recoveredInBath (some h) (some id) q.lift none
            (setSeq h { q with phase := .held, heldPhase := some .withdraw, recoverWait := none }
              (withLoad id (fun l => { l with
                flags := { l.flags with interrupted := true, nonconforming := true } }) s))))))

/-- R19, R20, R95: the vibrator goes off as its countdown ends and the drain goes on; at the end of the drain the
weigh-out starts with its settings latched. The model's choices in it: log entries 5, 22. -/
def Obligations.DrainEndsInAWeighOut : Prop :=
  ∀ (h : Hoist) (s s' : State) (q : Sequencer), q = s.seq h → s.active = true → q.phase = .drain →
    q.motion = none →
    (s' = endEvent (pollFallsDue (scaleOf h)
      (setEng h
        { s.eng h with
          weigh := some { kind := .weighOut, size := (s.setting 25).toNat, band := s.setting 26,
                          timeout := (s.setting 28).toNat, elapsed := 0, passed := false, window := [],
                          best := none, completed := 0, bad := 0 } }
        (setSeq h { q with phase := .weighOut, vibratorOn := false } s)))) →
    (∀ n, q.vibratorOn = true → q.vibrate = some 0 → q.drain = some (n + 1) →
      exec (.vibrateEnd h) s = .next (endEvent (setSeq h { q with vibratorOn := false } s))) ∧
    (q.vibratorOn = true → q.vibrate = some 0 → q.drain = some 0 → exec (.vibrateEnd h) s = .next s') ∧
    (q.vibratorOn = false → q.vibrate = some 0 → q.drain = some 0 → exec (.drainEnd h) s = .next s') ∧
    (∀ n, q.vibratorOn = true → q.vibrate = some (n + 1) → exec (.vibrateEnd h) s = .next (endEvent s)) ∧
    (∀ n, q.drain = some (n + 1) → exec (.drainEnd h) s = .next (endEvent s))

/-- R8, R104: a weigh-in timeout marks the weigh, once, and raises WEIGH_UNSTABLE with the latched timeout; the weigh
goes on. R20, R102, R103, R105, R130: a weigh-out timeout takes the weight of the best window, unsettled, or no
weight, and the load is posted. R95, R160: a weigh begins with the window size, the band and its kind's timeout as
the settings then stand, with nothing sampled yet, and the first poll of its scale due. The model's choices in it:
log entries 5, 20, 29. -/
def Obligations.WeighTimeoutsByKind : Prop :=
  (∀ (h : Hoist) (w : Weigh) (id : Nat) (s : State), s.active = true → (s.eng h).weigh = some w →
      (s.seq h).load = some id →
      (w.elapsed < w.timeout ∨ w.passed = true →
        exec (.weighInTimeout h) s = .next (endEvent s) ∧ exec (.weighOutTimeout h) s = .next (endEvent s)) ∧
      (w.kind = .weighIn → w.passed = false → w.timeout ≤ w.elapsed →
        exec (.weighInTimeout h) s = .next (endEvent
          (raise .weighUnstable (some h) (some id) (some (w.timeout : Int)) none
            (setEng h { s.eng h with weigh := some { w with passed := true } } s)))) ∧
      (∀ (r : LoadRec) (x y pc : Int), w.kind = .weighOut → w.passed = false → w.timeout ≤ w.elapsed →
        (s.seq h).phase = .weighOut → s.records.loads.find? (fun r => r.id == id) = some r → r.postingTime = none →
        (s.seq h).lift = some x → (s.seq h).pClr = some pc → pc ≤ x → (s.seq h).travel = some y →
        5 < |s.stationPosition h - y| →
        (w.best = none →
          exec (.weighOutTimeout h) s = .next (endEvent (withTrials s (postedAndAway h y
            (withLoad id (fun l => if l.postingTime.isSome then l
              else { l with wOut := none, flags := { l.flags with unweighedOut := true } })
              (setEng h { s.eng h with weigh := none } s)))))) ∧
        (∀ (b : BestWindow) (v : Int), w.best = some b →
          (v = ((b.mean - s.scaleZero h) * s.spanFactor h + 32768) / 65536) →
          exec (.weighOutTimeout h) s = .next (endEvent (withTrials s (postedAndAway h y
            (withLoad id (fun l => if l.postingTime.isSome then l
              else { l with
                wOut := some (min v.toNat 200000)
                flags := { l.flags with unsettled := true, underRange := l.flags.underRange || decide (v < 0),
                                        overRange := l.flags.overRange || decide (200000 < v) } })
              (setEng h { s.eng h with weigh := none } s)))))))) ∧
  (∀ (h : Hoist) (k : WeighKind) (s : State),
      startWeigh h k s = pollFallsDue (scaleOf h) (setEng h
        { s.eng h with
          weigh := some {
            kind := k, size := (s.setting 25).toNat, band := s.setting 26,
            timeout := (match k with | .weighIn => s.setting 27 | .weighOut => s.setting 28).toNat,
            elapsed := 0, passed := false, window := [], best := none, completed := 0, bad := 0 } } s))

/-! ## Admission, temperature, level and the zinc balance -/

/-- R86, R88, R182: the causes of a failed trial and their numbers, and the weight that the throughput rule takes. R11,
R12, R40 to R43, R85, R88, R89: the tick of the gate is a trial of the waiting load; of a hoist that does not wait it
changes nothing. A trial that fails notifies each new cause once and changes nothing else; one that passes makes the
window entry, which keeps the throughput law, latches the recipe computed from the tables as they stand, raises
ENTERED, and lowers the load at the latched entry speed. The model's choices in it: log entries 5, 48. -/
def Obligations.AdmissionTrialsAndTheirCauses : Prop :=
  ([AdmitCause.temperatureUnknown, .tooCold, .tooHot, .depthUnknown, .notCovered, .throughput].map AdmitCause.number =
      [1, 2, 3, 4, 5, 6] ∧
    ∀ (h : Hoist) (r : LoadRec) (s : State) (w total : Nat),
      (w = (r.wIn.or r.declared).getD (s.setting 24).toNat) →
      (total = (s.window.map WindowEntry.weight).sum) →
      s.admissionWeight r = w ∧
      (.temperatureUnknown ∈ s.failedCauses h r ↔ s.bath.temp = none) ∧
      (.tooCold ∈ s.failedCauses h r ↔ ∃ t, s.bath.temp = some t ∧ t < s.setting 20) ∧
      (.tooHot ∈ s.failedCauses h r ↔ ∃ t, s.bath.temp = some t ∧ s.setting 21 ≤ t) ∧
      (.depthUnknown ∈ s.failedCauses h r ↔ s.bath.hEst = none) ∧
      (∀ p, (s.seq h).pImm = some p → (.notCovered ∈ s.failedCauses h r ↔
        ∃ d, s.bath.hEst = some d ∧ d < r.height + (p - r.hang) + 50)) ∧
      (.throughput ∈ s.failedCauses h r ↔
        s.window ≠ [] ∧ (64 ≤ s.window.length ∨ (s.setting 23).toNat < total + w))) ∧
  ((∀ (h : Hoist) (s : State),
      (s.active = true → exec (.gateTrialTick h) s = .next (endEvent (trial h s))) ∧
      ((s.seq h).phase ≠ .awaitAdmit → trial h s = s)) ∧
    ∀ (h : Hoist) (id : Nat) (s : State) (r : LoadRec) (q : Sequencer), q = s.seq h →
      q.load = some id → s.records.loads.find? (fun r => r.id == id) = some r →
      (∀ new, new = (s.failedCauses h r).filter (fun c => !q.causes.contains c) →
        q.phase = .awaitAdmit → s.failedCauses h r ≠ [] →
        trial h s =
          { setSeq h { q with causes := q.causes ++ new } s with
            link := new.foldl (fun l c => l.raise
              { kind := .admitWait, time := s.link.clock, hoist := some h, load := some id,
                data1 := some (c.number : Int), data2 := none }) s.link }) ∧
      (∀ (θ x p : Int) (c : SectionClass) (m w tSi t : Nat), q.phase = .awaitAdmit → s.failedCauses h r = [] →
        s.bath.temp = some θ → q.lift = some x → q.pImm = some p → 5 < |p - x| →
        s.settings.sections[r.sect]? = some c → s.settings.silicons[r.silicon]? = some m →
        w = s.admissionWeight r → tSi = (c.base + c.perMm * r.thick) * m / 100 →
        (t = max 30 (min 1200 (tSi + tSi * (s.setting 19 - θ).toNat / 1000))) →
        trial h s =
          (moving h .lift p (c.entrySpeed : Int) x
            (setSeq h { q with phase := .entry }
              (raise .entered (some h) (some id) (some (t : Int)) (some θ)
                (withLoad id (fun l => { l with
                  latched := some { theta := θ, tImm := t, entryTime := s.link.clock, entrySpeed := c.entrySpeed,
                                    withdrawSpeed := c.withdrawSpeed, vibrate := c.vibrate, drain := c.drain } })
                  { s with window := s.window ++ [{ weight := w, age := 0 }] })))) ∧
        (s.window = [] ∨ ((s.window ++ [({ weight := w, age := 0 } : WindowEntry)]).map WindowEntry.weight).sum ≤ (s.setting 23).toNat)))

/-- R85, R87, R89: an entry of an hour leaves the head of the window, and the waiting loads are tried: a load that waits
alone on its own, two in either order, the choice being the free value of log entry 6. R80, R81, R144, R146: the
kettle falls quiet at a settle count of 30, and LEVEL is polled; a reconciliation that has waited 600 s ends
NOT_QUIET. The model's choices in it: log entries 5, 6. -/
def Obligations.WindowExpiryQuietKettleAndReconcileTimeout : Prop :=
  ((∀ (e : WindowEntry) (rest : List WindowEntry) (s : State), s.active = true → s.window = e :: rest →
      (e.age < 3600 → exec .windowEntryExpiry s = .next (endEvent s)) ∧
      (3600 ≤ e.age → exec .windowEntryExpiry s = .next (endEvent (tryWaiting { s with window := rest })))) ∧
    ∀ s : State,
      (s.seqA.phase ≠ .awaitAdmit → s.seqB.phase ≠ .awaitAdmit → tryWaiting s = s) ∧
      (s.seqA.phase = .awaitAdmit → s.seqB.phase ≠ .awaitAdmit → tryWaiting s = trial .A s) ∧
      (s.seqA.phase ≠ .awaitAdmit → s.seqB.phase = .awaitAdmit → tryWaiting s = trial .B s) ∧
      (s.seqA.phase = .awaitAdmit → s.seqB.phase = .awaitAdmit →
        tryWaiting s = trial .B (trial .A { s with free := s.free + 1 }) ∨
        tryWaiting s = trial .A (trial .B { s with free := s.free + 1 }))) ∧
  (∀ s : State, s.active = true →
      (s.disturbed = false → s.bath.quiet = false → 30 ≤ s.bath.settle →
        exec .kettleQuiet s = .next (endEvent
          { s with
            bath := { s.bath with quiet := true }
            field := { s.field with
              levelSecs := 0
              level := { s.field.level with pollDue := some (s.field.level.pollDue.getD s.field.instant) } } })) ∧
      (s.disturbed = true ∨ s.bath.settle < 30 → exec .kettleQuiet s = .next (endEvent s)) ∧
      (∀ p, s.balance.pending = some p →
        (p.waited < 600 → exec .reconcileTimeout s = .next (endEvent s)) ∧
        (600 ≤ p.waited →
          exec .reconcileTimeout s = .next (endEvent
            (raise .reconciled none none (some 1) none
              { s with balance := { s.balance with
                pending := none
                last := some { outcome := .notQuiet, requested := p.requested, ended := s.link.clock,
                               rebase := p.rebase, book := none, mass := none, residual := none,
                               adjustment := none } } })))) ∧
      (s.balance.pending = none → exec .reconcileTimeout s = .next (endEvent s)))

/-- R79, R83, R84, R141: the density, the estimated depth as the greatest whole depth that the book implies, the measured
mass, and the level warning with its arming; the depth computed afresh is compared with the warning at once, and
nothing else changes. -/
def Obligations.DepthMassAndLevelWarning : Prop :=
  (∀ s : State, s.bath.reading = none → (refreshDepth s).bath.hEst = none) ∧
  (∀ (s : State) (q : QuietReading), s.bath.reading = some q → ∃ d, (refreshDepth s).bath.hEst = some d ∧
    (0 < q.length * q.width * q.density →
      (q.depth - d) * (q.length * q.width * q.density) ≥ (q.book - s.balance.book) * 100000000 ∧
      (q.depth - d - 1) * (q.length * q.width * q.density) < (q.book - s.balance.book) * 100000000)) ∧
  (∀ s : State, refreshDepth s =
    compareLevel { s with bath := { s.bath with hEst := (refreshDepth s).bath.hEst } }) ∧
  (∀ (s : State) (d : Int), s.bath.hEst = some d →
    (s.bath.levelArmed = true → d < s.setting 22 →
      compareLevel s = raise .levelLow none none (some d) (some (s.setting 22))
        { s with bath := { s.bath with levelArmed := false } }) ∧
    (s.bath.levelArmed = true → s.setting 22 ≤ d → compareLevel s = s) ∧
    (s.bath.levelArmed = false → s.setting 22 + 20 ≤ d →
      compareLevel s = { s with bath := { s.bath with levelArmed := true } }) ∧
    (s.bath.levelArmed = false → d < s.setting 22 + 20 → compareLevel s = s)) ∧
  (∀ s : State, s.bath.hEst = none → compareLevel s = s) ∧
  (density 4500 = 6570 ∧ density 4523 = 6567 ∧ density 4462 = 6574 ∧ density 4400 = 6581 ∧ density 4900 = 6526) ∧
  (∀ t : Int, 100 * (6570 - density t) ≤ (t - 4500) * 11 + 50 ∧ (t - 4500) * 11 + 50 < 100 * (6570 - density t + 1)) ∧
  (∀ q : QuietReading,
    measuredMass q * 100000000 ≤ q.length * q.width * q.depth * q.density + 50000000 ∧
    q.length * q.width * q.depth * q.density + 50000000 < (measuredMass q + 1) * 100000000) ∧
  (∀ q : QuietReading, q.length * q.width = 25200000 → q.depth = 2788 → q.density = 6567 → measuredMass q = 4613817)

/-- R131, R132, R133: how a posting splits a dip into its figures. R130, R134, R135, R136, R137, R152: what a posting
writes into the load record, the order, the jig, the book and the open period, each total saturating with its
record's overflow flag; LOSS_SUSPECT where the dip lost more than the tolerance (R132), and TOTAL_SATURATED for each
record whose flag it sets, with that notice on; the estimated depth is computed afresh and nothing else changes; a
load already posted is not posted again. The model's choices in it: log entries 29, 30, 52. -/
def Obligations.PostingSplitsAndWritesEveryAccountOnce : Prop :=
  (∀ (i o a tare : Nat) (dTol : Int) (f : Figures),
      (f = figures (some i) (some o) a tare dTol → 0 ≤ dTol → -dTol ≤ (o : Int) - i →
        f.suspect = false ∧ f.steelLost = none ∧
        ∃ pj pl bn gn : Nat, f.jigPickup = some pj ∧ f.loadPickup = some pl ∧ f.blackNet = some bn ∧ f.galvNet = some gn ∧
          (pj : Int) = min (a : Int) (max 0 ((o : Int) - i)) ∧ (pl : Int) = max 0 ((o : Int) - i) - pj ∧
          (bn : Int) = max 0 ((i : Int) - tare) ∧ gn = bn + pl) ∧
      (f = figures (some i) (some o) a tare dTol → 0 ≤ dTol → (o : Int) - i < -dTol →
        f.suspect = true ∧ f.jigPickup = some 0 ∧ f.loadPickup = some 0 ∧
        ∃ lost bn gn : Nat, f.steelLost = some lost ∧ f.blackNet = some bn ∧ f.galvNet = some gn ∧
          (lost : Int) = (i : Int) - o ∧ (bn : Int) = max 0 ((i : Int) - tare) ∧ (gn : Int) = max 0 ((o : Int) - tare)) ∧
      figures none (some o) a tare dTol =
        { loadPickup := none, jigPickup := none, blackNet := none, galvNet := some (max o tare - tare),
          steelLost := none, suspect := false } ∧
      figures (some i) none a tare dTol =
        { loadPickup := none, jigPickup := none, blackNet := some (max i tare - tare), galvNet := none,
          steelLost := none, suspect := false } ∧
      figures none none a tare dTol =
        { loadPickup := none, jigPickup := none, blackNet := none, galvNet := none, steelLost := none, suspect := false }) ∧
  (∀ (h : Hoist) (id : Nat) (s : State) (r : LoadRec) (j : JigRec) (f : Figures), (s.seq h).load = some id →
      s.records.loads.find? (fun r => r.id == id) = some r →
      s.records.jigs.find? (fun j => j.number == r.jig) = some j →
      f = figures r.wIn r.wOut j.allowance (j.base + j.buildUp) (s.setting 29) →
      (r.postingTime ≠ none → post h s = s) ∧
      ∀ (black galv pick jig lost : Nat) (orderFlag before : Bool) (orderPost : OrderRec → OrderRec)
          (jigPost : JigRec → JigRec) (p p' : Period) (fall : Int) (s₁ : State),
        black = f.blackNet.getD 0 → galv = f.galvNet.getD 0 → pick = f.loadPickup.getD 0 → jig = f.jigPickup.getD 0 →
        lost = f.steelLost.getD 0 → p = s.balance.current → fall = s.balance.book - ((pick + jig : Nat) : Int) →
        (orderPost = fun x => { x with
          blackNet := min (x.blackNet + black) 4294967295
          galvNet := min (x.galvNet + galv) 4294967295
          pickup := min (x.pickup + pick) 4294967295
          dipped := min (x.dipped + 1) 4294967295
          nonconforming := min (x.nonconforming + r.flags.nonconforming.toNat) 4294967295
          lossSuspect := min (x.lossSuspect + (r.flags.lossSuspect || f.suspect).toNat) 4294967295
          unweighed := min (x.unweighed + (r.wIn.isNone || r.wOut.isNone).toNat) 4294967295
          overflow := x.overflow || decide (4294967295 < x.blackNet + black ∨ 4294967295 < x.galvNet + galv ∨
            4294967295 < x.pickup + pick ∨ 4294967295 < x.dipped + 1 ∨
            4294967295 < x.nonconforming + r.flags.nonconforming.toNat ∨
            4294967295 < x.lossSuspect + (r.flags.lossSuspect || f.suspect).toNat ∨
            4294967295 < x.unweighed + (r.wIn.isNone || r.wOut.isNone).toNat) }) →
        (jigPost = fun x => { x with
          buildUp := min (x.buildUp + jig) 100000
          dips := min (x.dips + 1) 65535
          overflow := x.overflow || decide (100000 < x.buildUp + jig ∨ 65535 < x.dips + 1) }) →
        (p' = { p with
          pickup := min (p.pickup + pick) 4294967295
          jigPickup := min (p.jigPickup + jig) 4294967295
          steelLost := min (p.steelLost + lost) 4294967295
          dips := min (p.dips + 1) 4294967295
          overflow := p.overflow || decide (fall < -2000000000 ∨ 4294967295 < p.pickup + pick ∨
            4294967295 < p.jigPickup + jig ∨ 4294967295 < p.steelLost + lost ∨ 4294967295 < p.dips + 1) }) →
        ((∃ o, s.records.orders.find? (fun o => o.number == r.order) = some o ∧ before = o.overflow ∧
            orderFlag = (orderPost o).overflow) ∨
          (s.records.orders.find? (fun o => o.number == r.order) = none ∧ before = true)) →
        (s₁ = { s with
          records := {
            orders := s.records.orders.map (fun x => if x.number = r.order then orderPost x else x)
            loads := s.records.loads.map (fun l => if l.id = id then
              { l with
                postingTime := some s.link.clock, loadPickup := f.loadPickup, jigPickup := f.jigPickup,
                blackNet := f.blackNet, galvNet := f.galvNet, steelLost := f.steelLost,
                flags := { l.flags with lossSuspect := l.flags.lossSuspect || f.suspect } } else l)
            jigs := s.records.jigs.map (fun x => if x.number = r.jig then jigPost x else x) }
          balance := { s.balance with book := max fall (-2000000000), current := p' } }) →
        r.postingTime = none →
        post h s = refreshDepth (saturated 3 p.number p.overflow p'.overflow
          (saturated 2 r.jig j.overflow (jigPost j).overflow
            (saturated 1 r.order before orderFlag
              (if f.suspect = true then
                raise .lossSuspect (some h) (some id) (f.steelLost.map Int.ofNat) (some (s.setting 29)) s₁
              else s₁)))))

/-- R83, R85, R138, R139, R140, R152: CHARGE_ZINC, REPORT_DROSS and REPORT_ASH change the book and the open period in one
event, saturating, with the estimated depth computed afresh and the waiting loads tried where it changes; the reply
carries the book after it. The model's choices in it: log entries 20, 49, 52. -/
def Obligations.ZincInAndOutOfTheBook : Prop :=
  ∀ (w : Nat) (s : State) (p : Period), p = s.balance.current → s.listening = true →
    (w = 0 ∨ 1000000 < w → Refused (.chargeZinc w) 0x38 .range s ∧ Refused (.reportDross w) 0x39 .range s ∧
      Refused (.reportAsh w) 0x3A .range s) ∧
    (2000000000 < s.balance.book + w → Refused (.chargeZinc w) 0x38 .range s) ∧
    (1 ≤ w → w ≤ 1000000 → s.balance.book + w ≤ 2000000000 →
      ∀ spill, (spill = (p.overflow || decide (4294967295 < p.charged + w))) →
        Taken (.chargeZinc w) 0x38 (.book (s.balance.book + w)) s
          (endEvent (withTrials s (refreshDepth (saturated 3 p.number p.overflow spill
            { s with balance := { s.balance with
              book := s.balance.book + w
              current := { p with charged := min (p.charged + w) 4294967295, overflow := spill } } }))))) ∧
    (1 ≤ w → w ≤ 1000000 →
      (∀ spill, (spill = (p.overflow || decide (s.balance.book - w < -2000000000) || decide (4294967295 < p.dross + w))) →
        Taken (.reportDross w) 0x39 (.book (max (s.balance.book - w) (-2000000000))) s
          (endEvent (withTrials s (refreshDepth (saturated 3 p.number p.overflow spill
            { s with balance := { s.balance with
              book := max (s.balance.book - w) (-2000000000)
              current := { p with dross := min (p.dross + w) 4294967295, overflow := spill } } }))))) ∧
      (∀ spill, (spill = (p.overflow || decide (s.balance.book - w < -2000000000) || decide (4294967295 < p.ash + w))) →
        Taken (.reportAsh w) 0x3A (.book (max (s.balance.book - w) (-2000000000))) s
          (endEvent (withTrials s (refreshDepth (saturated 3 p.number p.overflow spill
            { s with balance := { s.balance with
              book := max (s.balance.book - w) (-2000000000)
              current := { p with ash := min (p.ash + w) 4294967295, overflow := spill } } }))))))

/-- R142, R149, R150, R151: RECONCILE, CLOSE_PERIOD, DISCARD_PERIOD, READ_PERIOD and READ_BALANCE. -/
def Obligations.PeriodsCloseAreReadAndDiscarded : Prop :=
  ∀ (s : State) (p : Period), p = s.balance.current → s.listening = true →
    (∀ c, 1 < c → Refused (.reconcile c) 0x3B .range s) ∧
    (s.balance.pending ≠ none → ∀ c, c ≤ 1 → Refused (.reconcile c) 0x3B .busy s) ∧
    (s.balance.pending = none → ∀ b : Bool, Taken (.reconcile b.toNat) 0x3B .empty s
      { s with balance := { s.balance with
        pending := some { requested := s.link.clock, rebase := b, waited := 0 } } }) ∧
    (4 ≤ s.balance.closed.length → Refused .closePeriod 0x3D .full s) ∧
    (s.balance.closed.length < 4 → ∀ n, (n = if p.number < 65535 then p.number + 1 else 1) →
      Taken .closePeriod 0x3D .empty s
        (raise .periodClosed none none (some (p.number : Int)) (some s.balance.book)
          { s with balance := { s.balance with
            closed := s.balance.closed ++
              [{ p with closeTime := some s.link.clock, closingBook := some s.balance.book }]
            current :=
              { number := n, start := s.link.clock, openingBook := s.balance.book, charged := 0, pickup := 0,
                jigPickup := 0, dross := 0, ash := 0, jigStrip := 0, steelLost := 0, dips := 0, adjustment := 0,
                overflow := false, closeTime := none, closingBook := none } } })) ∧
    (∀ n, n = 0 ∨ 65535 < n → Refused (.discardPeriod n) 0x3F .range s ∧ Refused (.readPeriod n) 0x3E .range s) ∧
    (∀ n, 1 ≤ n → n ≤ 65535 →
      (∀ c rest, s.balance.closed = c :: rest → c.number = n →
        Taken (.discardPeriod n) 0x3F .empty s { s with balance := { s.balance with closed := rest } }) ∧
      (s.balance.closed.head?.map Period.number ≠ some n → Refused (.discardPeriod n) 0x3F .state s) ∧
      (p.number = n → Taken (.readPeriod n) 0x3E (.period p (some s.balance.book)) s s) ∧
      (p.number ≠ n →
        (∀ c, s.balance.closed.find? (fun c => decide (c.number = n)) = some c →
          Taken (.readPeriod n) 0x3E (.period c none) s s) ∧
        ((∀ c ∈ s.balance.closed, c.number ≠ n) → Refused (.readPeriod n) 0x3E .notFound s))) ∧
    Taken .readBalance 0x3C
      (.balance s.balance.book p (s.balance.closed.map Period.number) s.balance.last s.balance.pending s.bath.reading
        (s.bath.reading.map measuredMass) (s.bath.reading.map (fun q => s.balance.book - measuredMass q))) s s

/-! ## The field line and Fault Capture -/

/-- R168, R169, R182: an empty fault record is filled and FIELD_FAULT raised with its cause and data word, a full one
keeps its fields and gains the multiple flag; READ_FAULT reports, ACK_FAULT empties. R159, R160, R164, R165:
READ_FIELD_STATUS reports the seven stations in their order, and with clear yes empties the accumulators after
forming the reply, leaving the last codes. -/
def Obligations.FaultAndFieldStatusAreReadAndCleared : Prop :=
  ((∀ s : State, s.listening = true →
      Taken .readFault 0x42 (.fault s.capture.record s.capture.multiple) s s ∧
      Taken .ackFault 0x43 .empty s { s with capture := { record := none, multiple := false } }) ∧
    ∀ (r : FaultRecord) (s : State),
      (s.capture.record ≠ none → capture r s = { s with capture := { s.capture with multiple := true } }) ∧
      (s.capture.record = none →
        (∀ st code, r.cause = .station st code →
          capture r s = raise .fieldFault r.hoist r.load (some ((st.number * 16 + code : Nat) : Int)) r.data
            { s with capture := { s.capture with record := some r } }) ∧
        (r.cause = .motionOverdue →
          capture r s = raise .fieldFault r.hoist r.load (some 128) r.data
            { s with capture := { s.capture with record := some r } }))) ∧
  (∀ (s : State) (report : List StationStatus), s.listening = true →
      (report = [Station.driveA, .driveB, .scaleA, .scaleB, .skimmer, .thermo, .level].map (fun st =>
        { lastCode := (s.station st).lastCode, accum := (s.station st).accum, mask := s.setting (29 + st.number),
          polled := s.polled st })) →
      (∀ c, 1 < c → Refused (.readFieldStatus c) 0x44 .range s) ∧
      Taken (.readFieldStatus 0) 0x44 (.fieldStatus report) s s ∧
      ∃ f : FieldLine,
        Taken (.readFieldStatus 1) 0x44 (.fieldStatus report) s { s with field := f } ∧
        f.instant = s.field.instant ∧ f.thermoSecs = s.field.thermoSecs ∧ f.levelSecs = s.field.levelSecs ∧
        ∀ st, ({ s with field := f } : State).station st =
          { s.station st with accum := List.replicate 8 false })

/-- R160: when each station is polled, while the module works: a drive while its hoist is not DISABLED, a scale while its
engine is WEIGHING, the skimmer while SWEEPING, THERMO always, LEVEL while the kettle is QUIET. A poll that falls due
is due at that instant, unless one waits already. R156, R160: a poll falls due while its condition holds, at most one
waiting; a retry falls due after the attempt it repeats. R155, R156, R162, R164: an attempt that ends with code 1 or
6 enters the accumulator and is retried, up to three retries, unless a command that waits takes its place: then the
transaction is abandoned, its last code as it was. The model's choices in it: log entries 5, 9, 16, 51. -/
def Obligations.PollsAndAttemptsOnTheLine : Prop :=
  (∀ (h : Hoist) (s : State),
      (s.active = false → ∀ st, s.polled st = false) ∧
      (s.active = true →
        (s.polled (driveOf h) = true ↔ (s.seq h).phase ≠ .disabled) ∧
        (s.polled (scaleOf h) = true ↔ (s.eng h).weigh ≠ none) ∧
        (s.polled .skimmer = true ↔ s.skimmer.mode = .sweeping) ∧
        s.polled .thermo = true ∧
        (s.polled .level = true ↔ s.bath.quiet = true)) ∧
      ∀ st, pollFallsDue st s =
        setStation st { s.station st with pollDue := some ((s.station st).pollDue.getD s.field.instant) } s) ∧
  (∀ (st : Station) (s : State), s.active = true →
      (s.polled st = true → st ≠ .skimmer ∨ s.skimmer.pollsBegun = true →
        exec (.fieldPollDue st) s = .next (endEvent (setStation st
          { s.station st with pollDue := some ((s.station st).pollDue.getD s.field.instant) } s))) ∧
      (s.polled st = false → exec (.fieldPollDue st) s = .next (endEvent s)) ∧
      (∀ t, (s.station st).trans = some t → t.stage = .awaitRetry →
        exec (.fieldRetryDue st) s = .next (endEvent (setStation st
          { s.station st with trans := some { t with stage := .retryDue s.field.instant } } s))) ∧
      ((∀ t, (s.station st).trans = some t → t.stage ≠ .awaitRetry) →
        exec (.fieldRetryDue st) s = .next (endEvent s))) ∧
  (∀ (st : Station) (s : State) (x : StationState) (c : Instr) (code : Nat), x = s.station st → s.active = true →
      (c = .fieldNoAnswer st ∧ code = 6) ∨ (∃ r, c = .fieldAnswerReceived st 1 r ∧ code = 1) →
      ((∀ t, x.trans = some t → t.stage ≠ .onLine) → exec c s = .next (endEvent s)) ∧
      ∀ t, x.trans = some t → t.stage = .onLine → t.attempts < 3 →
        ((t.kind = .poll ∧ x.cmds = []) ∨
          (∃ d, t.kind = .command d ∧
            (d = .stop ∨ d = .abort ∨ ∀ w ∈ x.cmds, w.cmd ≠ .stop ∧ w.cmd ≠ .abort)) →
          exec c s = .next (endEvent (setStation st
            { x with accum := x.accum.set code true
                     trans := some { t with attempts := t.attempts + 1, stage := .awaitRetry } } s))) ∧
        ((t.kind = .poll ∧ x.cmds ≠ []) ∨
          (∃ d, t.kind = .command d ∧ d ≠ .stop ∧ d ≠ .abort ∧ ∃ w ∈ x.cmds, w.cmd = .stop ∨ w.cmd = .abort) →
          exec c s = .next (endEvent (setStation st { x with accum := x.accum.set code true, trans := none } s))))

/-- R155, R157, R158, R164, R166: a final code enters the last code and the accumulator, and is sorted: done, with the
report to its owner; masked; or a field fault, to Fault Capture first and then to the owner. R155, R156, R158, R159,
R166: every other final code: 2 to 5 as the station gave it, 6 after the fourth attempt with no answer, 7 for an
answer that fails the master's check. Not masked, it is a field fault; masked, a poll of a scale gives a bad sample,
one of THERMO four invalid channels, any other nothing. Code 2 of a drive's poll, not masked, is a fault whatever it
reports; a report that is not the station's own is code 7. R94, R154, R159, R167, R182: the fault record of each
station: a drive's has its hoist, the load and the phase as the fault finds them, and the last reported position on
the axis of the motion in flight, else of the lift; a scale's the same but for the attempt count; the skimmer's those
of the hoist being swept, if one is; THERMO's and LEVEL's none. The bits 0 to 5 of a station's mask mask the codes 2
to 7. A report fits the station that makes its kind, within its widths. R65, R66, R158, R160: a command of the
skimmer that ends done or masked brings the polls of a sweep's end: a sweep's own, or the abort's where one was asked
for. R30, R32, R71, R76, R97, R166, R171: a field fault at its owner. A drive fault holds a hoist of the dip cycle,
one raising or one jogging, the overdue of its motion still to be taken where its limit has passed; ends a recovery
in the bath; and changes nothing of one idle, HELD or DISABLED. A scale's is a bad sample, THERMO's four invalid
channels, LEVEL's nothing more. The model's choices in it: log entries 14, 16, 17, 26, 33, 40. -/
def Obligations.FinalCodeIsDoneMaskedOrAFault : Prop :=
  (∀ (st : Station) (s s' : State) (x : StationState) (t : Transaction) (code : Nat), x = s.station st →
      s.active = true → x.trans = some t → t.stage = .onLine →
      (s' = setStation st { x with accum := x.accum.set code true, trans := none, lastCode := some code } s) →
      (∀ rep, code = 0 → t.kind = .poll → reportFits st rep = true →
        exec (.fieldAnswerReceived st code rep) s = .next (endEvent (deliverReport st rep s'))) ∧
      (∀ rep, code = 0 → st ≠ .skimmer → (∃ d, t.kind = .command d) → (st = .driveA ∨ st = .driveB) →
        exec (.fieldAnswerReceived st code rep) s = .next (endEvent s')) ∧
      (∀ rep, 3 ≤ code → code ≤ 5 → s.masked st code = false →
        exec (.fieldAnswerReceived st code rep) s =
          .next (endEvent (deliverFault st code (capture (stationFault s' st code t.kind (t.attempts + 1)) s')))) ∧
      (∀ rep, code = 2 → s.masked st code = true → st = .driveA ∨ st = .driveB → t.kind = .poll →
        reportFits st rep = true →
        exec (.fieldAnswerReceived st code rep) s = .next (endEvent (deliverReport st rep s'))) ∧
      (∀ rep, 3 ≤ code → code ≤ 5 → s.masked st code = true → (st = .scaleA ∨ st = .scaleB ∨ st = .level) →
        t.kind = .poll →
        exec (.fieldAnswerReceived st code rep) s =
          .next (endEvent (if st = .scaleA then badSample .A s' else if st = .scaleB then badSample .B s' else s'))) ∧
      (code = 6 → t.attempts = 3 → s.masked st code = false →
        exec (.fieldNoAnswer st) s =
          .next (endEvent (deliverFault st code (capture (stationFault s' st code t.kind 4) s')))) ∧
      (∀ rep, code = 1 → t.attempts = 3 →
        exec (.fieldAnswerReceived st code rep) s =
          .next (endEvent (deliverFault st code (capture (stationFault s' st code t.kind 4) s'))))) ∧
  (∀ (st : Station) (s s' : State) (x : StationState) (t : Transaction) (c : Instr) (code : Nat), x = s.station st →
      s.active = true → x.trans = some t → t.stage = .onLine →
      (s' = setStation st { x with accum := x.accum.set code true, trans := none, lastCode := some code } s) →
      (∃ rep, c = .fieldAnswerReceived st code rep ∧ 2 ≤ code ∧ code ≤ 5 ∧
          (code = 2 → t.kind = .poll → (st = .driveA ∨ st = .driveB) →
            reportFits st rep = true ∧ s.masked st 2 = false)) ∨
        (c = .fieldNoAnswer st ∧ code = 6 ∧ 3 ≤ t.attempts) ∨
        (∃ n rep, c = .fieldAnswerReceived st n rep ∧ code = 7 ∧
          (n = 6 ∨ n = 7 ∨ (t.kind = .poll ∧ reportFits st rep = false ∧
            (n = 0 ∨ (n = 2 ∧ (st = .driveA ∨ st = .driveB)))))) →
      (s.masked st code = false →
        exec c s =
          .next (endEvent (deliverFault st code (capture (stationFault s' st code t.kind (t.attempts + 1)) s')))) ∧
      (s.masked st code = true →
        (t.kind = .poll → exec c s = .next (endEvent
          (match st with
            | .scaleA => badSample .A s'
            | .scaleB => badSample .B s'
            | .thermo => thermoEnd (List.replicate 4 { reading := none, valid := false }) s'
            | _ => s'))) ∧
        (∀ d, t.kind = .command d → st ≠ .skimmer → exec c s = .next (endEvent s')))) ∧
  ((∀ (h : Hoist) (code n : Nat) (k : TransKind) (s : State),
      stationFault s (driveOf h) code k n =
        { cause := .station (driveOf h) code, trans := some k.name, hoist := some h, load := (s.seq h).load,
          phase := some (s.seq h).phase,
          data := if (s.seq h).motion.map Motion.axis = some .travel then (s.seq h).travel else (s.seq h).lift,
          time := s.link.clock } ∧
      stationFault s (scaleOf h) code k n =
        { cause := .station (scaleOf h) code, trans := some k.name, hoist := some h, load := (s.seq h).load,
          phase := some (s.seq h).phase, data := some (n : Int), time := s.link.clock } ∧
      (∀ w, s.skimmer.sweep = some w → w.hoist = some h →
        stationFault s .skimmer code k n =
          { cause := .station .skimmer code, trans := some k.name, hoist := some h, load := (s.seq h).load,
            phase := some (s.seq h).phase, data := some (n : Int), time := s.link.clock }) ∧
      (∀ st, (st = .skimmer ∧ ∀ w, s.skimmer.sweep = some w → w.hoist = none) ∨ st = .thermo ∨ st = .level →
        stationFault s st code k n =
          { cause := .station st code, trans := some k.name, hoist := none, load := none, phase := none,
            data := some (n : Int), time := s.link.clock })) ∧
    (∀ (axis : Axis) (a b : Int), TransKind.poll.name = .poll ∧ (TransKind.command (.move axis a b)).name = .move ∧
      (TransKind.command .stop).name = .stop ∧ (TransKind.command (.sweep a b)).name = .sweep ∧
      (TransKind.command .abort).name = .abort) ∧
    [Station.driveA, .driveB, .scaleA, .scaleB, .skimmer, .thermo, .level].map Station.number = [1, 2, 3, 4, 5, 6, 7] ∧
    (∀ (st : Station) (code : Nat) (s : State), s.masked st code = true ↔
      2 ≤ code ∧ code ≤ 7 ∧ (s.setting (29 + st.number)).toNat / 2 ^ (code - 2) % 2 = 1) ∧
    ∀ (st : Station) (rep : FieldReport), reportFits st rep = true ↔
      (∃ l y rest, rep = .drive l y rest ∧ (st = .driveA ∨ st = .driveB)) ∨
      (∃ x, rep = .scale x ∧ (st = .scaleA ∨ st = .scaleB) ∧ -8388608 ≤ x ∧ x ≤ 8388607) ∨
      (∃ rest, rep = .skimmer rest ∧ st = .skimmer) ∨
      (∃ c1 c2 c3 c4, rep = .thermo c1 c2 c3 c4 ∧ st = .thermo ∧ ∀ c ∈ [c1, c2, c3, c4], c.code ≤ 7) ∨
      (∃ d, rep = .level d ∧ st = .level)) ∧
  (∀ (s s' : State) (x : StationState) (t : Transaction) (d : Command) (code : Nat) (c : Instr),
      x = s.station .skimmer → s.active = true → x.trans = some t → t.stage = .onLine → t.kind = .command d →
      (s' = setStation .skimmer { x with accum := x.accum.set code true, trans := none, lastCode := some code } s) →
      (∃ rep, c = .fieldAnswerReceived .skimmer code rep ∧
          (code = 0 ∨ (2 ≤ code ∧ code ≤ 5 ∧ s.masked .skimmer code = true))) ∨
        (c = .fieldNoAnswer .skimmer ∧ code = 6 ∧ 3 ≤ t.attempts ∧ s.masked .skimmer 6 = true) →
      (∀ w a b, s.skimmer.mode = .sweeping → s.skimmer.sweep = some w → d = .sweep a b →
        exec c s = .next (endEvent { s' with skimmer := { s.skimmer with pollsBegun := true } })) ∧
      (∀ w, s.skimmer.mode = .sweeping → s.skimmer.sweep = some w → d = .abort →
        exec c s = .next (endEvent
          { s' with skimmer := { s.skimmer with pollsBegun := s.skimmer.pollsBegun || w.abort } })) ∧
      (s.skimmer.mode ≠ .sweeping → exec c s = .next (endEvent s'))) ∧
  (∀ (h : Hoist) (s : State) (q : Sequencer), q = s.seq h →
      (q.phase ∈ [Phase.idle, .held, .disabled] → driveFault h s = s) ∧
      (q.phase ∈ Phase.dipCycle ++ [.raising, .jogging] →
        (q.motion = none → driveFault h s =
          setSeq h
            { q with phase := .held, heldPhase := if q.phase = .jogging then q.heldPhase else some q.phase,
                     vibratorOn := false }
            (setEng h { s.eng h with weigh := none } s)) ∧
        (∀ m, q.motion = some m → driveFault h s =
          setSeq h
            { q with phase := .held, heldPhase := if q.phase = .jogging then q.heldPhase else some q.phase,
                     motion := none, vibratorOn := false,
                     lateAxis := if m.limit ≤ m.elapsed then some m.axis else q.lateAxis }
            (setEng h { s.eng h with weigh := none } (sendCommand (driveOf h) .stop s)))) ∧
      (∀ id, q.phase = .recover → q.load = some id →
        driveFault h s =
          raise .recoveredInBath (some h) (some id) q.lift none
            (setSeq h { q with phase := .held, heldPhase := some .withdraw, recoverWait := none }
              (withLoad id (fun l => { l with
                flags := { l.flags with interrupted := true, nonconforming := true } }) s))) ∧
      ∀ code, deliverFault (driveOf h) code s = driveFault h s ∧ deliverFault (scaleOf h) code s = badSample h s ∧
        deliverFault .skimmer code s = skimmerFault code s ∧
        deliverFault .thermo code s = thermoEnd (List.replicate 4 { reading := none, valid := false }) s ∧
        deliverFault .level code s = s)

/-- R161, R162: the free line takes the due transaction of the first group, of the earliest due time in it, of the first
station among equals; a stop removes a waiting move and joins unless one waits, a move replaces a waiting move. R162:
a block that asks for a command asks the station's queue, as of the instant. A stop, or an abort, removes every
waiting move or sweep and joins unless one of its kind waits; a move or sweep joins behind a waiting stop or abort in
place of a waiting move or sweep; of the station only its queue and its transaction may change. R80: the kettle is
disturbed exactly while a hoist carries a load and its last reported lift position is unknown or not at or above its
p_clr, or the skimmer is SWEEPING; a hoist with no load does not disturb it, nor does the skimmer in IDLE or
OUT_OF_SERVICE. R80, R160: what the end of an event changes. While the kettle is disturbed the settle count is 0 and
the state DISTURBED; of the rest only the field line may move: a poll whose condition has ended is dropped, a
transaction already in progress stays, and no station's codes change. R80, R160, R161: the end of an event is the
kettle agreed, the polls of stations whose condition has ended dropped, and then the line's choice, with nothing else
changed but the instant. The choice puts one attempt of one station on a free line: a retry that is due, else the
head of the command queue, else the poll; the other stations stand as they stood. A retry that is due keeps its
command's group, a poll's is the polls', with the time at which it fell due; an attempt on the line, or one whose
retry is not due, is not begun. R162, R171: what asking for a command does to a transaction in progress: an attempt
on the line stays; a poll that waits for its retry is abandoned by any command, a move or sweep that waits for it by
a stop or abort; a command whose retry has fallen due stays, to be tried once more; a stop or abort stays. The
model's choices in it: log entries 9, 41. -/
def Obligations.LineServesItsGroupsAndEventsEnd : Prop :=
  ((∀ s : State,
      (s.nextStation = none → ∀ st, (s.station st).candidate = none) ∧
      (∀ st, s.nextStation = some st → ∃ c, (s.station st).candidate = some c ∧
        ∀ st' c', (s.station st').candidate = some c' →
          c.1 < c'.1 ∨ (c.1 = c'.1 ∧ (c.2 < c'.2 ∨ (c.2 = c'.2 ∧ st.number ≤ st'.number)))) ∧
      (s.lineFree = false → arbitrate s = s) ∧
      (∀ st, s.lineFree = true → s.nextStation = some st → ((arbitrate s).station st).onLine = true)) ∧
    (∀ (x : StationState) (w : WaitingCommand), x.trans = none →
      (w.cmd = .stop ∨ w.cmd = .abort → x.cmds.head? = some w → x.candidate = some (1, w.due)) ∧
      (w.cmd ≠ .stop → w.cmd ≠ .abort → x.cmds.head? = some w → x.candidate = some (2, w.due))) ∧
    (∀ x : StationState, x.trans = none → x.cmds = [] → x.candidate = x.pollDue.map (fun d => (3, d))) ∧
    ∀ (x : StationState) (now : Nat) (a t v : Int) (axis : Axis),
      ((∀ w ∈ x.cmds, w.cmd ≠ .stop ∧ w.cmd ≠ .abort) → (x.ask .stop now).cmds = [{ cmd := .stop, due := now }] ∧
        (x.ask (.move axis t v) now).cmds = [{ cmd := .move axis t v, due := now }] ∧
        (x.ask .abort now).cmds = [{ cmd := .abort, due := now }] ∧
        (x.ask (.sweep a t) now).cmds = [{ cmd := .sweep a t, due := now }]) ∧
      (∀ d, x.cmds = [{ cmd := .stop, due := d }] → (x.ask .stop now).cmds = x.cmds ∧
        (x.ask (.move axis t v) now).cmds = x.cmds ++ [{ cmd := .move axis t v, due := now }]) ∧
      (x.ask .stop now).lastCode = x.lastCode ∧ (x.ask .stop now).accum = x.accum) ∧
  ((∀ (st : Station) (c : Command) (s : State),
      sendCommand st c s = setStation st ((s.station st).ask c s.field.instant) s) ∧
    ∀ (x : StationState) (c : Command) (now : Nat) (halts : List WaitingCommand),
      (halts = x.cmds.filter (fun w => decide (w.cmd = .stop ∨ w.cmd = .abort))) →
      (c = .stop ∨ c = .abort → halts = [] → (x.ask c now).cmds = [{ cmd := c, due := now }]) ∧
      (c = .stop ∨ c = .abort → halts ≠ [] → (x.ask c now).cmds = halts) ∧
      (c ≠ .stop → c ≠ .abort → (x.ask c now).cmds = halts ++ [{ cmd := c, due := now }]) ∧
      x.ask c now = { x with cmds := (x.ask c now).cmds, trans := (x.ask c now).trans } ∧
      (x.trans = none → (x.ask c now).trans = none)) ∧
  (∀ s : State,
      (s.disturbed = true ↔
        (∃ h, (s.seq h).load ≠ none ∧
          ¬ ∃ x c, (s.seq h).lift = some x ∧ (s.seq h).pClr = some c ∧ c ≤ x) ∨
        s.skimmer.mode = .sweeping) ∧
      (∀ h x c, (s.seq h).load ≠ none → (s.seq h).lift = some x → (s.seq h).pClr = some c → x < c → s.disturbed = true) ∧
      (∀ h, (s.seq h).load ≠ none → (s.seq h).lift = none → s.disturbed = true)) ∧
  (∀ s : State, ∃ f : FieldLine,
      endEvent s =
        { s with
          field := f
          bath := if s.disturbed then { s.bath with quiet := false, settle := 0 } else s.bath } ∧
      f.instant = s.field.instant + 1 ∧
      ∀ st : Station,
        ((endEvent s).station st).lastCode = (s.station st).lastCode ∧
        ((endEvent s).station st).accum = (s.station st).accum ∧
        (s.lineFree = false →
          ((endEvent s).station st).trans = (s.station st).trans ∧
          ((endEvent s).station st).cmds = (s.station st).cmds) ∧
        ((endEvent s).polled st = false → ((endEvent s).station st).pollDue = none)) ∧
  ((∀ s v u : State,
      (v = { s with bath := if s.disturbed then { s.bath with quiet := false, settle := 0 } else s.bath }) →
      (u = { v with field := { s.field with
        driveA := { s.field.driveA with pollDue := if v.polled .driveA then s.field.driveA.pollDue else none }
        driveB := { s.field.driveB with pollDue := if v.polled .driveB then s.field.driveB.pollDue else none }
        scaleA := { s.field.scaleA with pollDue := if v.polled .scaleA then s.field.scaleA.pollDue else none }
        scaleB := { s.field.scaleB with pollDue := if v.polled .scaleB then s.field.scaleB.pollDue else none }
        skimmer := { s.field.skimmer with pollDue := if v.polled .skimmer then s.field.skimmer.pollDue else none }
        thermo := { s.field.thermo with pollDue := if v.polled .thermo then s.field.thermo.pollDue else none }
        level := { s.field.level with pollDue := if v.polled .level then s.field.level.pollDue else none } } }) →
      endEvent s = { arbitrate u with field := { (arbitrate u).field with instant := s.field.instant + 1 } }) ∧
    (∀ s : State,
      (s.lineFree = true ↔ ∀ st t, (s.station st).trans = some t → t.stage ≠ .onLine) ∧
      (s.lineFree = false ∨ s.nextStation = none → arbitrate s = s) ∧
      (∀ st x, s.lineFree = true → s.nextStation = some st → x = s.station st →
        (∀ t, x.trans = some t → arbitrate s = setStation st { x with trans := some { t with stage := .onLine } } s) ∧
        (∀ w rest, x.trans = none → x.cmds = w :: rest → arbitrate s = setStation st
          { x with cmds := rest, trans := some { kind := .command w.cmd, attempts := 0, stage := .onLine } } s) ∧
        (x.trans = none → x.cmds = [] → arbitrate s = setStation st
          { x with pollDue := none, trans := some { kind := .poll, attempts := 0, stage := .onLine } } s))) ∧
    (∀ (x : StationState) (t : Transaction), x.trans = some t →
      (∀ due, t.stage = .retryDue due →
        (t.kind = .poll → x.candidate = some (3, due)) ∧
        (∀ c, t.kind = .command c → x.candidate = some (if c = .stop ∨ c = .abort then 1 else 2, due))) ∧
      (t.stage = .onLine ∨ t.stage = .awaitRetry → x.candidate = none))) ∧
  (∀ (x : StationState) (t : Transaction) (c : Command) (now : Nat), x.trans = some t →
      (t.stage = .onLine → (x.ask c now).trans = some t) ∧
      (t.kind = .poll → t.stage ≠ .onLine → (x.ask c now).trans = none) ∧
      (∀ d, t.kind = .command d → d ≠ .stop → d ≠ .abort → t.stage = .awaitRetry →
        (c = .stop ∨ c = .abort → (x.ask c now).trans = none) ∧
        (c ≠ .stop → c ≠ .abort → (x.ask c now).trans = some t)) ∧
      (∀ d, t.kind = .command d → d = .stop ∨ d = .abort → (x.ask c now).trans = some t) ∧
      (∀ d due, t.kind = .command d → t.stage = .retryDue due → (x.ask c now).trans = some t))

/-- R4, R10, R13, R18, R21, R22, R32, R163: a drive report updates the positions; at rest within 5 mm of the target of
the motion in flight it is its arrival, and the phase moves on. R2, R18, R19, R20, R21, R32, R118, R123: the arrivals
of a load never admitted: from WITHDRAW it travels out, and at its station the load is REGISTERED again and the span
released; in recovery at or above p_clr it travels out with its span, or its dip ends. An admitted load's WITHDRAW
arrives in DRAIN with the vibrator off where its time is 0, and in WEIGH_OUT where the drain's is 0 too; a return to
p_clr in DRAIN or WEIGH_OUT goes on there; a travel kept back sets out when the lift is reported clear. R2, R10, R13,
R14, R21, R24, R163: a report with no motion in flight updates the positions alone, but for a travel kept back while
the lift was not clear, which sets out, or has arrived, when the lift is reported clear. The arrival of ENTRY enters
IMMERSE with the countdown, and sends the skim request where that stands at or below the lead; a return to p_imm in
IMMERSE or AWAIT_SKIM ends there. The model's choices in it: log entries 10, 22. -/
def Obligations.DriveReportBringsTheArrival : Prop :=
  (∀ (h : Hoist) (x y : Int) (rest : Bool) (s : State) (q q' : Sequencer), q = s.seq h →
      (q' = { q with lift := some x, travel := some y }) →
      (q.phase = .disabled → driveReport h x y rest s = s) ∧
      (∀ (m : Motion) (p : Int), q.motion = some m → q'.position m.axis = some p → q.phase ≠ .disabled → q.phase ≠ .recover →
        (rest = false ∨ 5 < |m.target - p| →
          driveReport h x y rest s = setSeq h q' s) ∧
        (rest = true → |m.target - p| ≤ 5 →
          (q.phase = .travelIn →
            driveReport h x y rest s = trial h (setSeq h { q' with motion := none, phase := .awaitAdmit } s)) ∧
          (∀ l, q.phase = .entry → s.latched h = some l → s.skimLead < l.tImm →
            driveReport h x y rest s =
              setSeq h { q' with motion := none, phase := .immerse, countdown := some l.tImm } s) ∧
          (∀ l, q.phase = .withdraw → s.latched h = some l → 0 < l.vibrate →
            driveReport h x y rest s =
              setSeq h { q' with motion := none, phase := .drain, vibrate := some l.vibrate, drain := some l.drain,
                                 vibratorOn := true } s) ∧
          (q.phase = .jogging → driveReport h x y rest s = setSeq h { q' with motion := none, phase := .held } s) ∧
          (q.phase = .raising →
            driveReport h x y rest s =
              setSeq h { q' with motion := none, phase := .held, heldPhase := some .drain } s) ∧
          (∀ id r, q.phase = .travelOut → q.load = some id →
            s.records.loads.find? (fun r => r.id == id) = some r → r.latched ≠ none →
            (∀ l ∈ s.records.loads, l.id = id → l = r) →
            driveReport h x y rest s = placeClaims
              (setSeq h (Sequencer.cleared q')
                { s with
                  arbiter := { s.arbiter with
                    spans := s.arbiter.spans.filter (fun p => !decide (p.owner = .hoist h)) }
                  records := { s.records with
                    loads := s.records.loads.map (fun l =>
                      if l.id = id then { l with state := .complete, hoist := none, span := none } else l)
                    jigs := s.records.jigs.map (fun j =>
                      if j.carriedBy = some id then { j with carriedBy := none } else j) } })))) ∧
      (∀ id c, q.phase = .recover → q.load = some id → q.pClr = some c →
        (rest = false → driveReport h x y rest s = setSeq h q' s) ∧
        (rest = true → x < c →
          driveReport h x y rest s =
            raise .recoveredInBath (some h) (some id) (some x) none
              (setSeq h { q' with phase := .held, heldPhase := some .withdraw, recoverWait := none }
                (withLoad id (fun l => { l with
                  flags := { l.flags with interrupted := true, nonconforming := true } }) s))) ∧
        (rest = true → c ≤ x → (s.latched h).isSome = true →
          driveReport h x y rest s =
            setSeq h { q' with phase := .held, heldPhase := some .weighOut, recoverWait := none }
              (withLoad id (fun l => { l with flags := { l.flags with interrupted := true } }) s)))) ∧
  (∀ (h : Hoist) (id : Nat) (x y pc : Int) (rest : Bool) (s ended : State) (q q' : Sequencer), q = s.seq h →
      (q' = { q with lift := some x, travel := some y }) → q.load = some id → q.pClr = some pc →
      (ended = setSeq h (Sequencer.cleared q')
        { s with records := { s.records with
          loads := s.records.loads.map (fun l =>
            if l.id = id ∧ l.latched = none then
              { l with state := .registered, hoist := none, span := none, wIn := none,
                       flags := { l.flags with unweighedIn := false } }
            else if l.id = id then { l with state := .complete, hoist := none, span := none }
            else l)
          jigs := s.records.jigs.map (fun j => if j.carriedBy = some id then { j with carriedBy := none } else j) } }) →
      (∀ (m : Motion) (p : Int), q.motion = some m → q'.position m.axis = some p → rest = true → |m.target - p| ≤ 5 →
        (q.phase = .withdraw → s.latched h = none →
          (x < pc → driveReport h x y rest s = setSeq h { q' with motion := none, phase := .travelOut } s) ∧
          (pc ≤ x → 5 < |s.stationPosition h - y| → driveReport h x y rest s =
            moving h .travel (s.stationPosition h) (s.setting 13) y
              (setSeq h { q' with motion := none, phase := .travelOut } s))) ∧
        (∀ l, q.phase = .withdraw → s.latched h = some l → l.vibrate = 0 →
          (0 < l.drain → driveReport h x y rest s =
            setSeq h { q' with motion := none, phase := .drain, vibrate := some 0, drain := some l.drain,
                               vibratorOn := false } s) ∧
          (l.drain = 0 → driveReport h x y rest s =
            enterWeighOut h (setSeq h { q' with motion := none, phase := .drain, vibrate := some 0, drain := some 0 } s))) ∧
        (∀ v d, q.phase = .drain → q.vibrate = some v → q.drain = some d →
          (0 < v ∨ 0 < d → driveReport h x y rest s =
            setSeq h { q' with motion := none, vibratorOn := decide (0 < v) } s) ∧
          (v = 0 → d = 0 → driveReport h x y rest s = enterWeighOut h (setSeq h { q' with motion := none } s))) ∧
        (q.phase = .weighOut → driveReport h x y rest s = enterWeighOut h (setSeq h { q' with motion := none } s)) ∧
        (q.phase = .travelOut → driveReport h x y rest s = placeClaims
          { ended with arbiter := { s.arbiter with
            spans := s.arbiter.spans.filter (fun p => !decide (p.owner = .hoist h)) } })) ∧
      (q.phase = .travelOut → q.motion = none → pc ≤ x → 5 < |s.stationPosition h - y| →
        driveReport h x y rest s = moving h .travel (s.stationPosition h) (s.setting 13) y (setSeq h q' s)) ∧
      (q.phase = .recover → rest = true → pc ≤ x → s.latched h = none →
        (s.arbiter.spanOf (.hoist h) = none → driveReport h x y rest s = ended) ∧
        (s.arbiter.spanOf (.hoist h) ≠ none → 5 < |s.stationPosition h - y| → driveReport h x y rest s =
          moving h .travel (s.stationPosition h) (s.setting 13) y
            (setSeq h { q' with phase := .travelOut, recoverWait := none } s)))) ∧
  (∀ (h : Hoist) (x y : Int) (rest : Bool) (s : State) (q q' : Sequencer), q = s.seq h →
      (q' = { q with lift := some x, travel := some y }) →
      (q.motion = none → q.phase ∉ [Phase.disabled, .recover] →
        (q.phase ∉ [Phase.travelIn, .travelOut] ∨ (∀ pc, q.pClr = some pc → x < pc) →
          driveReport h x y rest s = setSeq h q' s) ∧
        (∀ pc c, q.phase = .travelIn → q.pClr = some pc → pc ≤ x → q.centre = some c →
          (5 < |c - y| → driveReport h x y rest s = moving h .travel c (s.setting 13) y (setSeq h q' s)) ∧
          (|c - y| ≤ 5 → driveReport h x y rest s = trial h (setSeq h { q' with phase := .awaitAdmit } s))) ∧
        (∀ pc id, q.phase = .travelOut → q.pClr = some pc → pc ≤ x → q.load = some id →
          |s.stationPosition h - y| ≤ 5 → driveReport h x y rest s = placeClaims
            (setSeq h (Sequencer.cleared q')
              { s with
                arbiter := { s.arbiter with spans := s.arbiter.spans.filter (fun p => !decide (p.owner = .hoist h)) }
                records := { s.records with
                  loads := s.records.loads.map (fun l =>
                    if l.id = id ∧ l.latched = none then
                      { l with state := .registered, hoist := none, span := none, wIn := none,
                               flags := { l.flags with unweighedIn := false } }
                    else if l.id = id then { l with state := .complete, hoist := none, span := none }
                    else l)
                  jigs := s.records.jigs.map (fun j =>
                    if j.carriedBy = some id then { j with carriedBy := none } else j) } }))) ∧
      (∀ (m : Motion) (p : Int), q.motion = some m → q'.position m.axis = some p → rest = true → |m.target - p| ≤ 5 →
        (∀ l, q.phase = .entry → s.latched h = some l → driveReport h x y rest s =
          sendSkimAtLead h (setSeq h { q' with motion := none, phase := .immerse, countdown := some l.tImm } s)) ∧
        (q.phase = .immerse ∨ q.phase = .awaitSkim →
          driveReport h x y rest s = setSeq h { q' with motion := none } s)))

/-- R97, R99, R100, R101, R102, R103: a bad sample empties the window; a good one joins it; a complete window gives the
mean, the spread and the weight, a stable one ends the weigh, and another replaces the best only with a smaller
spread. R8, R20, R50, R100, R130: a stable weigh-in's weight is written as W_in with its range flag, and the hoist's
claim joins the queue, tried at once where the queue was empty; a stable weigh-out's is written as W_out, but for a
load already posted, and the load is posted and travels out; in another phase the weight is not taken. R66, R76, R81,
R85, R100, R158: the report of a poll goes to the block that asked for it: a drive's to its sequencer, a scale's to
its engine, the skimmer's at rest to its arbiter, the thermometer's and the level gauge's to the Bath Monitor; where
the depth changes, the trials of R85 come after the event's other acts (the model's deduction, log entry 20). The
model's choices in it: log entries 20, 29, 47. -/
def Obligations.SamplesFillAndJudgeTheWindow : Prop :=
  (∀ (h : Hoist) (w : Weigh) (s : State) (v : Int), (s.eng h).weigh = some w →
      badSample h s =
        setEng h { s.eng h with weigh := some { w with window := [], bad := w.bad + 1 } } s ∧
      (w.window.length + 1 < w.size →
        goodSample h v s = (setEng h { s.eng h with weigh := some { w with window := w.window ++ [v] } } s, none)) ∧
      (∀ (mean spread wt : Int) (rg : Option RangeFlag) (last : LastWindow),
        w.window.length + 1 = w.size → 0 < w.size →
        (mean = ((w.window ++ [v]).sum + ((w.size / 2 : Nat) : Int)) / (w.size : Int)) →
        (∃ hi ∈ w.window ++ [v], ∃ lo ∈ w.window ++ [v],
          (∀ z ∈ w.window ++ [v], lo ≤ z ∧ z ≤ hi) ∧ spread = hi - lo) →
        (wt = ((mean - s.scaleZero h) * s.spanFactor h + 32768) / 65536) →
        (rg = if wt < 0 then some .under else if 200000 < wt then some .over else none) →
        (last = { kind := w.kind, size := w.size, mean := mean, spread := spread, stable := decide (spread ≤ w.band),
                  weight := min wt.toNat 200000, range := rg, time := s.link.clock }) →
        (spread ≤ w.band →
          goodSample h v s =
            (setEng h { weigh := none, last := some last } s, some (w.kind, min wt.toNat 200000, rg))) ∧
        (w.band < spread → ∃ b,
          goodSample h v s =
            (setEng h { weigh := some { w with window := [], best := some b, completed := w.completed + 1 }
                        last := some last } s, none) ∧
          (w.best = none → b = { mean := mean, spread := spread, time := s.link.clock }) ∧
          (∀ o, w.best = some o → b = if spread < o.spread then
            { mean := mean, spread := spread, time := s.link.clock } else o)))) ∧
  (∀ (h : Hoist) (v : Int) (id w : Nat) (rg : Option RangeFlag) (s s' : State) (r : LoadRec) (f : LoadFlags → LoadFlags),
      (s.seq h).load = some id → s.records.loads.find? (fun r => r.id == id) = some r →
      (f = fun b => { b with overRange := b.overRange || decide (rg = some .over),
                             underRange := b.underRange || decide (rg = some .under) }) →
      (goodSample h v s = (s', none) → scaleReading h v s = s') ∧
      (∀ u, goodSample h v s = (s', some (.weighIn, w, rg)) →
        (u = setSeq h { s.seq h with phase := .awaitSpan }
          (withLoad id (fun l => { l with wIn := some w, flags := f l.flags })
            { s' with arbiter := { s.arbiter with queue := s.arbiter.queue ++
              [{ claimant := .hoist h, need := .length r.zones, joined := s.link.clock }] } })) →
        ((s.seq h).phase = .weighIn → s.arbiter.queue ≠ [] → scaleReading h v s = u) ∧
        ((s.seq h).phase = .weighIn → s.arbiter.queue = [] → scaleReading h v s = placeClaims u) ∧
        ((s.seq h).phase ≠ .weighIn → scaleReading h v s = s')) ∧
      (goodSample h v s = (s', some (.weighOut, w, rg)) →
        ((s.seq h).phase ≠ .weighOut → scaleReading h v s = s') ∧
        (∀ x y pc, (s.seq h).phase = .weighOut → (s.seq h).lift = some x → (s.seq h).pClr = some pc → pc ≤ x →
          (s.seq h).travel = some y → 5 < |s.stationPosition h - y| →
          scaleReading h v s = postedAndAway h y
            (withLoad id (fun l => if l.postingTime.isSome then l else { l with wOut := some w, flags := f l.flags }) s')))) ∧
  (∀ (h : Hoist) (s : State),
      (∀ l y rest, deliverReport (driveOf h) (.drive l y rest) s = driveReport h l y rest s) ∧
      (∀ x, deliverReport (scaleOf h) (.scale x) s = withTrials s (scaleReading h x s)) ∧
      deliverReport .skimmer (.skimmer true) s = skimmerAtRest s ∧
      deliverReport .skimmer (.skimmer false) s = s ∧
      (∀ c1 c2 c3 c4, deliverReport .thermo (.thermo c1 c2 c3 c4) s =
        thermoEnd [judgeChannel c1, judgeChannel c2, judgeChannel c3, judgeChannel c4] s) ∧
      (∀ d, deliverReport .level (.level d) s = withTrials s (levelAnswer d s)))

/-- R76, R77, R78, R85: the end of a THERMO poll sets the temperature from the valid channels, the mean of two or more
rounded half up, else UNKNOWN with TEMP_UNKNOWN where it was known or the poll is the first; then the loads are
tried. R81, R82, R83, R143, R146, R152: a valid level answer of a quiet kettle becomes the quiet reading and
completes a pending reconciliation, with its result and its notice, a rebase setting the book to the measured mass
and entering the period's adjustment, which saturates; any other answer changes nothing. The model's choices in it:
log entries 46, 52. -/
def Obligations.ThermoAndLevelAnswers : Prop :=
  ((∀ c : Channel, (judgeChannel c).reading = some c.reading ∧
      ((judgeChannel c).valid = true ↔ c.code = 0 ∧ 3000 ≤ c.reading ∧ c.reading ≤ 6000)) ∧
    ∀ (cs : List ChannelView) (s : State) (rs : List Int) (n : Nat),
      (rs = cs.filterMap (fun c => if c.valid then c.reading else none)) → n = rs.length →
      (n < 2 →
        (s.bath.temp ≠ none ∨ s.bath.polled = false →
          thermoEnd cs s = tryWaiting (raise .tempUnknown none none (some (n : Int)) none
            { s with bath := { s.bath with channels := cs, temp := none, polled := true } })) ∧
        (s.bath.temp = none → s.bath.polled = true →
          thermoEnd cs s = tryWaiting { s with bath := { s.bath with channels := cs, temp := none, polled := true } })) ∧
      ∀ t : Int, 2 ≤ n → t = (rs.sum + ((n / 2 : Nat) : Int)) / (n : Int) →
        (s.bath.overArmed = true → s.setting 21 ≤ t →
          thermoEnd cs s = tryWaiting (raise .overTemperature none none (some t) (some (s.setting 21))
            { s with bath := { s.bath with channels := cs, temp := some t, polled := true, overArmed := false } })) ∧
        (s.bath.overArmed = false → t < s.setting 21 - 50 →
          thermoEnd cs s = tryWaiting
            { s with bath := { s.bath with channels := cs, temp := some t, polled := true, overArmed := true } }) ∧
        ((s.bath.overArmed = true ∧ t < s.setting 21) ∨ (s.bath.overArmed = false ∧ s.setting 21 - 50 ≤ t) →
          thermoEnd cs s = tryWaiting
            { s with bath := { s.bath with channels := cs, temp := some t, polled := true } })) ∧
  (∀ (d : Int) (s : State),
      (s.bath.quiet = false ∨ s.bath.temp = none ∨ s.setting 4 - d ≤ 0 ∨ s.setting 3 < s.setting 4 - d →
        levelAnswer d s = s) ∧
      (∀ t, s.bath.temp = some t → t < 4000 ∨ 5500 < t → levelAnswer d s = s) ∧
      ∀ (t : Int) (q : QuietReading), s.bath.quiet = true → s.bath.temp = some t → 4000 ≤ t → t ≤ 5500 →
        0 < s.setting 4 - d → s.setting 4 - d ≤ s.setting 3 →
        (q = { depth := s.setting 4 - d, temp := t, density := 6570 - ((t - 4500) * 11 + 50) / 100,
               length := s.setting 1, width := s.setting 2, book := s.balance.book, time := s.link.clock }) →
        (s.balance.pending = none →
          levelAnswer d s = refreshDepth { s with bath := { s.bath with reading := some q } }) ∧
        (∀ p, s.balance.pending = some p → p.rebase = false → ∃ s',
          levelAnswer d s = refreshDepth { s' with bath := { s.bath with reading := some q } } ∧
          s' = raise .reconciled none none (some 0) (some (s.balance.book - measuredMass q))
            { s with balance := { s.balance with
              pending := none
              last := some { outcome := .done, requested := p.requested, ended := s.link.clock, rebase := false,
                             book := some s.balance.book, mass := some (measuredMass q),
                             residual := some (s.balance.book - measuredMass q), adjustment := none } } }) ∧
        (∀ (p : PendingRecon) (mass adjusted : Int) (spill : Bool), s.balance.pending = some p → p.rebase = true →
          mass = measuredMass q → adjusted = s.balance.current.adjustment + (mass - s.balance.book) →
          (spill = (s.balance.current.overflow || decide (adjusted < -2147483648 ∨ 2147483647 < adjusted))) →
          ∃ s',
            levelAnswer d s = refreshDepth { s' with bath := { s.bath with reading := some { q with book := mass } } } ∧
            s' = raise .reconciled none none (some 0) (some (s.balance.book - mass))
              (saturated 3 s.balance.current.number s.balance.current.overflow spill
                { s with balance := { s.balance with
                  book := mass
                  current := { s.balance.current with
                    adjustment := max (-2147483648) (min 2147483647 adjusted), overflow := spill }
                  pending := none
                  last := some { outcome := .done, requested := p.requested, ended := s.link.clock, rebase := true,
                                 book := some s.balance.book, mass := some mass,
                                 residual := some (s.balance.book - mass),
                                 adjustment := some (mass - s.balance.book) } } })))

/-! ## The laws of the KZ-2 -/

/-- R112: every step keeps the capacities of the tables and their keys single. R3, R21, R22, R32, R118: every step keeps
each load IN_CYCLE on exactly one hoist, which carries it, and each hoist with at most one load, the tables being
lawful. -/
def Obligations.TablesAndCarriedLoadsStayLawful : Prop :=
  (∀ s t : State, s.tablesLawful → step s = .next t → t.tablesLawful) ∧
  (∀ s t : State, s.tablesLawful → s.carryLawful → step s = .next t → t.carryLawful)

/-- R183, R186: every step keeps the notice queue within 32, and the attention lines as the queue, the masks, the strap
and a reset have them. R198, R199: every step keeps it so that a start-up stands short of its last stage only while
the reset or the loss of supply that ends it still waits. The model's choices in it: log entry 24. -/
def Obligations.NoticesAndLinesStayLawful : Prop :=
  (∀ s t : State, s.noticesLawful → step s = .next t → t.noticesLawful) ∧
  (∀ s t : State, s.startsLawful → step s = .next t → t.startsLawful)

/-- R48: every step keeps each zone in at most one granted span and no zone out of service in any. R53: every step keeps
the span of hoist A two zones clear of hoist B's. R47, R49, R50, R53, R56: with the tables and the carried loads
lawful, every step keeps at most one span for each owner, at most one claim for each claimant and none of one that
holds a span; a hoist's claim waits only while the hoist waits for its grant, a hoist's span is the one that the
record of its carried load names; and every span of hoist A stands two zones clear of every span of hoist B. The
model's choices in it: log entry 44. -/
def Obligations.ZonesAndSpansStayLawful : Prop :=
  (∀ s t : State, s.zonesLawful → step s = .next t → t.zonesLawful) ∧
  (∀ s t : State, s.runwayLawful → step s = .next t → t.runwayLawful) ∧
  (∀ s t : State, s.tablesLawful → s.carryLawful → s.claimsLawful → s.runwayLawful → step s = .next t →
      t.claimsLawful ∧
        ∀ p ∈ t.arbiter.spans, ∀ q ∈ t.arbiter.spans, p.owner = .hoist .A → q.owner = .hoist .B → p.last + 2 ≤ q.first)

/-- R193, R194: while the calibration lock is set, no step changes a calibration value or clears the lock, but for a
SUPPLY_ON: the values change only where the check of the retained store fails, and the lock is cleared only there or
with the calibration key asserted. -/
def Obligations.CalibrationHoldsUnderTheLock : Prop :=
  ∀ s t : State, s.settings.lock = true → step s = .next t →
    ((∀ fast single key, s.pending.head? ≠ some (.supplyOn fast single key)) ∨ s.unit.checkGood = true →
      t.calibration = s.calibration) ∧
    ((∀ fast single key, s.pending.head? = some (.supplyOn fast single key) →
        s.unit.checkGood = true ∧ key = false) →
      t.settings.lock = true)

/-- R42, R87, R103: every step keeps the latched immersion times in 30..1200 s, the recorded hook weights in 0..200,000
wu and the throughput window within 64 entries. -/
def Obligations.ImmersionTimesAndWeightsStayInRange : Prop :=
  ∀ s t : State, s.loadsLawful → s.windowLawful → step s = .next t → t.loadsLawful ∧ t.windowLawful

/-- R34, R35, R37, R159, R190, R191: every step keeps each setting and class record in its range. -/
def Obligations.SettingsStayInTheirRanges : Prop :=
  ∀ s t : State, s.settingsLawful → step s = .next t → t.settingsLawful

/-- R138, R147, R150, R152: every step keeps the book, the periods' totals and adjustments, and the closed-period queue
in their ranges, the settings standing in theirs; and the book balances with the open period, and each closing book
with its closed period, while no total of the period has saturated. -/
def Obligations.BookAndPeriodsStayInRange : Prop :=
  ∀ s t : State, s.settingsLawful → s.booksLawful → step s = .next t → t.booksLawful

/-- The state after reset meets every law that the steps keep. R190: ids, defaults and ranges of the settings, and which
are calibration values. The model's choices in it: log entries 1, 2. -/
def Obligations.ResetMeetsEveryLaw : Prop :=
  (State.reset.tablesLawful ∧ State.reset.carryLawful ∧ State.reset.noticesLawful ∧ State.reset.startsLawful ∧ State.reset.zonesLawful ∧ State.reset.runwayLawful ∧ State.reset.claimsLawful ∧
    State.reset.loadsLawful ∧ State.reset.windowLawful ∧ State.reset.settingsLawful ∧ State.reset.booksLawful) ∧
  ((∀ row ∈ ([(1, 14000, 4000, 24000), (2, 1800, 800, 3000), (3, 3200, 1000, 4000), (4, 3600, 1000, 6000),
        (5, 0, -8388608, 8388607), (6, 0, -8388608, 8388607), (7, 3277, 1, 65535), (8, 3277, 1, 65535),
        (9, 400, 200, 1000), (10, 200, 100, 500), (11, 0, 0, 2000), (12, 20000, 16000, 60000), (13, 300, 50, 600),
        (14, 150, 50, 300), (15, 20, 5, 50), (16, 45, 10, 120), (17, 30, 0, 120), (18, 60, 5, 600),
        (19, 4500, 4300, 4700), (20, 4400, 4200, 4600), (21, 4900, 4600, 5200), (22, 2400, 500, 4000),
        (23, 250000, 10000, 1000000), (24, 50000, 1, 200000), (26, 40, 1, 10000), (27, 20, 5, 120), (28, 30, 5, 120),
        (29, 50, 0, 5000), (30, 0, 0, 63), (31, 0, 0, 63), (32, 0, 0, 63), (33, 0, 0, 63), (34, 0, 0, 63),
        (35, 0, 0, 63), (36, 0, 0, 63), (37, 0, 0, 1)] : List (Nat × Int × Int × Int)),
      settingOk row.1 = true ∧ State.reset.setting row.1 = row.2.1 ∧
        State.reset.settingRange row.1 = (row.2.2.1, row.2.2.2) ∧
        (isCalibration row.1 = true ↔ row.1 ≤ 8)) ∧
    (∀ (s : State) (id : Nat), s.settingRange 12 = (2000 + s.setting 1, 60000) ∧
      (id ≠ 12 → s.settingRange id = State.reset.settingRange id)) ∧
    settingOk 25 = true ∧ State.reset.setting 25 = 16 ∧ isCalibration 25 = false ∧
    settingOk 0 = false ∧ settingOk 38 = false)
end

