-- ==== Sys2Proof/Laws/State.lean ====
section
/-! SUPPORT. What each primitive operation of Ops.lean leaves unchanged, one lemma per operation, field by field, and the
read-after-write laws of the hoists' items and of the stations. -/

namespace Sys2Proof.Machine

@[simp] theorem setSeq_frame (h : Hoist) (q : Sequencer) (s : State) :
    (setSeq h q s).unit = s.unit ∧ (setSeq h q s).link = s.link ∧ (setSeq h q s).engA = s.engA ∧
    (setSeq h q s).engB = s.engB ∧ (setSeq h q s).arbiter = s.arbiter ∧ (setSeq h q s).skimmer = s.skimmer ∧
    (setSeq h q s).bath = s.bath ∧ (setSeq h q s).window = s.window ∧ (setSeq h q s).records = s.records ∧
    (setSeq h q s).balance = s.balance ∧ (setSeq h q s).field = s.field ∧ (setSeq h q s).capture = s.capture ∧
    (setSeq h q s).settings = s.settings ∧ (setSeq h q s).free = s.free ∧ (setSeq h q s).pending = s.pending := by cases h <;> simp [setSeq]

@[simp] theorem setEng_frame (h : Hoist) (e : WeighEngine) (s : State) :
    (setEng h e s).unit = s.unit ∧ (setEng h e s).link = s.link ∧ (setEng h e s).seqA = s.seqA ∧
    (setEng h e s).seqB = s.seqB ∧ (setEng h e s).arbiter = s.arbiter ∧ (setEng h e s).skimmer = s.skimmer ∧
    (setEng h e s).bath = s.bath ∧ (setEng h e s).window = s.window ∧ (setEng h e s).records = s.records ∧
    (setEng h e s).balance = s.balance ∧ (setEng h e s).field = s.field ∧ (setEng h e s).capture = s.capture ∧
    (setEng h e s).settings = s.settings ∧ (setEng h e s).free = s.free ∧ (setEng h e s).pending = s.pending := by cases h <;> simp [setEng]

@[simp] theorem modSeq_frame (h : Hoist) (f : Sequencer → Sequencer) (s : State) :
    (modSeq h f s).unit = s.unit ∧ (modSeq h f s).link = s.link ∧ (modSeq h f s).engA = s.engA ∧
    (modSeq h f s).engB = s.engB ∧ (modSeq h f s).arbiter = s.arbiter ∧ (modSeq h f s).skimmer = s.skimmer ∧
    (modSeq h f s).bath = s.bath ∧ (modSeq h f s).window = s.window ∧ (modSeq h f s).records = s.records ∧
    (modSeq h f s).balance = s.balance ∧ (modSeq h f s).field = s.field ∧ (modSeq h f s).capture = s.capture ∧
    (modSeq h f s).settings = s.settings ∧ (modSeq h f s).free = s.free ∧ (modSeq h f s).pending = s.pending := by simp [modSeq]

@[simp] theorem setPhase_frame (h : Hoist) (p : Phase) (s : State) :
    (setPhase h p s).unit = s.unit ∧ (setPhase h p s).link = s.link ∧ (setPhase h p s).engA = s.engA ∧
    (setPhase h p s).engB = s.engB ∧ (setPhase h p s).arbiter = s.arbiter ∧
    (setPhase h p s).skimmer = s.skimmer ∧ (setPhase h p s).bath = s.bath ∧ (setPhase h p s).window = s.window ∧
    (setPhase h p s).records = s.records ∧ (setPhase h p s).balance = s.balance ∧
    (setPhase h p s).field = s.field ∧ (setPhase h p s).capture = s.capture ∧
    (setPhase h p s).settings = s.settings ∧ (setPhase h p s).free = s.free ∧
    (setPhase h p s).pending = s.pending := by
  simp [setPhase]

@[simp] theorem modLoad_frame (id : Nat) (f : LoadRec → LoadRec) (s : State) :
    (modLoad id f s).unit = s.unit ∧ (modLoad id f s).link = s.link ∧ (modLoad id f s).seqA = s.seqA ∧
    (modLoad id f s).seqB = s.seqB ∧ (modLoad id f s).engA = s.engA ∧ (modLoad id f s).engB = s.engB ∧
    (modLoad id f s).arbiter = s.arbiter ∧ (modLoad id f s).skimmer = s.skimmer ∧
    (modLoad id f s).bath = s.bath ∧ (modLoad id f s).window = s.window ∧ (modLoad id f s).balance = s.balance ∧
    (modLoad id f s).field = s.field ∧ (modLoad id f s).capture = s.capture ∧
    (modLoad id f s).settings = s.settings ∧ (modLoad id f s).free = s.free ∧
    (modLoad id f s).pending = s.pending := by
  simp [modLoad]

@[simp] theorem modOrder_frame (n : Nat) (f : OrderRec → OrderRec) (s : State) :
    (modOrder n f s).unit = s.unit ∧ (modOrder n f s).link = s.link ∧ (modOrder n f s).seqA = s.seqA ∧
    (modOrder n f s).seqB = s.seqB ∧ (modOrder n f s).engA = s.engA ∧ (modOrder n f s).engB = s.engB ∧
    (modOrder n f s).arbiter = s.arbiter ∧ (modOrder n f s).skimmer = s.skimmer ∧
    (modOrder n f s).bath = s.bath ∧ (modOrder n f s).window = s.window ∧ (modOrder n f s).balance = s.balance ∧
    (modOrder n f s).field = s.field ∧ (modOrder n f s).capture = s.capture ∧
    (modOrder n f s).settings = s.settings ∧ (modOrder n f s).free = s.free ∧
    (modOrder n f s).pending = s.pending := by
  simp [modOrder]

@[simp] theorem modJig_frame (n : Nat) (f : JigRec → JigRec) (s : State) :
    (modJig n f s).unit = s.unit ∧ (modJig n f s).link = s.link ∧ (modJig n f s).seqA = s.seqA ∧
    (modJig n f s).seqB = s.seqB ∧ (modJig n f s).engA = s.engA ∧ (modJig n f s).engB = s.engB ∧
    (modJig n f s).arbiter = s.arbiter ∧ (modJig n f s).skimmer = s.skimmer ∧ (modJig n f s).bath = s.bath ∧
    (modJig n f s).window = s.window ∧ (modJig n f s).balance = s.balance ∧ (modJig n f s).field = s.field ∧
    (modJig n f s).capture = s.capture ∧ (modJig n f s).settings = s.settings ∧ (modJig n f s).free = s.free ∧
    (modJig n f s).pending = s.pending := by
  simp [modJig]

@[simp] theorem modCarried_frame (h : Hoist) (f : LoadRec → LoadRec) (s : State) :
    (modCarried h f s).unit = s.unit ∧ (modCarried h f s).link = s.link ∧ (modCarried h f s).seqA = s.seqA ∧
    (modCarried h f s).seqB = s.seqB ∧ (modCarried h f s).engA = s.engA ∧ (modCarried h f s).engB = s.engB ∧
    (modCarried h f s).arbiter = s.arbiter ∧ (modCarried h f s).skimmer = s.skimmer ∧
    (modCarried h f s).bath = s.bath ∧ (modCarried h f s).window = s.window ∧
    (modCarried h f s).balance = s.balance ∧ (modCarried h f s).field = s.field ∧
    (modCarried h f s).capture = s.capture ∧ (modCarried h f s).settings = s.settings ∧
    (modCarried h f s).free = s.free ∧ (modCarried h f s).pending = s.pending := by
  unfold modCarried; split <;> simp

@[simp] theorem raise_frame (k : NoticeKind) (hoist : Option Hoist) (load : Option Nat) (d1 d2 : Option Int) (s : State) :
    (raise k hoist load d1 d2 s).unit = s.unit ∧ (raise k hoist load d1 d2 s).seqA = s.seqA ∧
    (raise k hoist load d1 d2 s).seqB = s.seqB ∧ (raise k hoist load d1 d2 s).engA = s.engA ∧
    (raise k hoist load d1 d2 s).engB = s.engB ∧ (raise k hoist load d1 d2 s).arbiter = s.arbiter ∧
    (raise k hoist load d1 d2 s).skimmer = s.skimmer ∧ (raise k hoist load d1 d2 s).bath = s.bath ∧
    (raise k hoist load d1 d2 s).window = s.window ∧ (raise k hoist load d1 d2 s).records = s.records ∧
    (raise k hoist load d1 d2 s).balance = s.balance ∧ (raise k hoist load d1 d2 s).field = s.field ∧
    (raise k hoist load d1 d2 s).capture = s.capture ∧ (raise k hoist load d1 d2 s).settings = s.settings ∧
    (raise k hoist load d1 d2 s).free = s.free ∧ (raise k hoist load d1 d2 s).pending = s.pending := by
  simp [raise]

@[simp] theorem raiseFor_frame (h : Hoist) (k : NoticeKind) (d1 d2 : Option Int) (s : State) :
    (raiseFor h k d1 d2 s).unit = s.unit ∧ (raiseFor h k d1 d2 s).seqA = s.seqA ∧
    (raiseFor h k d1 d2 s).seqB = s.seqB ∧ (raiseFor h k d1 d2 s).engA = s.engA ∧
    (raiseFor h k d1 d2 s).engB = s.engB ∧ (raiseFor h k d1 d2 s).arbiter = s.arbiter ∧
    (raiseFor h k d1 d2 s).skimmer = s.skimmer ∧ (raiseFor h k d1 d2 s).bath = s.bath ∧
    (raiseFor h k d1 d2 s).window = s.window ∧ (raiseFor h k d1 d2 s).records = s.records ∧
    (raiseFor h k d1 d2 s).balance = s.balance ∧ (raiseFor h k d1 d2 s).field = s.field ∧
    (raiseFor h k d1 d2 s).capture = s.capture ∧ (raiseFor h k d1 d2 s).settings = s.settings ∧
    (raiseFor h k d1 d2 s).free = s.free ∧ (raiseFor h k d1 d2 s).pending = s.pending := by
  simp [raiseFor]

@[simp] theorem respond_frame (kind tag : Nat) (a : Answer) (s : State) :
    (respond kind tag a s).unit = s.unit ∧ (respond kind tag a s).seqA = s.seqA ∧
    (respond kind tag a s).seqB = s.seqB ∧ (respond kind tag a s).engA = s.engA ∧
    (respond kind tag a s).engB = s.engB ∧ (respond kind tag a s).arbiter = s.arbiter ∧
    (respond kind tag a s).skimmer = s.skimmer ∧ (respond kind tag a s).bath = s.bath ∧
    (respond kind tag a s).window = s.window ∧ (respond kind tag a s).records = s.records ∧
    (respond kind tag a s).balance = s.balance ∧ (respond kind tag a s).field = s.field ∧
    (respond kind tag a s).capture = s.capture ∧ (respond kind tag a s).settings = s.settings ∧
    (respond kind tag a s).free = s.free ∧ (respond kind tag a s).pending = s.pending := by
  simp [respond]

@[simp] theorem setStation_frame (st : Station) (x : StationState) (s : State) :
    (setStation st x s).unit = s.unit ∧ (setStation st x s).link = s.link ∧ (setStation st x s).seqA = s.seqA ∧
    (setStation st x s).seqB = s.seqB ∧ (setStation st x s).engA = s.engA ∧ (setStation st x s).engB = s.engB ∧
    (setStation st x s).arbiter = s.arbiter ∧ (setStation st x s).skimmer = s.skimmer ∧
    (setStation st x s).bath = s.bath ∧ (setStation st x s).window = s.window ∧
    (setStation st x s).records = s.records ∧ (setStation st x s).balance = s.balance ∧
    (setStation st x s).capture = s.capture ∧ (setStation st x s).settings = s.settings ∧
    (setStation st x s).free = s.free ∧ (setStation st x s).pending = s.pending := by simp [setStation]

@[simp] theorem modStation_frame (st : Station) (f : StationState → StationState) (s : State) :
    (modStation st f s).unit = s.unit ∧ (modStation st f s).link = s.link ∧ (modStation st f s).seqA = s.seqA ∧
    (modStation st f s).seqB = s.seqB ∧ (modStation st f s).engA = s.engA ∧ (modStation st f s).engB = s.engB ∧
    (modStation st f s).arbiter = s.arbiter ∧ (modStation st f s).skimmer = s.skimmer ∧
    (modStation st f s).bath = s.bath ∧ (modStation st f s).window = s.window ∧
    (modStation st f s).records = s.records ∧ (modStation st f s).balance = s.balance ∧
    (modStation st f s).capture = s.capture ∧ (modStation st f s).settings = s.settings ∧
    (modStation st f s).free = s.free ∧ (modStation st f s).pending = s.pending := by
  simp [modStation]

@[simp] theorem sendCommand_frame (st : Station) (c : Command) (s : State) :
    (sendCommand st c s).unit = s.unit ∧ (sendCommand st c s).link = s.link ∧
    (sendCommand st c s).seqA = s.seqA ∧ (sendCommand st c s).seqB = s.seqB ∧
    (sendCommand st c s).engA = s.engA ∧ (sendCommand st c s).engB = s.engB ∧
    (sendCommand st c s).arbiter = s.arbiter ∧ (sendCommand st c s).skimmer = s.skimmer ∧
    (sendCommand st c s).bath = s.bath ∧ (sendCommand st c s).window = s.window ∧
    (sendCommand st c s).records = s.records ∧ (sendCommand st c s).balance = s.balance ∧
    (sendCommand st c s).capture = s.capture ∧ (sendCommand st c s).settings = s.settings ∧
    (sendCommand st c s).free = s.free ∧ (sendCommand st c s).pending = s.pending := by
  simp [sendCommand]

@[simp] theorem pollFallsDue_frame (st : Station) (s : State) :
    (pollFallsDue st s).unit = s.unit ∧ (pollFallsDue st s).link = s.link ∧ (pollFallsDue st s).seqA = s.seqA ∧
    (pollFallsDue st s).seqB = s.seqB ∧ (pollFallsDue st s).engA = s.engA ∧ (pollFallsDue st s).engB = s.engB ∧
    (pollFallsDue st s).arbiter = s.arbiter ∧ (pollFallsDue st s).skimmer = s.skimmer ∧
    (pollFallsDue st s).bath = s.bath ∧ (pollFallsDue st s).window = s.window ∧
    (pollFallsDue st s).records = s.records ∧ (pollFallsDue st s).balance = s.balance ∧
    (pollFallsDue st s).capture = s.capture ∧ (pollFallsDue st s).settings = s.settings ∧
    (pollFallsDue st s).free = s.free ∧ (pollFallsDue st s).pending = s.pending := by
  simp [pollFallsDue]

@[simp] theorem dropPoll_frame (st : Station) (s : State) :
    (dropPoll st s).unit = s.unit ∧ (dropPoll st s).link = s.link ∧ (dropPoll st s).seqA = s.seqA ∧
    (dropPoll st s).seqB = s.seqB ∧ (dropPoll st s).engA = s.engA ∧ (dropPoll st s).engB = s.engB ∧
    (dropPoll st s).arbiter = s.arbiter ∧ (dropPoll st s).skimmer = s.skimmer ∧ (dropPoll st s).bath = s.bath ∧
    (dropPoll st s).window = s.window ∧ (dropPoll st s).records = s.records ∧
    (dropPoll st s).balance = s.balance ∧ (dropPoll st s).capture = s.capture ∧
    (dropPoll st s).settings = s.settings ∧ (dropPoll st s).free = s.free ∧ (dropPoll st s).pending = s.pending := by
  unfold dropPoll; split <;> simp

@[simp] theorem arbitrate_frame (s : State) :
    (arbitrate s).unit = s.unit ∧ (arbitrate s).link = s.link ∧ (arbitrate s).seqA = s.seqA ∧
    (arbitrate s).seqB = s.seqB ∧ (arbitrate s).engA = s.engA ∧ (arbitrate s).engB = s.engB ∧
    (arbitrate s).arbiter = s.arbiter ∧ (arbitrate s).skimmer = s.skimmer ∧ (arbitrate s).bath = s.bath ∧
    (arbitrate s).window = s.window ∧ (arbitrate s).records = s.records ∧ (arbitrate s).balance = s.balance ∧
    (arbitrate s).capture = s.capture ∧ (arbitrate s).settings = s.settings ∧ (arbitrate s).free = s.free ∧
    (arbitrate s).pending = s.pending := by
  unfold arbitrate
  (repeat' split) <;> simp

@[simp] theorem settleKettle_frame (s : State) :
    (settleKettle s).unit = s.unit ∧ (settleKettle s).link = s.link ∧ (settleKettle s).seqA = s.seqA ∧
    (settleKettle s).seqB = s.seqB ∧ (settleKettle s).engA = s.engA ∧ (settleKettle s).engB = s.engB ∧
    (settleKettle s).arbiter = s.arbiter ∧ (settleKettle s).skimmer = s.skimmer ∧
    (settleKettle s).window = s.window ∧ (settleKettle s).records = s.records ∧
    (settleKettle s).balance = s.balance ∧ (settleKettle s).field = s.field ∧
    (settleKettle s).capture = s.capture ∧ (settleKettle s).settings = s.settings ∧
    (settleKettle s).free = s.free ∧ (settleKettle s).pending = s.pending := by
  unfold settleKettle; split <;> simp

@[simp] theorem endEvent_frame (s : State) :
    (endEvent s).unit = s.unit ∧ (endEvent s).link = s.link ∧ (endEvent s).seqA = s.seqA ∧
    (endEvent s).seqB = s.seqB ∧ (endEvent s).engA = s.engA ∧ (endEvent s).engB = s.engB ∧
    (endEvent s).arbiter = s.arbiter ∧ (endEvent s).skimmer = s.skimmer ∧ (endEvent s).window = s.window ∧
    (endEvent s).records = s.records ∧ (endEvent s).balance = s.balance ∧ (endEvent s).capture = s.capture ∧
    (endEvent s).settings = s.settings ∧ (endEvent s).free = s.free ∧ (endEvent s).pending = s.pending := by
  simp [endEvent, Station.all]

/-! ## Read after write -/

@[simp] theorem seq_setSeq (h : Hoist) (q : Sequencer) (s : State) : (setSeq h q s).seq h = q := by cases h <;> rfl

@[simp] theorem seq_setSeq_other (h : Hoist) (q : Sequencer) (s : State) :
    (setSeq h q s).seq h.other = s.seq h.other := by cases h <;> rfl

@[simp] theorem eng_setEng (h : Hoist) (e : WeighEngine) (s : State) : (setEng h e s).eng h = e := by cases h <;> rfl

@[simp] theorem eng_setEng_other (h : Hoist) (e : WeighEngine) (s : State) :
    (setEng h e s).eng h.other = s.eng h.other := by cases h <;> rfl

@[simp] theorem seq_setEng (h h' : Hoist) (e : WeighEngine) (s : State) : (setEng h e s).seq h' = s.seq h' := by
  cases h <;> cases h' <;> rfl

@[simp] theorem eng_setSeq (h h' : Hoist) (q : Sequencer) (s : State) : (setSeq h q s).eng h' = s.eng h' := by
  cases h <;> cases h' <;> rfl

@[simp] theorem setSeq_setSeq (h : Hoist) (q r : Sequencer) (s : State) : setSeq h r (setSeq h q s) = setSeq h r s := by
  cases h <;> rfl

@[simp] theorem setEng_setEng (h : Hoist) (e f : WeighEngine) (s : State) : setEng h f (setEng h e s) = setEng h f s := by
  cases h <;> rfl

@[simp] theorem setSeq_seq (h : Hoist) (s : State) : setSeq h (s.seq h) s = s := by cases h <;> rfl

@[simp] theorem setEng_eng (h : Hoist) (s : State) : setEng h (s.eng h) s = s := by cases h <;> rfl

@[simp] theorem station_setStation (st : Station) (x : StationState) (s : State) : (setStation st x s).station st = x := by
  cases st <;> rfl

theorem station_setStation_other (st st' : Station) (x : StationState) (s : State) (h : st' ≠ st) :
    (setStation st x s).station st' = s.station st' := by
  cases st <;> cases st' <;> first | rfl | exact absurd rfl h

/-- The items of the hoists are those of A and of B. -/
theorem seq_congr {s t : State} (a : t.seqA = s.seqA) (b : t.seqB = s.seqB) (h : Hoist) : t.seq h = s.seq h := by
  cases h <;> assumption

theorem eng_congr {s t : State} (a : t.engA = s.engA) (b : t.engB = s.engB) (h : Hoist) : t.eng h = s.eng h := by
  cases h <;> assumption

theorem setting_congr {s t : State} (a : t.settings = s.settings) (id : Nat) : t.setting id = s.setting id := by
  simp [State.setting, a]

theorem station_congr {s t : State} (a : t.field = s.field) (st : Station) : t.station st = s.station st := by
  cases st <;> simp [State.station, a]

end Sys2Proof.Machine
end

