-- ==== Sys2Proof/Laws/Frames.lean ====
section
/-! SUPPORT. What each operation of the blocks leaves unchanged: one lemma per operation, each naming every part of the
state that the operation never writes. -/

namespace Sys2Proof.Machine

@[simp] theorem startWeigh_frame (h : Hoist) (k : WeighKind) (s : State) :
    (startWeigh h k s).unit = s.unit ∧ (startWeigh h k s).link = s.link ∧ (startWeigh h k s).seqA = s.seqA ∧
    (startWeigh h k s).seqB = s.seqB ∧ (startWeigh h k s).arbiter = s.arbiter ∧
    (startWeigh h k s).skimmer = s.skimmer ∧ (startWeigh h k s).bath = s.bath ∧
    (startWeigh h k s).window = s.window ∧ (startWeigh h k s).records = s.records ∧
    (startWeigh h k s).balance = s.balance ∧ (startWeigh h k s).capture = s.capture ∧
    (startWeigh h k s).settings = s.settings ∧ (startWeigh h k s).free = s.free ∧
    (startWeigh h k s).pending = s.pending := by
  simp [startWeigh]

@[simp] theorem stopWeigh_frame (h : Hoist) (s : State) :
    (stopWeigh h s).unit = s.unit ∧ (stopWeigh h s).link = s.link ∧ (stopWeigh h s).seqA = s.seqA ∧
    (stopWeigh h s).seqB = s.seqB ∧ (stopWeigh h s).arbiter = s.arbiter ∧ (stopWeigh h s).skimmer = s.skimmer ∧
    (stopWeigh h s).bath = s.bath ∧ (stopWeigh h s).window = s.window ∧ (stopWeigh h s).records = s.records ∧
    (stopWeigh h s).balance = s.balance ∧ (stopWeigh h s).field = s.field ∧
    (stopWeigh h s).capture = s.capture ∧ (stopWeigh h s).settings = s.settings ∧
    (stopWeigh h s).free = s.free ∧ (stopWeigh h s).pending = s.pending := by
  simp [stopWeigh]

@[simp] theorem badSample_frame (h : Hoist) (s : State) :
    (badSample h s).unit = s.unit ∧ (badSample h s).link = s.link ∧ (badSample h s).seqA = s.seqA ∧
    (badSample h s).seqB = s.seqB ∧ (badSample h s).arbiter = s.arbiter ∧ (badSample h s).skimmer = s.skimmer ∧
    (badSample h s).bath = s.bath ∧ (badSample h s).window = s.window ∧ (badSample h s).records = s.records ∧
    (badSample h s).balance = s.balance ∧ (badSample h s).field = s.field ∧
    (badSample h s).capture = s.capture ∧ (badSample h s).settings = s.settings ∧
    (badSample h s).free = s.free ∧ (badSample h s).pending = s.pending := by
  unfold badSample; split <;> simp

@[simp] theorem goodSample_frame (h : Hoist) (x : Int) (s : State) :
    (goodSample h x s).1.unit = s.unit ∧ (goodSample h x s).1.link = s.link ∧
    (goodSample h x s).1.seqA = s.seqA ∧ (goodSample h x s).1.seqB = s.seqB ∧
    (goodSample h x s).1.arbiter = s.arbiter ∧ (goodSample h x s).1.skimmer = s.skimmer ∧
    (goodSample h x s).1.bath = s.bath ∧ (goodSample h x s).1.window = s.window ∧
    (goodSample h x s).1.records = s.records ∧ (goodSample h x s).1.balance = s.balance ∧
    (goodSample h x s).1.field = s.field ∧ (goodSample h x s).1.capture = s.capture ∧
    (goodSample h x s).1.settings = s.settings ∧ (goodSample h x s).1.free = s.free ∧
    (goodSample h x s).1.pending = s.pending := by
  unfold goodSample; dsimp only
  (repeat' split) <;> simp

@[simp] theorem markTimeout_frame (h : Hoist) (s : State) :
    (markTimeout h s).unit = s.unit ∧ (markTimeout h s).link = s.link ∧ (markTimeout h s).seqA = s.seqA ∧
    (markTimeout h s).seqB = s.seqB ∧ (markTimeout h s).arbiter = s.arbiter ∧
    (markTimeout h s).skimmer = s.skimmer ∧ (markTimeout h s).bath = s.bath ∧
    (markTimeout h s).window = s.window ∧ (markTimeout h s).records = s.records ∧
    (markTimeout h s).balance = s.balance ∧ (markTimeout h s).field = s.field ∧
    (markTimeout h s).capture = s.capture ∧ (markTimeout h s).settings = s.settings ∧
    (markTimeout h s).free = s.free ∧ (markTimeout h s).pending = s.pending := by
  unfold markTimeout; split <;> simp

@[simp] theorem markMissed_frame (h : Hoist) (s : State) :
    (markMissed h s).unit = s.unit ∧ (markMissed h s).engA = s.engA ∧ (markMissed h s).engB = s.engB ∧
    (markMissed h s).arbiter = s.arbiter ∧ (markMissed h s).skimmer = s.skimmer ∧
    (markMissed h s).bath = s.bath ∧ (markMissed h s).window = s.window ∧ (markMissed h s).balance = s.balance ∧
    (markMissed h s).field = s.field ∧ (markMissed h s).capture = s.capture ∧
    (markMissed h s).settings = s.settings ∧ (markMissed h s).free = s.free ∧
    (markMissed h s).pending = s.pending := by
  unfold markMissed; dsimp only
  (repeat' split) <;> simp

@[simp] theorem startSweep_frame (s : State) :
    (startSweep s).unit = s.unit ∧ (startSweep s).link = s.link ∧ (startSweep s).seqA = s.seqA ∧
    (startSweep s).seqB = s.seqB ∧ (startSweep s).engA = s.engA ∧ (startSweep s).engB = s.engB ∧
    (startSweep s).arbiter = s.arbiter ∧ (startSweep s).bath = s.bath ∧ (startSweep s).window = s.window ∧
    (startSweep s).records = s.records ∧ (startSweep s).balance = s.balance ∧
    (startSweep s).capture = s.capture ∧ (startSweep s).settings = s.settings ∧ (startSweep s).free = s.free ∧
    (startSweep s).pending = s.pending := by
  unfold startSweep
  (repeat' split) <;> simp

@[simp] theorem requestSkim_frame (h : Hoist) (due : Nat) (s : State) :
    (requestSkim h due s).unit = s.unit ∧ (requestSkim h due s).engA = s.engA ∧
    (requestSkim h due s).engB = s.engB ∧ (requestSkim h due s).arbiter = s.arbiter ∧
    (requestSkim h due s).bath = s.bath ∧ (requestSkim h due s).window = s.window ∧
    (requestSkim h due s).balance = s.balance ∧ (requestSkim h due s).capture = s.capture ∧
    (requestSkim h due s).settings = s.settings ∧ (requestSkim h due s).free = s.free ∧
    (requestSkim h due s).pending = s.pending := by
  unfold requestSkim; dsimp only
  (repeat' split) <;> simp

@[simp] theorem withdrawSkim_frame (h : Hoist) (s : State) :
    (withdrawSkim h s).unit = s.unit ∧ (withdrawSkim h s).link = s.link ∧ (withdrawSkim h s).seqA = s.seqA ∧
    (withdrawSkim h s).seqB = s.seqB ∧ (withdrawSkim h s).engA = s.engA ∧ (withdrawSkim h s).engB = s.engB ∧
    (withdrawSkim h s).arbiter = s.arbiter ∧ (withdrawSkim h s).bath = s.bath ∧
    (withdrawSkim h s).window = s.window ∧ (withdrawSkim h s).records = s.records ∧
    (withdrawSkim h s).balance = s.balance ∧ (withdrawSkim h s).capture = s.capture ∧
    (withdrawSkim h s).settings = s.settings ∧ (withdrawSkim h s).free = s.free ∧
    (withdrawSkim h s).pending = s.pending := by
  unfold withdrawSkim
  (repeat' split) <;> simp

@[simp] theorem compareLevel_frame (s : State) :
    (compareLevel s).unit = s.unit ∧ (compareLevel s).seqA = s.seqA ∧ (compareLevel s).seqB = s.seqB ∧
    (compareLevel s).engA = s.engA ∧ (compareLevel s).engB = s.engB ∧ (compareLevel s).arbiter = s.arbiter ∧
    (compareLevel s).skimmer = s.skimmer ∧ (compareLevel s).window = s.window ∧
    (compareLevel s).records = s.records ∧ (compareLevel s).balance = s.balance ∧
    (compareLevel s).field = s.field ∧ (compareLevel s).capture = s.capture ∧
    (compareLevel s).settings = s.settings ∧ (compareLevel s).free = s.free ∧
    (compareLevel s).pending = s.pending := by
  unfold compareLevel
  (repeat' split) <;> simp

@[simp] theorem refreshDepth_frame (s : State) :
    (refreshDepth s).unit = s.unit ∧ (refreshDepth s).seqA = s.seqA ∧ (refreshDepth s).seqB = s.seqB ∧
    (refreshDepth s).engA = s.engA ∧ (refreshDepth s).engB = s.engB ∧ (refreshDepth s).arbiter = s.arbiter ∧
    (refreshDepth s).skimmer = s.skimmer ∧ (refreshDepth s).window = s.window ∧
    (refreshDepth s).records = s.records ∧ (refreshDepth s).balance = s.balance ∧
    (refreshDepth s).field = s.field ∧ (refreshDepth s).capture = s.capture ∧
    (refreshDepth s).settings = s.settings ∧ (refreshDepth s).free = s.free ∧
    (refreshDepth s).pending = s.pending := by
  simp [refreshDepth]

@[simp] theorem noteSaturation_frame (kind number : Nat) (before after : Bool) (s : State) :
    (noteSaturation kind number before after s).unit = s.unit ∧
    (noteSaturation kind number before after s).seqA = s.seqA ∧
    (noteSaturation kind number before after s).seqB = s.seqB ∧
    (noteSaturation kind number before after s).engA = s.engA ∧
    (noteSaturation kind number before after s).engB = s.engB ∧
    (noteSaturation kind number before after s).arbiter = s.arbiter ∧
    (noteSaturation kind number before after s).skimmer = s.skimmer ∧
    (noteSaturation kind number before after s).bath = s.bath ∧
    (noteSaturation kind number before after s).window = s.window ∧
    (noteSaturation kind number before after s).records = s.records ∧
    (noteSaturation kind number before after s).balance = s.balance ∧
    (noteSaturation kind number before after s).field = s.field ∧
    (noteSaturation kind number before after s).capture = s.capture ∧
    (noteSaturation kind number before after s).settings = s.settings ∧
    (noteSaturation kind number before after s).free = s.free ∧
    (noteSaturation kind number before after s).pending = s.pending := by
  unfold noteSaturation; split <;> simp

@[simp] theorem changeBalance_frame (f : Balance → Balance) (s : State) :
    (changeBalance f s).unit = s.unit ∧ (changeBalance f s).seqA = s.seqA ∧ (changeBalance f s).seqB = s.seqB ∧
    (changeBalance f s).engA = s.engA ∧ (changeBalance f s).engB = s.engB ∧
    (changeBalance f s).arbiter = s.arbiter ∧ (changeBalance f s).skimmer = s.skimmer ∧
    (changeBalance f s).bath = s.bath ∧ (changeBalance f s).window = s.window ∧
    (changeBalance f s).records = s.records ∧ (changeBalance f s).field = s.field ∧
    (changeBalance f s).capture = s.capture ∧ (changeBalance f s).settings = s.settings ∧
    (changeBalance f s).free = s.free ∧ (changeBalance f s).pending = s.pending := by
  simp [changeBalance]

@[simp] theorem post_frame (h : Hoist) (s : State) :
    (post h s).unit = s.unit ∧ (post h s).seqA = s.seqA ∧ (post h s).seqB = s.seqB ∧ (post h s).engA = s.engA ∧
    (post h s).engB = s.engB ∧ (post h s).arbiter = s.arbiter ∧ (post h s).skimmer = s.skimmer ∧
    (post h s).window = s.window ∧ (post h s).field = s.field ∧ (post h s).capture = s.capture ∧
    (post h s).settings = s.settings ∧ (post h s).free = s.free ∧ (post h s).pending = s.pending := by
  unfold post; dsimp only
  (repeat' split) <;> simp

@[simp] theorem raiseReconciled_frame (r : ReconResult) (s : State) :
    (raiseReconciled r s).unit = s.unit ∧ (raiseReconciled r s).seqA = s.seqA ∧
    (raiseReconciled r s).seqB = s.seqB ∧ (raiseReconciled r s).engA = s.engA ∧
    (raiseReconciled r s).engB = s.engB ∧ (raiseReconciled r s).arbiter = s.arbiter ∧
    (raiseReconciled r s).skimmer = s.skimmer ∧ (raiseReconciled r s).bath = s.bath ∧
    (raiseReconciled r s).window = s.window ∧ (raiseReconciled r s).records = s.records ∧
    (raiseReconciled r s).balance = s.balance ∧ (raiseReconciled r s).field = s.field ∧
    (raiseReconciled r s).capture = s.capture ∧ (raiseReconciled r s).settings = s.settings ∧
    (raiseReconciled r s).free = s.free ∧ (raiseReconciled r s).pending = s.pending := by
  simp [raiseReconciled]

@[simp] theorem endRecon_frame (o : ReconOutcome) (s : State) :
    (endRecon o s).unit = s.unit ∧ (endRecon o s).seqA = s.seqA ∧ (endRecon o s).seqB = s.seqB ∧
    (endRecon o s).engA = s.engA ∧ (endRecon o s).engB = s.engB ∧ (endRecon o s).arbiter = s.arbiter ∧
    (endRecon o s).skimmer = s.skimmer ∧ (endRecon o s).bath = s.bath ∧ (endRecon o s).window = s.window ∧
    (endRecon o s).records = s.records ∧ (endRecon o s).field = s.field ∧ (endRecon o s).capture = s.capture ∧
    (endRecon o s).settings = s.settings ∧ (endRecon o s).free = s.free ∧ (endRecon o s).pending = s.pending := by
  unfold endRecon; split <;> simp

@[simp] theorem completeRecon_frame (q : QuietReading) (s : State) :
    (completeRecon q s).unit = s.unit ∧ (completeRecon q s).seqA = s.seqA ∧ (completeRecon q s).seqB = s.seqB ∧
    (completeRecon q s).engA = s.engA ∧ (completeRecon q s).engB = s.engB ∧
    (completeRecon q s).arbiter = s.arbiter ∧ (completeRecon q s).skimmer = s.skimmer ∧
    (completeRecon q s).bath = s.bath ∧ (completeRecon q s).window = s.window ∧
    (completeRecon q s).records = s.records ∧ (completeRecon q s).field = s.field ∧
    (completeRecon q s).capture = s.capture ∧ (completeRecon q s).settings = s.settings ∧
    (completeRecon q s).free = s.free ∧ (completeRecon q s).pending = s.pending := by
  unfold completeRecon
  (repeat' split) <;> simp

@[simp] theorem issueMotion_frame (h : Hoist) (axis : Axis) (target speed : Int) (s : State) :
    (issueMotion h axis target speed s).1.unit = s.unit ∧ (issueMotion h axis target speed s).1.link = s.link ∧
    (issueMotion h axis target speed s).1.engA = s.engA ∧ (issueMotion h axis target speed s).1.engB = s.engB ∧
    (issueMotion h axis target speed s).1.arbiter = s.arbiter ∧
    (issueMotion h axis target speed s).1.skimmer = s.skimmer ∧
    (issueMotion h axis target speed s).1.bath = s.bath ∧
    (issueMotion h axis target speed s).1.window = s.window ∧
    (issueMotion h axis target speed s).1.records = s.records ∧
    (issueMotion h axis target speed s).1.balance = s.balance ∧
    (issueMotion h axis target speed s).1.capture = s.capture ∧
    (issueMotion h axis target speed s).1.settings = s.settings ∧
    (issueMotion h axis target speed s).1.free = s.free ∧
    (issueMotion h axis target speed s).1.pending = s.pending := by
  unfold issueMotion
  (repeat' split) <;> simp

@[simp] theorem issueLift_frame (h : Hoist) (target : Option Int) (speed : Int) (s : State) :
    (issueLift h target speed s).1.unit = s.unit ∧ (issueLift h target speed s).1.link = s.link ∧
    (issueLift h target speed s).1.engA = s.engA ∧ (issueLift h target speed s).1.engB = s.engB ∧
    (issueLift h target speed s).1.arbiter = s.arbiter ∧ (issueLift h target speed s).1.skimmer = s.skimmer ∧
    (issueLift h target speed s).1.bath = s.bath ∧ (issueLift h target speed s).1.window = s.window ∧
    (issueLift h target speed s).1.records = s.records ∧ (issueLift h target speed s).1.balance = s.balance ∧
    (issueLift h target speed s).1.capture = s.capture ∧ (issueLift h target speed s).1.settings = s.settings ∧
    (issueLift h target speed s).1.free = s.free ∧ (issueLift h target speed s).1.pending = s.pending := by
  unfold issueLift; split <;> simp

@[simp] theorem issueTravel_frame (h : Hoist) (target : Int) (s : State) :
    (issueTravel h target s).1.unit = s.unit ∧ (issueTravel h target s).1.link = s.link ∧
    (issueTravel h target s).1.engA = s.engA ∧ (issueTravel h target s).1.engB = s.engB ∧
    (issueTravel h target s).1.arbiter = s.arbiter ∧ (issueTravel h target s).1.skimmer = s.skimmer ∧
    (issueTravel h target s).1.bath = s.bath ∧ (issueTravel h target s).1.window = s.window ∧
    (issueTravel h target s).1.records = s.records ∧ (issueTravel h target s).1.balance = s.balance ∧
    (issueTravel h target s).1.capture = s.capture ∧ (issueTravel h target s).1.settings = s.settings ∧
    (issueTravel h target s).1.free = s.free ∧ (issueTravel h target s).1.pending = s.pending := by
  unfold issueTravel; split <;> simp

@[simp] theorem sendSkimAtLead_frame (h : Hoist) (s : State) :
    (sendSkimAtLead h s).unit = s.unit ∧ (sendSkimAtLead h s).engA = s.engA ∧
    (sendSkimAtLead h s).engB = s.engB ∧ (sendSkimAtLead h s).arbiter = s.arbiter ∧
    (sendSkimAtLead h s).bath = s.bath ∧ (sendSkimAtLead h s).window = s.window ∧
    (sendSkimAtLead h s).balance = s.balance ∧ (sendSkimAtLead h s).capture = s.capture ∧
    (sendSkimAtLead h s).settings = s.settings ∧ (sendSkimAtLead h s).free = s.free ∧
    (sendSkimAtLead h s).pending = s.pending := by
  unfold sendSkimAtLead; split <;> simp

@[simp] theorem enterImmerse_frame (h : Hoist) (s : State) :
    (enterImmerse h s).unit = s.unit ∧ (enterImmerse h s).engA = s.engA ∧ (enterImmerse h s).engB = s.engB ∧
    (enterImmerse h s).arbiter = s.arbiter ∧ (enterImmerse h s).bath = s.bath ∧
    (enterImmerse h s).window = s.window ∧ (enterImmerse h s).balance = s.balance ∧
    (enterImmerse h s).capture = s.capture ∧ (enterImmerse h s).settings = s.settings ∧
    (enterImmerse h s).free = s.free ∧ (enterImmerse h s).pending = s.pending := by
  simp [enterImmerse]

@[simp] theorem beginEntry_frame (h : Hoist) (s : State) :
    (beginEntry h s).unit = s.unit ∧ (beginEntry h s).engA = s.engA ∧ (beginEntry h s).engB = s.engB ∧
    (beginEntry h s).arbiter = s.arbiter ∧ (beginEntry h s).bath = s.bath ∧ (beginEntry h s).window = s.window ∧
    (beginEntry h s).balance = s.balance ∧ (beginEntry h s).capture = s.capture ∧
    (beginEntry h s).settings = s.settings ∧ (beginEntry h s).free = s.free ∧
    (beginEntry h s).pending = s.pending := by
  unfold beginEntry; dsimp only
  (repeat' split) <;> simp

@[simp] theorem notifyCause_frame (h : Hoist) (s : State) (c : AdmitCause) :
    (notifyCause h s c).unit = s.unit ∧ (notifyCause h s c).engA = s.engA ∧ (notifyCause h s c).engB = s.engB ∧
    (notifyCause h s c).arbiter = s.arbiter ∧ (notifyCause h s c).skimmer = s.skimmer ∧
    (notifyCause h s c).bath = s.bath ∧ (notifyCause h s c).window = s.window ∧
    (notifyCause h s c).records = s.records ∧ (notifyCause h s c).balance = s.balance ∧
    (notifyCause h s c).field = s.field ∧ (notifyCause h s c).capture = s.capture ∧
    (notifyCause h s c).settings = s.settings ∧ (notifyCause h s c).free = s.free ∧
    (notifyCause h s c).pending = s.pending := by
  unfold notifyCause; split <;> simp

@[simp] theorem admit_frame (h : Hoist) (r : LoadRec) (theta : Int) (s : State) :
    (admitLoad h r theta s).unit = s.unit ∧ (admitLoad h r theta s).engA = s.engA ∧ (admitLoad h r theta s).engB = s.engB ∧
    (admitLoad h r theta s).arbiter = s.arbiter ∧ (admitLoad h r theta s).bath = s.bath ∧
    (admitLoad h r theta s).balance = s.balance ∧ (admitLoad h r theta s).capture = s.capture ∧
    (admitLoad h r theta s).settings = s.settings ∧ (admitLoad h r theta s).free = s.free ∧
    (admitLoad h r theta s).pending = s.pending := by
  simp [admitLoad]

@[simp] theorem notifyCauses_frame (h : Hoist) (l : List AdmitCause) (s : State) :
    (l.foldl (notifyCause h) s).unit = s.unit ∧ (l.foldl (notifyCause h) s).engA = s.engA ∧
    (l.foldl (notifyCause h) s).engB = s.engB ∧ (l.foldl (notifyCause h) s).arbiter = s.arbiter ∧
    (l.foldl (notifyCause h) s).skimmer = s.skimmer ∧ (l.foldl (notifyCause h) s).bath = s.bath ∧
    (l.foldl (notifyCause h) s).window = s.window ∧ (l.foldl (notifyCause h) s).records = s.records ∧
    (l.foldl (notifyCause h) s).balance = s.balance ∧ (l.foldl (notifyCause h) s).field = s.field ∧
    (l.foldl (notifyCause h) s).capture = s.capture ∧ (l.foldl (notifyCause h) s).settings = s.settings ∧
    (l.foldl (notifyCause h) s).free = s.free ∧ (l.foldl (notifyCause h) s).pending = s.pending := by
  induction l generalizing s with
  | nil => simp
  | cons a l ih => simp [ih]

@[simp] theorem trial_frame (h : Hoist) (s : State) :
    (trial h s).unit = s.unit ∧ (trial h s).engA = s.engA ∧ (trial h s).engB = s.engB ∧
    (trial h s).arbiter = s.arbiter ∧ (trial h s).bath = s.bath ∧ (trial h s).balance = s.balance ∧
    (trial h s).capture = s.capture ∧ (trial h s).settings = s.settings ∧ (trial h s).free = s.free ∧
    (trial h s).pending = s.pending := by
  unfold trial
  (repeat' split) <;> simp

@[simp] theorem tryWaiting_frame (s : State) :
    (tryWaiting s).unit = s.unit ∧ (tryWaiting s).engA = s.engA ∧ (tryWaiting s).engB = s.engB ∧
    (tryWaiting s).arbiter = s.arbiter ∧ (tryWaiting s).bath = s.bath ∧ (tryWaiting s).balance = s.balance ∧
    (tryWaiting s).capture = s.capture ∧ (tryWaiting s).settings = s.settings ∧
    (tryWaiting s).pending = s.pending := by
  unfold tryWaiting
  (repeat' split) <;> simp

@[simp] theorem enterAwaitAdmit_frame (h : Hoist) (s : State) :
    (enterAwaitAdmit h s).unit = s.unit ∧ (enterAwaitAdmit h s).engA = s.engA ∧
    (enterAwaitAdmit h s).engB = s.engB ∧ (enterAwaitAdmit h s).arbiter = s.arbiter ∧
    (enterAwaitAdmit h s).bath = s.bath ∧ (enterAwaitAdmit h s).balance = s.balance ∧
    (enterAwaitAdmit h s).capture = s.capture ∧ (enterAwaitAdmit h s).settings = s.settings ∧
    (enterAwaitAdmit h s).free = s.free ∧ (enterAwaitAdmit h s).pending = s.pending := by
  simp [enterAwaitAdmit]

@[simp] theorem beginTravelIn_frame (h : Hoist) (s : State) :
    (beginTravelIn h s).unit = s.unit ∧ (beginTravelIn h s).engA = s.engA ∧ (beginTravelIn h s).engB = s.engB ∧
    (beginTravelIn h s).arbiter = s.arbiter ∧ (beginTravelIn h s).bath = s.bath ∧
    (beginTravelIn h s).balance = s.balance ∧ (beginTravelIn h s).capture = s.capture ∧
    (beginTravelIn h s).settings = s.settings ∧ (beginTravelIn h s).free = s.free ∧
    (beginTravelIn h s).pending = s.pending := by
  unfold beginTravelIn; dsimp only
  (repeat' split) <;> simp

@[simp] theorem grant_frame (o : Owner) (first last : Nat) (s : State) :
    (grant o first last s).unit = s.unit ∧ (grant o first last s).engA = s.engA ∧
    (grant o first last s).engB = s.engB ∧ (grant o first last s).bath = s.bath ∧
    (grant o first last s).balance = s.balance ∧ (grant o first last s).capture = s.capture ∧
    (grant o first last s).settings = s.settings ∧ (grant o first last s).free = s.free ∧
    (grant o first last s).pending = s.pending := by
  unfold grant; dsimp only
  (repeat' split) <;> simp

@[simp] theorem tryPlacement_frame (n : Nat) (s : State) :
    (tryPlacement n s).unit = s.unit ∧ (tryPlacement n s).engA = s.engA ∧ (tryPlacement n s).engB = s.engB ∧
    (tryPlacement n s).bath = s.bath ∧ (tryPlacement n s).balance = s.balance ∧
    (tryPlacement n s).capture = s.capture ∧ (tryPlacement n s).settings = s.settings ∧
    (tryPlacement n s).free = s.free ∧ (tryPlacement n s).pending = s.pending := by
  induction n generalizing s with
  | zero => simp [tryPlacement]
  | succ n ih =>
    unfold tryPlacement
    (repeat' split) <;> simp [ih]

@[simp] theorem placeClaims_frame (s : State) :
    (placeClaims s).unit = s.unit ∧ (placeClaims s).engA = s.engA ∧ (placeClaims s).engB = s.engB ∧
    (placeClaims s).bath = s.bath ∧ (placeClaims s).balance = s.balance ∧ (placeClaims s).capture = s.capture ∧
    (placeClaims s).settings = s.settings ∧ (placeClaims s).free = s.free ∧ (placeClaims s).pending = s.pending := by
  simp [placeClaims]

@[simp] theorem joinClaim_frame (c : Claim) (s : State) :
    (joinClaim c s).unit = s.unit ∧ (joinClaim c s).engA = s.engA ∧ (joinClaim c s).engB = s.engB ∧
    (joinClaim c s).bath = s.bath ∧ (joinClaim c s).balance = s.balance ∧ (joinClaim c s).capture = s.capture ∧
    (joinClaim c s).settings = s.settings ∧ (joinClaim c s).free = s.free ∧ (joinClaim c s).pending = s.pending := by
  unfold joinClaim; split <;> simp

@[simp] theorem withdrawClaim_frame (o : Owner) (s : State) :
    (withdrawClaim o s).unit = s.unit ∧ (withdrawClaim o s).engA = s.engA ∧ (withdrawClaim o s).engB = s.engB ∧
    (withdrawClaim o s).bath = s.bath ∧ (withdrawClaim o s).balance = s.balance ∧
    (withdrawClaim o s).capture = s.capture ∧ (withdrawClaim o s).settings = s.settings ∧
    (withdrawClaim o s).free = s.free ∧ (withdrawClaim o s).pending = s.pending := by
  unfold withdrawClaim; split <;> simp

@[simp] theorem releaseSpan_frame (o : Owner) (s : State) :
    (releaseSpan o s).unit = s.unit ∧ (releaseSpan o s).engA = s.engA ∧ (releaseSpan o s).engB = s.engB ∧
    (releaseSpan o s).bath = s.bath ∧ (releaseSpan o s).balance = s.balance ∧
    (releaseSpan o s).capture = s.capture ∧ (releaseSpan o s).settings = s.settings ∧
    (releaseSpan o s).free = s.free ∧ (releaseSpan o s).pending = s.pending := by
  simp [releaseSpan]

@[simp] theorem enterAwaitSpan_frame (h : Hoist) (s : State) :
    (enterAwaitSpan h s).unit = s.unit ∧ (enterAwaitSpan h s).engA = s.engA ∧
    (enterAwaitSpan h s).engB = s.engB ∧ (enterAwaitSpan h s).bath = s.bath ∧
    (enterAwaitSpan h s).balance = s.balance ∧ (enterAwaitSpan h s).capture = s.capture ∧
    (enterAwaitSpan h s).settings = s.settings ∧ (enterAwaitSpan h s).free = s.free ∧
    (enterAwaitSpan h s).pending = s.pending := by
  simp [enterAwaitSpan]

@[simp] theorem freeJig_frame (load : Nat) (s : State) :
    (freeJig load s).unit = s.unit ∧ (freeJig load s).link = s.link ∧ (freeJig load s).seqA = s.seqA ∧
    (freeJig load s).seqB = s.seqB ∧ (freeJig load s).engA = s.engA ∧ (freeJig load s).engB = s.engB ∧
    (freeJig load s).arbiter = s.arbiter ∧ (freeJig load s).skimmer = s.skimmer ∧
    (freeJig load s).bath = s.bath ∧ (freeJig load s).window = s.window ∧ (freeJig load s).balance = s.balance ∧
    (freeJig load s).field = s.field ∧ (freeJig load s).capture = s.capture ∧
    (freeJig load s).settings = s.settings ∧ (freeJig load s).free = s.free ∧
    (freeJig load s).pending = s.pending := by
  simp [freeJig]

@[simp] theorem endDip_frame (h : Hoist) (s : State) :
    (endDip h s).unit = s.unit ∧ (endDip h s).link = s.link ∧ (endDip h s).engA = s.engA ∧
    (endDip h s).engB = s.engB ∧ (endDip h s).arbiter = s.arbiter ∧ (endDip h s).skimmer = s.skimmer ∧
    (endDip h s).bath = s.bath ∧ (endDip h s).window = s.window ∧ (endDip h s).balance = s.balance ∧
    (endDip h s).field = s.field ∧ (endDip h s).capture = s.capture ∧ (endDip h s).settings = s.settings ∧
    (endDip h s).free = s.free ∧ (endDip h s).pending = s.pending := by
  unfold endDip; split <;> simp

@[simp] theorem travelOutArrival_frame (h : Hoist) (s : State) :
    (travelOutArrival h s).unit = s.unit ∧ (travelOutArrival h s).engA = s.engA ∧
    (travelOutArrival h s).engB = s.engB ∧ (travelOutArrival h s).bath = s.bath ∧
    (travelOutArrival h s).balance = s.balance ∧ (travelOutArrival h s).capture = s.capture ∧
    (travelOutArrival h s).settings = s.settings ∧ (travelOutArrival h s).free = s.free ∧
    (travelOutArrival h s).pending = s.pending := by
  simp [travelOutArrival]

@[simp] theorem beginTravelOut_frame (h : Hoist) (s : State) :
    (beginTravelOut h s).unit = s.unit ∧ (beginTravelOut h s).engA = s.engA ∧
    (beginTravelOut h s).engB = s.engB ∧ (beginTravelOut h s).bath = s.bath ∧
    (beginTravelOut h s).balance = s.balance ∧ (beginTravelOut h s).capture = s.capture ∧
    (beginTravelOut h s).settings = s.settings ∧ (beginTravelOut h s).free = s.free ∧
    (beginTravelOut h s).pending = s.pending := by
  unfold beginTravelOut; dsimp only
  (repeat' split) <;> simp

@[simp] theorem enterWeighOut_frame (h : Hoist) (s : State) :
    (enterWeighOut h s).unit = s.unit ∧ (enterWeighOut h s).link = s.link ∧
    (enterWeighOut h s).arbiter = s.arbiter ∧ (enterWeighOut h s).skimmer = s.skimmer ∧
    (enterWeighOut h s).bath = s.bath ∧ (enterWeighOut h s).window = s.window ∧
    (enterWeighOut h s).records = s.records ∧ (enterWeighOut h s).balance = s.balance ∧
    (enterWeighOut h s).capture = s.capture ∧ (enterWeighOut h s).settings = s.settings ∧
    (enterWeighOut h s).free = s.free ∧ (enterWeighOut h s).pending = s.pending := by
  simp [enterWeighOut]

@[simp] theorem runDrain_frame (h : Hoist) (s : State) :
    (runDrain h s).unit = s.unit ∧ (runDrain h s).link = s.link ∧ (runDrain h s).arbiter = s.arbiter ∧
    (runDrain h s).skimmer = s.skimmer ∧ (runDrain h s).bath = s.bath ∧ (runDrain h s).window = s.window ∧
    (runDrain h s).records = s.records ∧ (runDrain h s).balance = s.balance ∧
    (runDrain h s).capture = s.capture ∧ (runDrain h s).settings = s.settings ∧ (runDrain h s).free = s.free ∧
    (runDrain h s).pending = s.pending := by
  unfold runDrain; split <;> simp

@[simp] theorem enterDrain_frame (h : Hoist) (s : State) :
    (enterDrain h s).unit = s.unit ∧ (enterDrain h s).link = s.link ∧ (enterDrain h s).arbiter = s.arbiter ∧
    (enterDrain h s).skimmer = s.skimmer ∧ (enterDrain h s).bath = s.bath ∧ (enterDrain h s).window = s.window ∧
    (enterDrain h s).records = s.records ∧ (enterDrain h s).balance = s.balance ∧
    (enterDrain h s).capture = s.capture ∧ (enterDrain h s).settings = s.settings ∧
    (enterDrain h s).free = s.free ∧ (enterDrain h s).pending = s.pending := by
  simp [enterDrain]

@[simp] theorem withdrawArrival_frame (h : Hoist) (s : State) :
    (withdrawArrival h s).unit = s.unit ∧ (withdrawArrival h s).bath = s.bath ∧
    (withdrawArrival h s).balance = s.balance ∧ (withdrawArrival h s).capture = s.capture ∧
    (withdrawArrival h s).settings = s.settings ∧ (withdrawArrival h s).free = s.free ∧
    (withdrawArrival h s).pending = s.pending := by
  unfold withdrawArrival; split <;> simp

@[simp] theorem exceedOverdip_frame (h : Hoist) (s : State) :
    (exceedOverdip h s).unit = s.unit ∧ (exceedOverdip h s).engA = s.engA ∧ (exceedOverdip h s).engB = s.engB ∧
    (exceedOverdip h s).arbiter = s.arbiter ∧ (exceedOverdip h s).skimmer = s.skimmer ∧
    (exceedOverdip h s).bath = s.bath ∧ (exceedOverdip h s).window = s.window ∧
    (exceedOverdip h s).balance = s.balance ∧ (exceedOverdip h s).field = s.field ∧
    (exceedOverdip h s).capture = s.capture ∧ (exceedOverdip h s).settings = s.settings ∧
    (exceedOverdip h s).free = s.free ∧ (exceedOverdip h s).pending = s.pending := by
  simp [exceedOverdip]

@[simp] theorem compareOverdip_frame (h : Hoist) (s : State) :
    (compareOverdip h s).unit = s.unit ∧ (compareOverdip h s).engA = s.engA ∧ (compareOverdip h s).engB = s.engB ∧
    (compareOverdip h s).arbiter = s.arbiter ∧ (compareOverdip h s).skimmer = s.skimmer ∧
    (compareOverdip h s).bath = s.bath ∧ (compareOverdip h s).window = s.window ∧
    (compareOverdip h s).balance = s.balance ∧ (compareOverdip h s).field = s.field ∧
    (compareOverdip h s).capture = s.capture ∧ (compareOverdip h s).settings = s.settings ∧
    (compareOverdip h s).free = s.free ∧ (compareOverdip h s).pending = s.pending := by
  unfold compareOverdip; split <;> simp

@[simp] theorem writeOverdip_frame (h : Hoist) (s : State) :
    (writeOverdip h s).unit = s.unit ∧ (writeOverdip h s).link = s.link ∧ (writeOverdip h s).engA = s.engA ∧
    (writeOverdip h s).engB = s.engB ∧ (writeOverdip h s).arbiter = s.arbiter ∧
    (writeOverdip h s).skimmer = s.skimmer ∧ (writeOverdip h s).bath = s.bath ∧
    (writeOverdip h s).window = s.window ∧ (writeOverdip h s).balance = s.balance ∧
    (writeOverdip h s).field = s.field ∧ (writeOverdip h s).capture = s.capture ∧
    (writeOverdip h s).settings = s.settings ∧ (writeOverdip h s).free = s.free ∧
    (writeOverdip h s).pending = s.pending := by
  unfold writeOverdip; split <;> simp

@[simp] theorem stopOverdip_frame (h : Hoist) (s : State) :
    (stopOverdip h s).unit = s.unit ∧ (stopOverdip h s).engA = s.engA ∧ (stopOverdip h s).engB = s.engB ∧
    (stopOverdip h s).arbiter = s.arbiter ∧ (stopOverdip h s).skimmer = s.skimmer ∧
    (stopOverdip h s).bath = s.bath ∧ (stopOverdip h s).window = s.window ∧ (stopOverdip h s).balance = s.balance ∧
    (stopOverdip h s).field = s.field ∧ (stopOverdip h s).capture = s.capture ∧
    (stopOverdip h s).settings = s.settings ∧ (stopOverdip h s).free = s.free ∧
    (stopOverdip h s).pending = s.pending := by
  simp [stopOverdip]

@[simp] theorem liftOut_frame (h : Hoist) (s : State) :
    (liftOut h s).unit = s.unit ∧ (liftOut h s).bath = s.bath ∧ (liftOut h s).balance = s.balance ∧
    (liftOut h s).capture = s.capture ∧ (liftOut h s).settings = s.settings ∧ (liftOut h s).free = s.free ∧
    (liftOut h s).pending = s.pending := by
  unfold liftOut; dsimp only
  (repeat' split) <;> simp

@[simp] theorem startWithdraw_frame (h : Hoist) (s : State) :
    (startWithdraw h s).unit = s.unit ∧ (startWithdraw h s).bath = s.bath ∧
    (startWithdraw h s).balance = s.balance ∧ (startWithdraw h s).capture = s.capture ∧
    (startWithdraw h s).settings = s.settings ∧ (startWithdraw h s).free = s.free ∧
    (startWithdraw h s).pending = s.pending := by
  simp [startWithdraw]

@[simp] theorem expireSkimWait_frame (h : Hoist) (s : State) :
    (expireSkimWait h s).unit = s.unit ∧ (expireSkimWait h s).bath = s.bath ∧
    (expireSkimWait h s).balance = s.balance ∧ (expireSkimWait h s).capture = s.capture ∧
    (expireSkimWait h s).settings = s.settings ∧ (expireSkimWait h s).free = s.free ∧
    (expireSkimWait h s).pending = s.pending := by
  unfold expireSkimWait; dsimp only
  (repeat' split) <;> simp

@[simp] theorem checkSkimWait_frame (h : Hoist) (s : State) :
    (checkSkimWait h s).unit = s.unit ∧ (checkSkimWait h s).bath = s.bath ∧
    (checkSkimWait h s).balance = s.balance ∧ (checkSkimWait h s).capture = s.capture ∧
    (checkSkimWait h s).settings = s.settings ∧ (checkSkimWait h s).free = s.free ∧
    (checkSkimWait h s).pending = s.pending := by
  unfold checkSkimWait; split <;> simp

@[simp] theorem askSkimAgain_frame (h : Hoist) (wait : Nat) (s : State) :
    (askSkimAgain h wait s).unit = s.unit ∧ (askSkimAgain h wait s).bath = s.bath ∧
    (askSkimAgain h wait s).balance = s.balance ∧ (askSkimAgain h wait s).capture = s.capture ∧
    (askSkimAgain h wait s).settings = s.settings ∧ (askSkimAgain h wait s).free = s.free ∧
    (askSkimAgain h wait s).pending = s.pending := by
  unfold askSkimAgain; dsimp only
  (repeat' split) <;> simp

@[simp] theorem endDecision_frame (h : Hoist) (s : State) :
    (endDecision h s).unit = s.unit ∧ (endDecision h s).bath = s.bath ∧ (endDecision h s).balance = s.balance ∧
    (endDecision h s).capture = s.capture ∧ (endDecision h s).settings = s.settings ∧
    (endDecision h s).free = s.free ∧ (endDecision h s).pending = s.pending := by
  unfold endDecision
  (repeat' split) <;> simp

@[simp] theorem startOverdip_frame (h : Hoist) (s : State) :
    (startOverdip h s).unit = s.unit ∧ (startOverdip h s).link = s.link ∧ (startOverdip h s).engA = s.engA ∧
    (startOverdip h s).engB = s.engB ∧ (startOverdip h s).arbiter = s.arbiter ∧
    (startOverdip h s).skimmer = s.skimmer ∧ (startOverdip h s).bath = s.bath ∧
    (startOverdip h s).window = s.window ∧ (startOverdip h s).records = s.records ∧
    (startOverdip h s).balance = s.balance ∧ (startOverdip h s).field = s.field ∧
    (startOverdip h s).capture = s.capture ∧ (startOverdip h s).settings = s.settings ∧
    (startOverdip h s).free = s.free ∧ (startOverdip h s).pending = s.pending := by
  simp [startOverdip]

@[simp] theorem countdownZero_frame (h : Hoist) (s : State) :
    (countdownZero h s).unit = s.unit ∧ (countdownZero h s).bath = s.bath ∧
    (countdownZero h s).balance = s.balance ∧ (countdownZero h s).capture = s.capture ∧
    (countdownZero h s).settings = s.settings ∧ (countdownZero h s).free = s.free ∧
    (countdownZero h s).pending = s.pending := by
  unfold countdownZero; dsimp only
  (repeat' split) <;> simp

@[simp] theorem skimDone_frame (h : Hoist) (s : State) :
    (skimDone h s).unit = s.unit ∧ (skimDone h s).bath = s.bath ∧ (skimDone h s).balance = s.balance ∧
    (skimDone h s).capture = s.capture ∧ (skimDone h s).settings = s.settings ∧ (skimDone h s).free = s.free ∧
    (skimDone h s).pending = s.pending := by
  unfold skimDone; dsimp only
  (repeat' split) <;> simp

@[simp] theorem skimMissedAnswer_frame (h : Hoist) (s : State) :
    (skimMissedAnswer h s).unit = s.unit ∧ (skimMissedAnswer h s).bath = s.bath ∧
    (skimMissedAnswer h s).balance = s.balance ∧ (skimMissedAnswer h s).capture = s.capture ∧
    (skimMissedAnswer h s).settings = s.settings ∧ (skimMissedAnswer h s).free = s.free ∧
    (skimMissedAnswer h s).pending = s.pending := by
  unfold skimMissedAnswer; dsimp only
  (repeat' split) <;> simp

@[simp] theorem weighInStable_frame (h : Hoist) (w : Nat) (r : Option RangeFlag) (s : State) :
    (weighInStable h w r s).unit = s.unit ∧ (weighInStable h w r s).engA = s.engA ∧
    (weighInStable h w r s).engB = s.engB ∧ (weighInStable h w r s).bath = s.bath ∧
    (weighInStable h w r s).balance = s.balance ∧ (weighInStable h w r s).capture = s.capture ∧
    (weighInStable h w r s).settings = s.settings ∧ (weighInStable h w r s).free = s.free ∧
    (weighInStable h w r s).pending = s.pending := by
  unfold weighInStable; split <;> simp

@[simp] theorem finishDip_frame (h : Hoist) (s : State) :
    (finishDip h s).unit = s.unit ∧ (finishDip h s).engA = s.engA ∧ (finishDip h s).engB = s.engB ∧
    (finishDip h s).capture = s.capture ∧ (finishDip h s).settings = s.settings ∧
    (finishDip h s).free = s.free ∧ (finishDip h s).pending = s.pending := by
  simp [finishDip]

@[simp] theorem recordOut_frame (h : Hoist) (f : LoadRec → LoadRec) (s : State) :
    (recordOut h f s).unit = s.unit ∧ (recordOut h f s).link = s.link ∧ (recordOut h f s).seqA = s.seqA ∧
    (recordOut h f s).seqB = s.seqB ∧ (recordOut h f s).engA = s.engA ∧ (recordOut h f s).engB = s.engB ∧
    (recordOut h f s).arbiter = s.arbiter ∧ (recordOut h f s).skimmer = s.skimmer ∧
    (recordOut h f s).bath = s.bath ∧ (recordOut h f s).window = s.window ∧
    (recordOut h f s).balance = s.balance ∧ (recordOut h f s).field = s.field ∧
    (recordOut h f s).capture = s.capture ∧ (recordOut h f s).settings = s.settings ∧
    (recordOut h f s).free = s.free ∧ (recordOut h f s).pending = s.pending := by
  simp [recordOut]

@[simp] theorem weighOutWith_frame (h : Hoist) (w : Nat) (r : Option RangeFlag) (unsettled : Bool) (s : State) :
    (weighOutWith h w r unsettled s).unit = s.unit ∧ (weighOutWith h w r unsettled s).engA = s.engA ∧
    (weighOutWith h w r unsettled s).engB = s.engB ∧ (weighOutWith h w r unsettled s).capture = s.capture ∧
    (weighOutWith h w r unsettled s).settings = s.settings ∧ (weighOutWith h w r unsettled s).free = s.free ∧
    (weighOutWith h w r unsettled s).pending = s.pending := by
  unfold weighOutWith; split <;> simp

@[simp] theorem weighOutNone_frame (h : Hoist) (s : State) :
    (weighOutNone h s).unit = s.unit ∧ (weighOutNone h s).engA = s.engA ∧ (weighOutNone h s).engB = s.engB ∧
    (weighOutNone h s).capture = s.capture ∧ (weighOutNone h s).settings = s.settings ∧
    (weighOutNone h s).free = s.free ∧ (weighOutNone h s).pending = s.pending := by
  simp [weighOutNone]

@[simp] theorem enterHeld_frame (h : Hoist) (s : State) :
    (enterHeld h s).unit = s.unit ∧ (enterHeld h s).link = s.link ∧ (enterHeld h s).arbiter = s.arbiter ∧
    (enterHeld h s).skimmer = s.skimmer ∧ (enterHeld h s).bath = s.bath ∧ (enterHeld h s).window = s.window ∧
    (enterHeld h s).records = s.records ∧ (enterHeld h s).balance = s.balance ∧
    (enterHeld h s).capture = s.capture ∧ (enterHeld h s).settings = s.settings ∧
    (enterHeld h s).free = s.free ∧ (enterHeld h s).pending = s.pending := by
  unfold enterHeld; split <;> simp

@[simp] theorem raisingArrival_frame (h : Hoist) (s : State) :
    (raisingArrival h s).unit = s.unit ∧ (raisingArrival h s).link = s.link ∧
    (raisingArrival h s).engA = s.engA ∧ (raisingArrival h s).engB = s.engB ∧
    (raisingArrival h s).arbiter = s.arbiter ∧ (raisingArrival h s).skimmer = s.skimmer ∧
    (raisingArrival h s).bath = s.bath ∧ (raisingArrival h s).window = s.window ∧
    (raisingArrival h s).records = s.records ∧ (raisingArrival h s).balance = s.balance ∧
    (raisingArrival h s).field = s.field ∧ (raisingArrival h s).capture = s.capture ∧
    (raisingArrival h s).settings = s.settings ∧ (raisingArrival h s).free = s.free ∧
    (raisingArrival h s).pending = s.pending := by
  simp [raisingArrival]

@[simp] theorem liftRaise_frame (h : Hoist) (s : State) :
    (liftRaise h s).unit = s.unit ∧ (liftRaise h s).link = s.link ∧ (liftRaise h s).engA = s.engA ∧
    (liftRaise h s).engB = s.engB ∧ (liftRaise h s).arbiter = s.arbiter ∧ (liftRaise h s).skimmer = s.skimmer ∧
    (liftRaise h s).bath = s.bath ∧ (liftRaise h s).window = s.window ∧ (liftRaise h s).records = s.records ∧
    (liftRaise h s).balance = s.balance ∧ (liftRaise h s).capture = s.capture ∧
    (liftRaise h s).settings = s.settings ∧ (liftRaise h s).free = s.free ∧ (liftRaise h s).pending = s.pending := by
  unfold liftRaise; dsimp only
  (repeat' split) <;> simp

@[simp] theorem enterRaising_frame (h : Hoist) (s : State) :
    (enterRaising h s).unit = s.unit ∧ (enterRaising h s).engA = s.engA ∧ (enterRaising h s).engB = s.engB ∧
    (enterRaising h s).bath = s.bath ∧ (enterRaising h s).balance = s.balance ∧
    (enterRaising h s).capture = s.capture ∧ (enterRaising h s).settings = s.settings ∧
    (enterRaising h s).free = s.free ∧ (enterRaising h s).pending = s.pending := by
  unfold enterRaising; split <;> simp

@[simp] theorem arrival_frame (h : Hoist) (s : State) :
    (arrival h s).unit = s.unit ∧ (arrival h s).bath = s.bath ∧ (arrival h s).balance = s.balance ∧
    (arrival h s).capture = s.capture ∧ (arrival h s).settings = s.settings ∧ (arrival h s).free = s.free ∧
    (arrival h s).pending = s.pending := by
  unfold arrival; dsimp only
  (repeat' split) <;> simp

@[simp] theorem issueKeptTravel_frame (h : Hoist) (s : State) :
    (issueKeptTravel h s).unit = s.unit ∧ (issueKeptTravel h s).engA = s.engA ∧
    (issueKeptTravel h s).engB = s.engB ∧ (issueKeptTravel h s).bath = s.bath ∧
    (issueKeptTravel h s).balance = s.balance ∧ (issueKeptTravel h s).capture = s.capture ∧
    (issueKeptTravel h s).settings = s.settings ∧ (issueKeptTravel h s).free = s.free ∧
    (issueKeptTravel h s).pending = s.pending := by
  unfold issueKeptTravel
  (repeat' split) <;> simp

@[simp] theorem recoverHeld_frame (h : Hoist) (p : Phase) (s : State) :
    (recoverHeld h p s).unit = s.unit ∧ (recoverHeld h p s).link = s.link ∧ (recoverHeld h p s).engA = s.engA ∧
    (recoverHeld h p s).engB = s.engB ∧ (recoverHeld h p s).arbiter = s.arbiter ∧
    (recoverHeld h p s).skimmer = s.skimmer ∧ (recoverHeld h p s).bath = s.bath ∧
    (recoverHeld h p s).window = s.window ∧ (recoverHeld h p s).records = s.records ∧
    (recoverHeld h p s).balance = s.balance ∧ (recoverHeld h p s).field = s.field ∧
    (recoverHeld h p s).capture = s.capture ∧ (recoverHeld h p s).settings = s.settings ∧
    (recoverHeld h p s).free = s.free ∧ (recoverHeld h p s).pending = s.pending := by
  simp [recoverHeld]

@[simp] theorem recoverInBath_frame (h : Hoist) (s : State) :
    (recoverInBath h s).unit = s.unit ∧ (recoverInBath h s).engA = s.engA ∧ (recoverInBath h s).engB = s.engB ∧
    (recoverInBath h s).arbiter = s.arbiter ∧ (recoverInBath h s).skimmer = s.skimmer ∧
    (recoverInBath h s).bath = s.bath ∧ (recoverInBath h s).window = s.window ∧
    (recoverInBath h s).balance = s.balance ∧ (recoverInBath h s).field = s.field ∧
    (recoverInBath h s).capture = s.capture ∧ (recoverInBath h s).settings = s.settings ∧
    (recoverInBath h s).free = s.free ∧ (recoverInBath h s).pending = s.pending := by
  simp [recoverInBath]

@[simp] theorem recoverClear_frame (h : Hoist) (s : State) :
    (recoverClear h s).unit = s.unit ∧ (recoverClear h s).engA = s.engA ∧ (recoverClear h s).engB = s.engB ∧
    (recoverClear h s).bath = s.bath ∧ (recoverClear h s).balance = s.balance ∧
    (recoverClear h s).capture = s.capture ∧ (recoverClear h s).settings = s.settings ∧
    (recoverClear h s).free = s.free ∧ (recoverClear h s).pending = s.pending := by
  unfold recoverClear
  (repeat' split) <;> simp

@[simp] theorem recoveryOutcome_frame (h : Hoist) (s : State) :
    (recoveryOutcome h s).unit = s.unit ∧ (recoveryOutcome h s).engA = s.engA ∧
    (recoveryOutcome h s).engB = s.engB ∧ (recoveryOutcome h s).bath = s.bath ∧
    (recoveryOutcome h s).balance = s.balance ∧ (recoveryOutcome h s).capture = s.capture ∧
    (recoveryOutcome h s).settings = s.settings ∧ (recoveryOutcome h s).free = s.free ∧
    (recoveryOutcome h s).pending = s.pending := by
  unfold recoveryOutcome; split <;> simp

@[simp] theorem capture_frame (r : FaultRecord) (s : State) :
    (capture r s).unit = s.unit ∧ (capture r s).seqA = s.seqA ∧ (capture r s).seqB = s.seqB ∧
    (capture r s).engA = s.engA ∧ (capture r s).engB = s.engB ∧ (capture r s).arbiter = s.arbiter ∧
    (capture r s).skimmer = s.skimmer ∧ (capture r s).bath = s.bath ∧ (capture r s).window = s.window ∧
    (capture r s).records = s.records ∧ (capture r s).balance = s.balance ∧ (capture r s).field = s.field ∧
    (capture r s).settings = s.settings ∧ (capture r s).free = s.free ∧ (capture r s).pending = s.pending := by
  unfold capture; split <;> simp

@[simp] theorem startDip_frame (h : Hoist) (r : LoadRec) (s : State) :
    (startDip h r s).unit = s.unit ∧ (startDip h r s).link = s.link ∧ (startDip h r s).arbiter = s.arbiter ∧
    (startDip h r s).skimmer = s.skimmer ∧ (startDip h r s).bath = s.bath ∧ (startDip h r s).window = s.window ∧
    (startDip h r s).balance = s.balance ∧ (startDip h r s).capture = s.capture ∧
    (startDip h r s).settings = s.settings ∧ (startDip h r s).free = s.free ∧
    (startDip h r s).pending = s.pending := by
  simp [startDip]

@[simp] theorem returnToImm_frame (h : Hoist) (s : State) :
    (returnToImm h s).unit = s.unit ∧ (returnToImm h s).link = s.link ∧ (returnToImm h s).engA = s.engA ∧
    (returnToImm h s).engB = s.engB ∧ (returnToImm h s).arbiter = s.arbiter ∧
    (returnToImm h s).skimmer = s.skimmer ∧ (returnToImm h s).bath = s.bath ∧
    (returnToImm h s).window = s.window ∧ (returnToImm h s).records = s.records ∧
    (returnToImm h s).balance = s.balance ∧ (returnToImm h s).capture = s.capture ∧
    (returnToImm h s).settings = s.settings ∧ (returnToImm h s).free = s.free ∧
    (returnToImm h s).pending = s.pending := by
  unfold returnToImm; split <;> simp

@[simp] theorem resumeImmerse_frame (h : Hoist) (s : State) :
    (resumeImmerse h s).unit = s.unit ∧ (resumeImmerse h s).bath = s.bath ∧
    (resumeImmerse h s).balance = s.balance ∧ (resumeImmerse h s).capture = s.capture ∧
    (resumeImmerse h s).settings = s.settings ∧ (resumeImmerse h s).free = s.free ∧
    (resumeImmerse h s).pending = s.pending := by
  unfold resumeImmerse
  (repeat' split) <;> simp

@[simp] theorem resumeWithdraw_frame (h : Hoist) (s : State) :
    (resumeWithdraw h s).unit = s.unit ∧ (resumeWithdraw h s).bath = s.bath ∧
    (resumeWithdraw h s).balance = s.balance ∧ (resumeWithdraw h s).capture = s.capture ∧
    (resumeWithdraw h s).settings = s.settings ∧ (resumeWithdraw h s).free = s.free ∧
    (resumeWithdraw h s).pending = s.pending := by
  simp [resumeWithdraw]

@[simp] theorem resumeDrain_frame (h : Hoist) (s : State) :
    (resumeDrain h s).unit = s.unit ∧ (resumeDrain h s).bath = s.bath ∧ (resumeDrain h s).balance = s.balance ∧
    (resumeDrain h s).capture = s.capture ∧ (resumeDrain h s).settings = s.settings ∧
    (resumeDrain h s).free = s.free ∧ (resumeDrain h s).pending = s.pending := by
  unfold resumeDrain; dsimp only
  (repeat' split) <;> simp

@[simp] theorem resumeWeighOut_frame (h : Hoist) (s : State) :
    (resumeWeighOut h s).unit = s.unit ∧ (resumeWeighOut h s).link = s.link ∧
    (resumeWeighOut h s).arbiter = s.arbiter ∧ (resumeWeighOut h s).skimmer = s.skimmer ∧
    (resumeWeighOut h s).bath = s.bath ∧ (resumeWeighOut h s).window = s.window ∧
    (resumeWeighOut h s).records = s.records ∧ (resumeWeighOut h s).balance = s.balance ∧
    (resumeWeighOut h s).capture = s.capture ∧ (resumeWeighOut h s).settings = s.settings ∧
    (resumeWeighOut h s).free = s.free ∧ (resumeWeighOut h s).pending = s.pending := by
  unfold resumeWeighOut; split <;> simp

@[simp] theorem takeUp_frame (h : Hoist) (p : Phase) (s : State) :
    (takeUp h p s).unit = s.unit ∧ (takeUp h p s).bath = s.bath ∧ (takeUp h p s).balance = s.balance ∧
    (takeUp h p s).capture = s.capture ∧ (takeUp h p s).settings = s.settings ∧ (takeUp h p s).free = s.free ∧
    (takeUp h p s).pending = s.pending := by
  unfold takeUp; dsimp only
  (repeat' split) <;> simp

@[simp] theorem jogTo_frame (h : Hoist) (target : Int) (s : State) :
    (jogTo h target s).unit = s.unit ∧ (jogTo h target s).link = s.link ∧ (jogTo h target s).engA = s.engA ∧
    (jogTo h target s).engB = s.engB ∧ (jogTo h target s).arbiter = s.arbiter ∧
    (jogTo h target s).skimmer = s.skimmer ∧ (jogTo h target s).bath = s.bath ∧
    (jogTo h target s).window = s.window ∧ (jogTo h target s).records = s.records ∧
    (jogTo h target s).balance = s.balance ∧ (jogTo h target s).capture = s.capture ∧
    (jogTo h target s).settings = s.settings ∧ (jogTo h target s).free = s.free ∧
    (jogTo h target s).pending = s.pending := by
  unfold jogTo; dsimp only
  (repeat' split) <;> simp

@[simp] theorem finishWithout_frame (h : Hoist) (s : State) :
    (finishWithout h s).unit = s.unit ∧ (finishWithout h s).engA = s.engA ∧ (finishWithout h s).engB = s.engB ∧
    (finishWithout h s).capture = s.capture ∧ (finishWithout h s).settings = s.settings ∧
    (finishWithout h s).free = s.free ∧ (finishWithout h s).pending = s.pending := by
  unfold finishWithout; dsimp only
  (repeat' split) <;> simp

@[simp] theorem pressButton_frame (h : Hoist) (s : State) :
    (pressButton h s).unit = s.unit ∧ (pressButton h s).link = s.link ∧ (pressButton h s).arbiter = s.arbiter ∧
    (pressButton h s).skimmer = s.skimmer ∧ (pressButton h s).bath = s.bath ∧
    (pressButton h s).window = s.window ∧ (pressButton h s).records = s.records ∧
    (pressButton h s).balance = s.balance ∧ (pressButton h s).capture = s.capture ∧
    (pressButton h s).settings = s.settings ∧ (pressButton h s).free = s.free ∧
    (pressButton h s).pending = s.pending := by
  unfold pressButton; dsimp only
  (repeat' split) <;> simp

@[simp] theorem releaseButton_frame (h : Hoist) (s : State) :
    (releaseButton h s).unit = s.unit ∧ (releaseButton h s).link = s.link ∧ (releaseButton h s).engA = s.engA ∧
    (releaseButton h s).engB = s.engB ∧ (releaseButton h s).arbiter = s.arbiter ∧
    (releaseButton h s).skimmer = s.skimmer ∧ (releaseButton h s).bath = s.bath ∧
    (releaseButton h s).window = s.window ∧ (releaseButton h s).records = s.records ∧
    (releaseButton h s).balance = s.balance ∧ (releaseButton h s).field = s.field ∧
    (releaseButton h s).capture = s.capture ∧ (releaseButton h s).settings = s.settings ∧
    (releaseButton h s).free = s.free ∧ (releaseButton h s).pending = s.pending := by
  simp [releaseButton]

@[simp] theorem fourSecondMark_frame (h : Hoist) (s : State) :
    (fourSecondMark h s).unit = s.unit ∧ (fourSecondMark h s).engA = s.engA ∧
    (fourSecondMark h s).engB = s.engB ∧ (fourSecondMark h s).bath = s.bath ∧
    (fourSecondMark h s).balance = s.balance ∧ (fourSecondMark h s).capture = s.capture ∧
    (fourSecondMark h s).settings = s.settings ∧ (fourSecondMark h s).free = s.free ∧
    (fourSecondMark h s).pending = s.pending := by
  unfold fourSecondMark; split <;> simp

@[simp] theorem overdue_frame (h : Hoist) (s : State) :
    (overdue h s).unit = s.unit ∧ (overdue h s).arbiter = s.arbiter ∧ (overdue h s).skimmer = s.skimmer ∧
    (overdue h s).bath = s.bath ∧ (overdue h s).window = s.window ∧ (overdue h s).records = s.records ∧
    (overdue h s).balance = s.balance ∧ (overdue h s).settings = s.settings ∧ (overdue h s).free = s.free ∧
    (overdue h s).pending = s.pending := by
  simp [overdue]

@[simp] theorem weighInPasses_frame (h : Hoist) (s : State) :
    (weighInPasses h s).unit = s.unit ∧ (weighInPasses h s).seqA = s.seqA ∧ (weighInPasses h s).seqB = s.seqB ∧
    (weighInPasses h s).arbiter = s.arbiter ∧ (weighInPasses h s).skimmer = s.skimmer ∧
    (weighInPasses h s).bath = s.bath ∧ (weighInPasses h s).window = s.window ∧
    (weighInPasses h s).records = s.records ∧ (weighInPasses h s).balance = s.balance ∧
    (weighInPasses h s).field = s.field ∧ (weighInPasses h s).capture = s.capture ∧
    (weighInPasses h s).settings = s.settings ∧ (weighInPasses h s).free = s.free ∧
    (weighInPasses h s).pending = s.pending := by
  simp [weighInPasses]

@[simp] theorem weighOutPasses_frame (h : Hoist) (s : State) :
    (weighOutPasses h s).unit = s.unit ∧ (weighOutPasses h s).capture = s.capture ∧
    (weighOutPasses h s).settings = s.settings ∧ (weighOutPasses h s).free = s.free ∧
    (weighOutPasses h s).pending = s.pending := by
  unfold weighOutPasses; split
  · simp
  · split <;> simp

@[simp] theorem noteUnknown_frame (cs : List ChannelView) (before : Bath) (s : State) :
    (noteUnknown cs before s).unit = s.unit ∧ (noteUnknown cs before s).seqA = s.seqA ∧
    (noteUnknown cs before s).seqB = s.seqB ∧ (noteUnknown cs before s).engA = s.engA ∧
    (noteUnknown cs before s).engB = s.engB ∧ (noteUnknown cs before s).arbiter = s.arbiter ∧
    (noteUnknown cs before s).skimmer = s.skimmer ∧ (noteUnknown cs before s).bath = s.bath ∧
    (noteUnknown cs before s).window = s.window ∧ (noteUnknown cs before s).records = s.records ∧
    (noteUnknown cs before s).balance = s.balance ∧ (noteUnknown cs before s).field = s.field ∧
    (noteUnknown cs before s).capture = s.capture ∧ (noteUnknown cs before s).settings = s.settings ∧
    (noteUnknown cs before s).free = s.free ∧ (noteUnknown cs before s).pending = s.pending := by
  unfold noteUnknown; split <;> simp

@[simp] theorem compareTrip_frame (s : State) :
    (compareTrip s).unit = s.unit ∧ (compareTrip s).seqA = s.seqA ∧ (compareTrip s).seqB = s.seqB ∧
    (compareTrip s).engA = s.engA ∧ (compareTrip s).engB = s.engB ∧ (compareTrip s).arbiter = s.arbiter ∧
    (compareTrip s).skimmer = s.skimmer ∧ (compareTrip s).window = s.window ∧
    (compareTrip s).records = s.records ∧ (compareTrip s).balance = s.balance ∧
    (compareTrip s).field = s.field ∧ (compareTrip s).capture = s.capture ∧
    (compareTrip s).settings = s.settings ∧ (compareTrip s).free = s.free ∧ (compareTrip s).pending = s.pending := by
  unfold compareTrip
  (repeat' split) <;> simp

@[simp] theorem thermoEnd_frame (cs : List ChannelView) (s : State) :
    (thermoEnd cs s).unit = s.unit ∧ (thermoEnd cs s).engA = s.engA ∧ (thermoEnd cs s).engB = s.engB ∧
    (thermoEnd cs s).arbiter = s.arbiter ∧ (thermoEnd cs s).balance = s.balance ∧
    (thermoEnd cs s).capture = s.capture ∧ (thermoEnd cs s).settings = s.settings ∧
    (thermoEnd cs s).pending = s.pending := by
  simp [thermoEnd]

@[simp] theorem takeReading_frame (depth temp : Int) (s : State) :
    (takeReading depth temp s).unit = s.unit ∧ (takeReading depth temp s).seqA = s.seqA ∧
    (takeReading depth temp s).seqB = s.seqB ∧ (takeReading depth temp s).engA = s.engA ∧
    (takeReading depth temp s).engB = s.engB ∧ (takeReading depth temp s).arbiter = s.arbiter ∧
    (takeReading depth temp s).skimmer = s.skimmer ∧ (takeReading depth temp s).window = s.window ∧
    (takeReading depth temp s).records = s.records ∧ (takeReading depth temp s).field = s.field ∧
    (takeReading depth temp s).capture = s.capture ∧ (takeReading depth temp s).settings = s.settings ∧
    (takeReading depth temp s).free = s.free ∧ (takeReading depth temp s).pending = s.pending := by
  simp [takeReading]

@[simp] theorem levelAnswer_frame (distance : Int) (s : State) :
    (levelAnswer distance s).unit = s.unit ∧ (levelAnswer distance s).seqA = s.seqA ∧
    (levelAnswer distance s).seqB = s.seqB ∧ (levelAnswer distance s).engA = s.engA ∧
    (levelAnswer distance s).engB = s.engB ∧ (levelAnswer distance s).arbiter = s.arbiter ∧
    (levelAnswer distance s).skimmer = s.skimmer ∧ (levelAnswer distance s).window = s.window ∧
    (levelAnswer distance s).records = s.records ∧ (levelAnswer distance s).field = s.field ∧
    (levelAnswer distance s).capture = s.capture ∧ (levelAnswer distance s).settings = s.settings ∧
    (levelAnswer distance s).free = s.free ∧ (levelAnswer distance s).pending = s.pending := by
  unfold levelAnswer
  (repeat' split) <;> simp

@[simp] theorem fallQuiet_frame (s : State) :
    (fallQuiet s).unit = s.unit ∧ (fallQuiet s).link = s.link ∧ (fallQuiet s).seqA = s.seqA ∧
    (fallQuiet s).seqB = s.seqB ∧ (fallQuiet s).engA = s.engA ∧ (fallQuiet s).engB = s.engB ∧
    (fallQuiet s).arbiter = s.arbiter ∧ (fallQuiet s).skimmer = s.skimmer ∧ (fallQuiet s).window = s.window ∧
    (fallQuiet s).records = s.records ∧ (fallQuiet s).balance = s.balance ∧ (fallQuiet s).capture = s.capture ∧
    (fallQuiet s).settings = s.settings ∧ (fallQuiet s).free = s.free ∧ (fallQuiet s).pending = s.pending := by
  simp [fallQuiet]

@[simp] theorem expireEntry_frame (s : State) :
    (expireEntry s).unit = s.unit ∧ (expireEntry s).engA = s.engA ∧ (expireEntry s).engB = s.engB ∧
    (expireEntry s).arbiter = s.arbiter ∧ (expireEntry s).bath = s.bath ∧ (expireEntry s).balance = s.balance ∧
    (expireEntry s).capture = s.capture ∧ (expireEntry s).settings = s.settings ∧
    (expireEntry s).pending = s.pending := by
  simp [expireEntry]

@[simp] theorem markLate_frame (h : Hoist) (s : State) :
    (markLate h s).unit = s.unit ∧ (markLate h s).link = s.link ∧ (markLate h s).engA = s.engA ∧
    (markLate h s).engB = s.engB ∧ (markLate h s).arbiter = s.arbiter ∧ (markLate h s).skimmer = s.skimmer ∧
    (markLate h s).bath = s.bath ∧ (markLate h s).window = s.window ∧ (markLate h s).records = s.records ∧
    (markLate h s).balance = s.balance ∧ (markLate h s).field = s.field ∧ (markLate h s).capture = s.capture ∧
    (markLate h s).settings = s.settings ∧ (markLate h s).free = s.free ∧ (markLate h s).pending = s.pending := by
  unfold markLate; split <;> simp

@[simp] theorem driveFault_frame (h : Hoist) (s : State) :
    (driveFault h s).unit = s.unit ∧ (driveFault h s).arbiter = s.arbiter ∧
    (driveFault h s).skimmer = s.skimmer ∧ (driveFault h s).bath = s.bath ∧ (driveFault h s).window = s.window ∧
    (driveFault h s).balance = s.balance ∧ (driveFault h s).capture = s.capture ∧
    (driveFault h s).settings = s.settings ∧ (driveFault h s).free = s.free ∧
    (driveFault h s).pending = s.pending := by
  unfold driveFault; split <;> simp

@[simp] theorem driveReport_frame (h : Hoist) (lift travel : Int) (atRest : Bool) (s : State) :
    (driveReport h lift travel atRest s).unit = s.unit ∧ (driveReport h lift travel atRest s).bath = s.bath ∧
    (driveReport h lift travel atRest s).balance = s.balance ∧
    (driveReport h lift travel atRest s).capture = s.capture ∧
    (driveReport h lift travel atRest s).settings = s.settings ∧
    (driveReport h lift travel atRest s).free = s.free ∧
    (driveReport h lift travel atRest s).pending = s.pending := by
  unfold driveReport; dsimp only
  (repeat' split) <;> simp

@[simp] theorem scaleReading_frame (h : Hoist) (x : Int) (s : State) :
    (scaleReading h x s).unit = s.unit ∧ (scaleReading h x s).capture = s.capture ∧
    (scaleReading h x s).settings = s.settings ∧ (scaleReading h x s).free = s.free ∧
    (scaleReading h x s).pending = s.pending := by
  have g := goodSample_frame h x s
  unfold scaleReading
  split <;> simp_all

@[simp] theorem skimmerAtRest_frame (s : State) :
    (skimmerAtRest s).unit = s.unit ∧ (skimmerAtRest s).bath = s.bath ∧ (skimmerAtRest s).balance = s.balance ∧
    (skimmerAtRest s).capture = s.capture ∧ (skimmerAtRest s).settings = s.settings ∧
    (skimmerAtRest s).free = s.free ∧ (skimmerAtRest s).pending = s.pending := by
  unfold skimmerAtRest
  (repeat' split) <;> simp

@[simp] theorem skimMissedAnswers_frame (l : List Hoist) (s : State) :
    (l.foldl (fun s h => skimMissedAnswer h s) s).unit = s.unit ∧
    (l.foldl (fun s h => skimMissedAnswer h s) s).bath = s.bath ∧
    (l.foldl (fun s h => skimMissedAnswer h s) s).balance = s.balance ∧
    (l.foldl (fun s h => skimMissedAnswer h s) s).capture = s.capture ∧
    (l.foldl (fun s h => skimMissedAnswer h s) s).settings = s.settings ∧
    (l.foldl (fun s h => skimMissedAnswer h s) s).free = s.free ∧
    (l.foldl (fun s h => skimMissedAnswer h s) s).pending = s.pending := by
  induction l generalizing s with
  | nil => simp
  | cons a l ih => simp [ih]

@[simp] theorem skimmerFault_frame (code : Nat) (s : State) :
    (skimmerFault code s).unit = s.unit ∧ (skimmerFault code s).bath = s.bath ∧
    (skimmerFault code s).balance = s.balance ∧ (skimmerFault code s).capture = s.capture ∧
    (skimmerFault code s).settings = s.settings ∧ (skimmerFault code s).free = s.free ∧
    (skimmerFault code s).pending = s.pending := by
  unfold skimmerFault; dsimp only
  (repeat' split) <;> simp

@[simp] theorem skimmerTook_frame (c : Command) (s : State) :
    (skimmerTook c s).unit = s.unit ∧ (skimmerTook c s).link = s.link ∧ (skimmerTook c s).seqA = s.seqA ∧
    (skimmerTook c s).seqB = s.seqB ∧ (skimmerTook c s).engA = s.engA ∧ (skimmerTook c s).engB = s.engB ∧
    (skimmerTook c s).arbiter = s.arbiter ∧ (skimmerTook c s).bath = s.bath ∧
    (skimmerTook c s).window = s.window ∧ (skimmerTook c s).records = s.records ∧
    (skimmerTook c s).balance = s.balance ∧ (skimmerTook c s).field = s.field ∧
    (skimmerTook c s).capture = s.capture ∧ (skimmerTook c s).settings = s.settings ∧
    (skimmerTook c s).free = s.free ∧ (skimmerTook c s).pending = s.pending := by
  unfold skimmerTook; split <;> simp

@[simp] theorem deliverReport_frame (st : Station) (r : FieldReport) (s : State) :
    (deliverReport st r s).unit = s.unit ∧ (deliverReport st r s).capture = s.capture ∧
    (deliverReport st r s).settings = s.settings ∧ (deliverReport st r s).pending = s.pending := by
  unfold deliverReport withDepthTrials
  (repeat' split) <;> simp

@[simp] theorem deliverMasked_frame (st : Station) (k : TransKind) (s : State) :
    (deliverMasked st k s).unit = s.unit ∧ (deliverMasked st k s).arbiter = s.arbiter ∧
    (deliverMasked st k s).balance = s.balance ∧ (deliverMasked st k s).capture = s.capture ∧
    (deliverMasked st k s).settings = s.settings ∧ (deliverMasked st k s).pending = s.pending := by
  unfold deliverMasked; split <;> simp

@[simp] theorem deliverFault_frame (st : Station) (code : Nat) (s : State) :
    (deliverFault st code s).unit = s.unit ∧ (deliverFault st code s).balance = s.balance ∧
    (deliverFault st code s).capture = s.capture ∧ (deliverFault st code s).settings = s.settings ∧
    (deliverFault st code s).pending = s.pending := by
  unfold deliverFault; split <;> simp

@[simp] theorem transactionEnd_frame (st : Station) (code : Nat) (k : TransKind) (attempts : Nat) (r : FieldReport) (s : State) :
    (transactionEnd st code k attempts r s).unit = s.unit ∧
    (transactionEnd st code k attempts r s).settings = s.settings ∧
    (transactionEnd st code k attempts r s).pending = s.pending := by
  unfold transactionEnd
  (repeat' split) <;> simp

@[simp] theorem attemptEnds_frame (st : Station) (code : Nat) (r : FieldReport) (t : Transaction) (s : State) :
    (attemptEnds st code r t s).unit = s.unit ∧ (attemptEnds st code r t s).settings = s.settings ∧
    (attemptEnds st code r t s).pending = s.pending := by
  unfold attemptEnds
  (repeat' split) <;> simp

@[simp] theorem answer_frame (st : Station) (code : Nat) (r : FieldReport) (s : State) :
    (answer st code r s).unit = s.unit ∧ (answer st code r s).settings = s.settings ∧
    (answer st code r s).pending = s.pending := by
  unfold answer; split <;> simp

@[simp] theorem noAnswer_frame (st : Station) (s : State) :
    (noAnswer st s).unit = s.unit ∧ (noAnswer st s).settings = s.settings ∧ (noAnswer st s).pending = s.pending := by
  unfold noAnswer; split <;> simp

@[simp] theorem duePoll_frame (st : Station) (s : State) :
    (duePoll st s).unit = s.unit ∧ (duePoll st s).link = s.link ∧ (duePoll st s).seqA = s.seqA ∧
    (duePoll st s).seqB = s.seqB ∧ (duePoll st s).engA = s.engA ∧ (duePoll st s).engB = s.engB ∧
    (duePoll st s).arbiter = s.arbiter ∧ (duePoll st s).skimmer = s.skimmer ∧ (duePoll st s).bath = s.bath ∧
    (duePoll st s).window = s.window ∧ (duePoll st s).records = s.records ∧ (duePoll st s).balance = s.balance ∧
    (duePoll st s).capture = s.capture ∧ (duePoll st s).settings = s.settings ∧ (duePoll st s).free = s.free ∧
    (duePoll st s).pending = s.pending := by
  unfold duePoll; split <;> simp

@[simp] theorem dueRetry_frame (st : Station) (s : State) :
    (dueRetry st s).unit = s.unit ∧ (dueRetry st s).link = s.link ∧ (dueRetry st s).seqA = s.seqA ∧
    (dueRetry st s).seqB = s.seqB ∧ (dueRetry st s).engA = s.engA ∧ (dueRetry st s).engB = s.engB ∧
    (dueRetry st s).arbiter = s.arbiter ∧ (dueRetry st s).skimmer = s.skimmer ∧ (dueRetry st s).bath = s.bath ∧
    (dueRetry st s).window = s.window ∧ (dueRetry st s).records = s.records ∧
    (dueRetry st s).balance = s.balance ∧ (dueRetry st s).capture = s.capture ∧
    (dueRetry st s).settings = s.settings ∧ (dueRetry st s).free = s.free ∧ (dueRetry st s).pending = s.pending := by
  unfold dueRetry
  (repeat' split) <;> simp

end Sys2Proof.Machine
end

