-- ==== Sys2Proof/Laws/PerInstr.lean ====
section
/-! SUPPORT. The family RequestIndex, command by command: a row of the table is a request with a payload exactly where it
has an owner that takes it, its kind stands in the request index, and the kind of its reply, 80h above, fits one byte
(R177, R180). -/

namespace Sys2Proof.Laws.RequestIndex

open Sys2Proof Sys2Proof.Machine

/-- A row is in the request index exactly where it has an owner, under a kind below 80h. -/
def Statement (i : Instr) : Prop :=
  (encodeRequest i).isSome = (ownerOf i).isSome ∧
    ∀ k p, encodeRequest i = some (k, p) → (payloadLength k).isSome = true ∧ k + 128 < 256

/-- A row that spells a request of a kind in the index, and has an owner. -/
theorem of_request {i : Instr} {k : Nat} {p : List Byte} (e : encodeRequest i = some (k, p))
    (o : (ownerOf i).isSome = true) (n : (payloadLength k).isSome = true ∧ k + 128 < 256) : Statement i := by
  refine ⟨by rw [e, o]; rfl, fun k' p' h => ?_⟩
  rw [e] at h
  cases h
  exact n

/-- A row that is an event. -/
theorem of_event {i : Instr} (e : encodeRequest i = none) (o : ownerOf i = none) : Statement i := by
  refine ⟨by rw [e, o]; rfl, fun k' p' h => ?_⟩
  rw [e] at h
  cases h

theorem identify : Statement (Instr.identify) := by
  exact of_request rfl rfl (by decide)

theorem readStatus : ∀ part, Statement (Instr.readStatus part) := by
  intros; exact of_request rfl rfl (by decide)

theorem setClock : ∀ value, Statement (Instr.setClock value) := by
  intros; exact of_request rfl rfl (by decide)

theorem restart : Statement (Instr.restart) := by
  exact of_request rfl rfl (by decide)

theorem writeSetting : ∀ id value, Statement (Instr.writeSetting id value) := by
  intros; exact of_request rfl rfl (by decide)

theorem readSetting : ∀ id, Statement (Instr.readSetting id) := by
  intros; exact of_request rfl rfl (by decide)

theorem writeClass : ∀ table number f1 f2 f3 f4 f5 f6, Statement (Instr.writeClass table number f1 f2 f3 f4 f5 f6) := by
  intros; exact of_request rfl rfl (by decide)

theorem readClass : ∀ table number, Statement (Instr.readClass table number) := by
  intros; exact of_request rfl rfl (by decide)

theorem lockCalibration : Statement (Instr.lockCalibration) := by
  exact of_request rfl rfl (by decide)

theorem openOrder : ∀ number reference, Statement (Instr.openOrder number reference) := by
  intros; exact of_request rfl rfl (by decide)

theorem closeOrder : ∀ number, Statement (Instr.closeOrder number) := by
  intros; exact of_request rfl rfl (by decide)

theorem readOrder : ∀ number, Statement (Instr.readOrder number) := by
  intros; exact of_request rfl rfl (by decide)

theorem removeOrder : ∀ number, Statement (Instr.removeOrder number) := by
  intros; exact of_request rfl rfl (by decide)

theorem registerLoad : ∀ id order jig sect silicon thick zones hang height declared, Statement (Instr.registerLoad id order jig sect silicon thick zones hang height declared) := by
  intros; exact of_request rfl rfl (by decide)

theorem readLoad : ∀ id, Statement (Instr.readLoad id) := by
  intros; exact of_request rfl rfl (by decide)

theorem removeLoad : ∀ id, Statement (Instr.removeLoad id) := by
  intros; exact of_request rfl rfl (by decide)

theorem addJig : ∀ jig base allowance, Statement (Instr.addJig jig base allowance) := by
  intros; exact of_request rfl rfl (by decide)

theorem readJig : ∀ jig, Statement (Instr.readJig jig) := by
  intros; exact of_request rfl rfl (by decide)

theorem stripJig : ∀ jig newBase, Statement (Instr.stripJig jig newBase) := by
  intros; exact of_request rfl rfl (by decide)

theorem removeJig : ∀ jig, Statement (Instr.removeJig jig) := by
  intros; exact of_request rfl rfl (by decide)

theorem present : ∀ hoist load, Statement (Instr.present hoist load) := by
  intros; exact of_request rfl rfl (by decide)

theorem hold : ∀ hoist, Statement (Instr.hold hoist) := by
  intros; exact of_request rfl rfl (by decide)

theorem resume : ∀ hoist, Statement (Instr.resume hoist) := by
  intros; exact of_request rfl rfl (by decide)

theorem jog : ∀ hoist delta, Statement (Instr.jog hoist delta) := by
  intros; exact of_request rfl rfl (by decide)

theorem cancel : ∀ hoist, Statement (Instr.cancel hoist) := by
  intros; exact of_request rfl rfl (by decide)

theorem acceptUnweighed : ∀ hoist, Statement (Instr.acceptUnweighed hoist) := by
  intros; exact of_request rfl rfl (by decide)

theorem finishUnweighed : ∀ hoist, Statement (Instr.finishUnweighed hoist) := by
  intros; exact of_request rfl rfl (by decide)

theorem enableHoist : ∀ hoist, Statement (Instr.enableHoist hoist) := by
  intros; exact of_request rfl rfl (by decide)

theorem disableHoist : ∀ hoist, Statement (Instr.disableHoist hoist) := by
  intros; exact of_request rfl rfl (by decide)

theorem setZoneService : ∀ zone state, Statement (Instr.setZoneService zone state) := by
  intros; exact of_request rfl rfl (by decide)

theorem claimZones : ∀ number first last, Statement (Instr.claimZones number first last) := by
  intros; exact of_request rfl rfl (by decide)

theorem releaseZones : ∀ number, Statement (Instr.releaseZones number) := by
  intros; exact of_request rfl rfl (by decide)

theorem readZones : Statement (Instr.readZones) := by
  exact of_request rfl rfl (by decide)

theorem restoreSkimmer : Statement (Instr.restoreSkimmer) := by
  exact of_request rfl rfl (by decide)

theorem chargeZinc : ∀ weight, Statement (Instr.chargeZinc weight) := by
  intros; exact of_request rfl rfl (by decide)

theorem reportDross : ∀ weight, Statement (Instr.reportDross weight) := by
  intros; exact of_request rfl rfl (by decide)

theorem reportAsh : ∀ weight, Statement (Instr.reportAsh weight) := by
  intros; exact of_request rfl rfl (by decide)

theorem reconcile : ∀ rebase, Statement (Instr.reconcile rebase) := by
  intros; exact of_request rfl rfl (by decide)

theorem readBalance : Statement (Instr.readBalance) := by
  exact of_request rfl rfl (by decide)

theorem closePeriod : Statement (Instr.closePeriod) := by
  exact of_request rfl rfl (by decide)

theorem readPeriod : ∀ number, Statement (Instr.readPeriod number) := by
  intros; exact of_request rfl rfl (by decide)

theorem discardPeriod : ∀ number, Statement (Instr.discardPeriod number) := by
  intros; exact of_request rfl rfl (by decide)

theorem fetchNotice : Statement (Instr.fetchNotice) := by
  exact of_request rfl rfl (by decide)

theorem setNoticeMask : ∀ fault progress, Statement (Instr.setNoticeMask fault progress) := by
  intros; exact of_request rfl rfl (by decide)

theorem readFault : Statement (Instr.readFault) := by
  exact of_request rfl rfl (by decide)

theorem ackFault : Statement (Instr.ackFault) := by
  exact of_request rfl rfl (by decide)

theorem readFieldStatus : ∀ clear, Statement (Instr.readFieldStatus clear) := by
  intros; exact of_request rfl rfl (by decide)

theorem unknownKindRequest : ∀ kind tag, Statement (Instr.unknownKindRequest kind tag) := by
  intros; exact of_event rfl rfl

theorem frameDiscarded : Statement (Instr.frameDiscarded) := by
  exact of_event rfl rfl

theorem frameGapTimeout : Statement (Instr.frameGapTimeout) := by
  exact of_event rfl rfl

theorem replySent : Statement (Instr.replySent) := by
  exact of_event rfl rfl

theorem supplyOn : ∀ fastBaud singleLine key, Statement (Instr.supplyOn fastBaud singleLine key) := by
  intros; exact of_event rfl rfl

theorem resetInputAsserted : Statement (Instr.resetInputAsserted) := by
  exact of_event rfl rfl

theorem resetInputReleased : Statement (Instr.resetInputReleased) := by
  exact of_event rfl rfl

theorem plantClockAdvance : Statement (Instr.plantClockAdvance) := by
  exact of_event rfl rfl

theorem holdButtonPress : ∀ h, Statement (Instr.holdButtonPress h) := by
  intros; exact of_event rfl rfl

theorem holdButtonRelease : ∀ h, Statement (Instr.holdButtonRelease h) := by
  intros; exact of_event rfl rfl

theorem holdButton4sMark : ∀ h, Statement (Instr.holdButton4sMark h) := by
  intros; exact of_event rfl rfl

theorem motionOverdue : ∀ h, Statement (Instr.motionOverdue h) := by
  intros; exact of_event rfl rfl

theorem skimLeadReached : ∀ h, Statement (Instr.skimLeadReached h) := by
  intros; exact of_event rfl rfl

theorem immersionCountdownZero : ∀ h, Statement (Instr.immersionCountdownZero h) := by
  intros; exact of_event rfl rfl

theorem skimWaitExpired : ∀ h, Statement (Instr.skimWaitExpired h) := by
  intros; exact of_event rfl rfl

theorem overdipLimitExceeded : ∀ h, Statement (Instr.overdipLimitExceeded h) := by
  intros; exact of_event rfl rfl

theorem vibrateEnd : ∀ h, Statement (Instr.vibrateEnd h) := by
  intros; exact of_event rfl rfl

theorem drainEnd : ∀ h, Statement (Instr.drainEnd h) := by
  intros; exact of_event rfl rfl

theorem recoveryTimeout : ∀ h, Statement (Instr.recoveryTimeout h) := by
  intros; exact of_event rfl rfl

theorem weighInTimeout : ∀ h, Statement (Instr.weighInTimeout h) := by
  intros; exact of_event rfl rfl

theorem weighOutTimeout : ∀ h, Statement (Instr.weighOutTimeout h) := by
  intros; exact of_event rfl rfl

theorem gateTrialTick : ∀ h, Statement (Instr.gateTrialTick h) := by
  intros; exact of_event rfl rfl

theorem windowEntryExpiry : Statement (Instr.windowEntryExpiry) := by
  exact of_event rfl rfl

theorem kettleQuiet : Statement (Instr.kettleQuiet) := by
  exact of_event rfl rfl

theorem reconcileTimeout : Statement (Instr.reconcileTimeout) := by
  exact of_event rfl rfl

theorem fieldPollDue : ∀ st, Statement (Instr.fieldPollDue st) := by
  intros; exact of_event rfl rfl

theorem fieldRetryDue : ∀ st, Statement (Instr.fieldRetryDue st) := by
  intros; exact of_event rfl rfl

theorem fieldNoAnswer : ∀ st, Statement (Instr.fieldNoAnswer st) := by
  intros; exact of_event rfl rfl

theorem fieldAnswerReceived : ∀ st code report, Statement (Instr.fieldAnswerReceived st code report) := by
  intros; exact of_event rfl rfl

theorem frameByteReceived : ∀ b, Statement (Instr.frameByteReceived b) := by
  intros; exact of_event rfl rfl

theorem supplyLost : ∀ cutOff, Statement (Instr.supplyLost cutOff) := by
  intros; exact of_event rfl rfl

end Sys2Proof.Laws.RequestIndex
end

