-- ==== Sys2Proof/Laws/Steps.lean ====
section
/-! SUPPORT. What one step can do, said once: a request goes to its owner, an event of the blocks' work has its effect and
ends, and the rest are the plant link's own, the buttons' and the resets'.  `exec_keeps` and
`step_keeps` derive from it that a property is kept by every command and by every step. -/

namespace Sys2Proof.Machine

/-- The effect of an event of the blocks' own work, before the end of the event. -/
def eventOf : Instr → Option (State → State)
  | .holdButton4sMark h => some (fun s => if fourSecondsDue h s then fourSecondMark h s else s)
  | .motionOverdue h => some (fun s => if overdueDue h s then overdue h s else lateOverdue h s)
  | .skimLeadReached h => some (sendSkimAtLead h)
  | .immersionCountdownZero h => some (fun s => if countdownZeroDue h s then countdownZero h s else s)
  | .skimWaitExpired h => some (checkSkimWait h)
  | .overdipLimitExceeded h => some (compareOverdip h)
  | .vibrateEnd h => some (fun s => if vibrateDue h s then runDrain h s else s)
  | .drainEnd h => some (fun s => if drainDue h s then enterWeighOut h s else s)
  | .recoveryTimeout h => some (fun s => if recoveryDue h s then recoverInBath h s else s)
  | .weighInTimeout h => some (fun s => if weighTimeoutDue h .weighIn s then weighInPasses h s else s)
  | .weighOutTimeout h =>
    some (fun s => if weighTimeoutDue h .weighOut s then withDepthTrials (weighOutPasses h) s else s)
  | .gateTrialTick h => some (trial h)
  | .windowEntryExpiry => some (fun s => if expiryDue s then expireEntry s else s)
  | .kettleQuiet => some (fun s => if quietDue s then fallQuiet s else s)
  | .reconcileTimeout => some (fun s => if reconcileDue s then endRecon .notQuiet s else s)
  | .fieldPollDue st => some (duePoll st)
  | .fieldRetryDue st => some (dueRetry st)
  | .fieldNoAnswer st => some (noAnswer st)
  | .fieldAnswerReceived st code r => some (answer st code r)
  | _ => none

/-- A command that has an owner is a request, taken to it. -/
theorem exec_owner {c : Instr} {f : State → State × Answer} (h : ownerOf c = some f) (s : State) :
    ∃ k, exec c s = .next (request k 0 f s) := by
  cases c <;> simp only [ownerOf, Option.some.injEq, reduceCtorEq] at h <;> subst h <;> exact ⟨_, rfl⟩

/-- An event of the blocks' work has its effect while the module works, and ends. -/
theorem exec_event {c : Instr} {e : State → State} (h : eventOf c = some e) (s : State) :
    exec c s = .next (event e s) := by
  cases c <;> simp only [eventOf, Option.some.injEq, reduceCtorEq] at h <;> subst h <;> rfl

/-- Every command is a request, an event of the blocks' work, or one of twelve more. -/
theorem command_cases (c : Instr) :
    (∃ f, ownerOf c = some f) ∨ (∃ e, eventOf c = some e) ∨
      (∃ k t, c = .unknownKindRequest k t) ∨ c = .frameDiscarded ∨ c = .frameGapTimeout ∨ c = .replySent ∨
      (∃ f l k, c = .supplyOn f l k) ∨ c = .resetInputAsserted ∨ c = .resetInputReleased ∨ c = .plantClockAdvance ∨
      (∃ h, c = .holdButtonPress h) ∨ (∃ h, c = .holdButtonRelease h) ∨ (∃ b, c = .frameByteReceived b) ∨
      (∃ x, c = .supplyLost x) := by
  cases c <;> simp [ownerOf, eventOf]

/-- A property that the owners' work, the events, the end of an event, the plant link's own items, the buttons and the
resets keep, is kept by every command. -/
theorem exec_keeps (P : State → Prop)
    (link : ∀ s rx buffer reply clock, P s →
      P { s with link := { s.link with rx := rx, buffer := buffer, reply := reply, clock := clock } })
    (owner : ∀ i f s, ownerOf i = some f → s.active = true → P s → P (f s).1)
    (effect : ∀ i e s, eventOf i = some e → s.active = true → P s → P (e s))
    (ends : ∀ s, P s → P (endEvent s))
    (press : ∀ h s, s.active = true → P s → P (pressButton h s))
    (release : ∀ h s, s.active = true → P s → P (releaseButton h s))
    (level : ∀ h b s, s.active = false → P s → P (holdLevel h b s))
    (work : ∀ s, P s → P (endWork s))
    (start : ∀ k s, s.unit.powered = true → P s → P (startUp k s))
    (down : ∀ x s, P s → P (powerDown x s))
    (up : ∀ f l k s, P s → P (powerUp f l k s))
    {c : Instr} {u t : State} (hq : P u) (hs : exec c u = .next t) : P t := by
  have resp : ∀ k tag a (u : State), P u → P (respond k tag a u) := fun k tag a u hu => by
    have := link u .answering [] (some { kind := (k + 128) % 256, tag := tag, status := a.status, body := a.body })
      u.link.clock hu
    exact this
  have disc : ∀ u, P u → P (discardFrame u) := fun u hu => by
    have := link u .hunting [] u.link.reply u.link.clock hu
    exact this
  rcases command_cases c with ⟨f, hf⟩ | ⟨e, he⟩ | ⟨k, tag, rfl⟩ | rfl | rfl | rfl | ⟨f, l, k, rfl⟩ | rfl | rfl | rfl |
    ⟨b, rfl⟩ | ⟨b, rfl⟩ | ⟨b, rfl⟩ | ⟨x, rfl⟩
  · obtain ⟨k, e⟩ := exec_owner hf u
    rw [e] at hs
    cases hs
    unfold request
    split
    · rename_i hl
      have ha : u.active = true := by
        simp [State.listening] at hl
        exact hl.1.1
      exact resp _ _ _ _ (owner c f u hf ha hq)
    · exact hq
  · rw [exec_event he u] at hs
    cases hs
    unfold event
    split
    · exact ends _ (effect c e u he ‹_› hq)
    · exact hq
  · simp only [exec, execUnknownKindRequest, Host.Outcome.next.injEq] at hs
    subst hs
    unfold unknownKind
    split
    · exact resp _ _ _ _ hq
    · exact hq
  · simp only [exec, execFrameDiscarded, Host.Outcome.next.injEq] at hs
    subst hs
    split
    · exact disc _ hq
    · exact hq
  · simp only [exec, execFrameGapTimeout, Host.Outcome.next.injEq] at hs
    subst hs
    (repeat' split) <;> first | exact disc _ hq | exact hq
  · simp only [exec, execReplySent, Host.Outcome.next.injEq] at hs
    subst hs
    split
    · rename_i hb
      have hp : (endWork u).unit.powered = true := by
        simp [State.active] at hb
        exact hb.1.1
      unfold replyEnds
      split
      · exact start _ _ hp (work _ hq)
      · exact link u .hunting [] none u.link.clock hq
    · exact hq
  · simp only [exec, execSupplyOn, Host.Outcome.next.injEq] at hs
    subst hs
    exact up f l k u hq
  · simp only [exec, execResetInputAsserted, Host.Outcome.next.injEq] at hs
    subst hs
    split
    · exact work _ hq
    · exact hq
  · simp only [exec, execResetInputReleased, Host.Outcome.next.injEq] at hs
    subst hs
    split
    · rename_i hb
      simp at hb
      exact start _ _ hb.1.1 (work _ hq)
    · exact hq
  · simp only [exec, execPlantClockAdvance, Host.Outcome.next.injEq] at hs
    subst hs
    split
    · exact link u u.link.rx u.link.buffer u.link.reply _ hq
    · exact hq
  · simp only [exec, execHoldButtonPress, Host.Outcome.next.injEq] at hs
    subst hs
    split
    · exact ends _ (press b u ‹_› hq)
    · exact level b true u (by simpa using ‹¬ u.active = true›) hq
  · simp only [exec, execHoldButtonRelease, Host.Outcome.next.injEq] at hs
    subst hs
    split
    · exact ends _ (release b u ‹_› hq)
    · exact level b false u (by simpa using ‹¬ u.active = true›) hq
  · simp only [exec, execFrameByteReceived, Host.Outcome.next.injEq] at hs
    subst hs
    split
    · rename_i ha
      unfold receiveByte
      split
      · split
        · exact link u .receiving [b] u.link.reply u.link.clock hq
        · exact hq
      · unfold storeByte
        dsimp only
        split
        · exact disc _ hq
        · split
          · split
            · unfold serve
              split
              · exact resp _ _ _ _ hq
              · exact resp _ _ _ _ hq
              · split
                · rename_i ho
                  exact resp _ _ _ _ (owner _ _ u ho ha hq)
                · exact hq
            · exact disc _ hq
          · exact link u u.link.rx _ u.link.reply u.link.clock hq
      · exact hq
    · exact hq
  · simp only [exec, execSupplyLost, Host.Outcome.next.injEq] at hs
    subst hs
    split
    · exact down x u hq
    · exact hq

/-- A property that every command keeps, and that the queue and the seconds keep, is kept by every step. -/
theorem step_keeps (P : State → Prop)
    (queue : ∀ s q, P s → P { s with pending := q })
    (link : ∀ s rx buffer reply clock, P s →
      P { s with link := { s.link with rx := rx, buffer := buffer, reply := reply, clock := clock } })
    (owner : ∀ i f s, ownerOf i = some f → s.active = true → P s → P (f s).1)
    (effect : ∀ i e s, eventOf i = some e → s.active = true → P s → P (e s))
    (ends : ∀ s, P s → P (endEvent s))
    (press : ∀ h s, s.active = true → P s → P (pressButton h s))
    (release : ∀ h s, s.active = true → P s → P (releaseButton h s))
    (level : ∀ h b s, s.active = false → P s → P (holdLevel h b s))
    (work : ∀ s, P s → P (endWork s))
    (start : ∀ k s, s.unit.powered = true → P s → P (startUp k s))
    (down : ∀ x s, P s → P (powerDown x s))
    (up : ∀ f l k s, P s → P (powerUp f l k s))
    (second : ∀ s, s.active = true → P s → P (countSecond s))
    {s t : State} (h : P s) (hs : step s = .next t) : P t := by
  unfold step at hs
  split at hs
  · cases hs
    unfold tick
    split
    · rename_i ha
      exact queue _ _ (second s ha h)
    · split
      · exact queue _ _ h
      · exact h
  · exact exec_keeps P link owner effect ends press release level work start down up (queue s _ h) hs

end Sys2Proof.Machine
end

