-- ==== Sys2Proof/Laws/Widths.lean ====
section
/-! SUPPORT. The widths of the records of a reply: an optional field takes the same bytes present and absent (R179), and a
notice takes the 21 bytes of R181. -/

namespace Sys2Proof.Machine

@[simp] theorem natBytes_length (n v : Nat) : (natBytes n v).length = n := by
  induction n generalizing v with
  | zero => rfl
  | succ n ih => simp [natBytes, ih]

@[simp] theorem encOpt_length {α : Type} {width : Nat} {f : α → List Byte} (h : ∀ a, (f a).length = width)
    (o : Option α) : (encOpt width f o).length = width + 1 := by
  cases o <;> simp [encOpt, h]

theorem encMotion_length (m : Motion) : (encMotion m).length = 7 := by simp [encMotion, enc1, enc2, encS4, intBytes]

theorem encLastWindow_length (w : LastWindow) : (encLastWindow w).length = 21 := by
  simp [encLastWindow, enc1, enc4, encS4, intBytes, encListed]

theorem encSweep_length (w : Sweep) : (encSweep w).length = 10 := by
  simp [encSweep, encHoist, encPair, enc1, enc4, encFlag]

theorem encResult_length (r : ReconResult) : (encResult r).length = 30 := by
  simp [encResult, enc1, enc4, encS4, intBytes, encFlag]

theorem encPending_length (p : PendingRecon) : (encPending p).length = 7 := by simp [encPending, enc2, enc4, enc1, encFlag]

theorem encReading_length (q : QuietReading) : (encReading q).length = 24 := by
  simp [encReading, enc2, enc4, encS2, encS4, intBytes]

theorem encNotice_length (n : Notice) : (encNotice n).length = 21 := by
  simp [encNotice, encHoist, enc1, enc2, enc4, encS4, intBytes]

/-- The items of R110 take one width, whatever is absent. -/
theorem encEngine_length (e : WeighEngine) : (encEngine e).length = 65 := by
  simp [encEngine, encLastWindow_length, enc1, enc2, enc4, encS4, intBytes, encFlag]

/-- Parts 0 and 1 of READ_STATUS take one width, whatever is absent (R196). -/
theorem encHoistStatus_length (q : Sequencer) (e : WeighEngine) : (encHoistStatus q e).length = 122 := by
  simp [encHoistStatus, encEngine_length, encMotion_length, enc1, enc2, enc4, encS4, intBytes, encFlag, encListed]

end Sys2Proof.Machine
end

