-- ==== Sys2Proof/Tests/Slice0.lean ====
section
/-! SUPPORT. Own tests: ill-formed terms that the checks refuse, figures worked in the manual, single steps on small
states, and, for every statement with hypotheses, one state and operands that meet them. -/

namespace Sys2Proof.Tests

open Sys2Proof Sys2Proof.Machine

/-! ## WellFormed: one ill-formed term for each check -/

theorem test_refuses_byte_above_255 : (Instr.readStatus 256).wellFormed = false := by decide
theorem test_refuses_word_above_65535 : (Instr.readLoad 65536).wellFormed = false := by decide
theorem test_refuses_long_above_32_bits : (Instr.setClock 4294967296).wellFormed = false := by decide
theorem test_refuses_signed_above_range : (Instr.writeSetting 1 2147483648).wellFormed = false := by decide
theorem test_refuses_signed_below_range : (Instr.jog 0 (-2147483649)).wellFormed = false := by decide
theorem test_refuses_optional_above_range : (Instr.stripJig 1 (some 4294967296)).wellFormed = false := by decide
theorem test_refuses_text_of_17 : (Instr.openOrder 1 (List.replicate 17 65)).wellFormed = false := by decide
theorem test_refuses_wide_character : (Instr.openOrder 1 [256]).wellFormed = false := by decide
theorem test_refuses_silicon_write_with_fields : (Instr.writeClass 1 0 60 1 0 0 0 0).wellFormed = false := by decide
theorem test_refuses_return_code_8 : (Instr.fieldAnswerReceived .level 8 .codeOnly).wellFormed = false := by decide
theorem test_refuses_reading_of_25_bits :
    (Instr.fieldAnswerReceived .scaleA 0 (.scale 8388608)).wellFormed = false := by decide
theorem test_refuses_channel_code_8 :
    (Instr.fieldAnswerReceived .thermo 0 (.thermo ⟨4500, 8⟩ ⟨4500, 0⟩ ⟨4500, 0⟩ ⟨4500, 0⟩)).wellFormed = false := by
  decide
theorem test_takes_the_widest_register_load :
    (Instr.registerLoad 65535 4294967295 255 255 255 65535 255 2147483647 (-2147483648) (some 4294967295)).wellFormed =
      true := by decide

/-! ## Figures worked in the manual -/

/-- R41: B 120, S 15, t 8, M_si 100, 38 tenths below θ_n 4500: 240 s and 9 s. -/
theorem test_recipe_extension : immersionTime 120 15 8 100 4500 4462 = 249 := by decide
/-- R42: below 30 is 30, above 1200 is 1200. -/
theorem test_recipe_clamps : immersionTime 0 1 1 40 4500 4500 = 30 ∧ immersionTime 900 60 100 150 4500 4500 = 1200 := by
  decide
/-- R79: the densities at 450.0, 452.3, 446.2, 440.0 and 490.0 degrees. -/
theorem test_density :
    density 4500 = 6570 ∧ density 4523 = 6567 ∧ density 4462 = 6574 ∧ density 4400 = 6581 ∧ density 4900 = 6526 := by
  decide
/-- R5: the two worked limits. -/
theorem test_overdue_limits : overdueLimit 5500 300 = 38 ∧ overdueLimit 3000 80 = 67 := by decide
/-- R2: the centre of zones 1 to 6 of a kettle of 14,000 mm is 2000 + 6·14000/24. -/
theorem test_span_centre : spanCentre 14000 1 6 = 5500 ∧ spanCentre 14000 10 12 = 14250 := by decide
/-- R102, R103: the conversion rounds half up and clamps. -/
theorem test_conversion :
    rawWeight 20 0 3277 = 1 ∧ rawWeight (-20) 0 3277 = -1 ∧ clampWeight (-1) = (0, some .under) ∧
      clampWeight 200001 = (200000, some .over) := by decide
/-- R131 to R133: pickup split at the allowance, and a loss beyond the tolerance. -/
theorem test_figures :
    figures (some 10000) (some 10600) 100 2000 50 =
      { loadPickup := some 500, jigPickup := some 100, blackNet := some 8000, galvNet := some 8500,
        steelLost := none, suspect := false } ∧
    figures (some 10000) (some 9949) 100 2000 50 =
      { loadPickup := some 0, jigPickup := some 0, blackNet := some 8000, galvNet := some 7949,
        steelLost := some 51, suspect := true } := by decide
/-- R159: a drive mask of all six bits keeps those of codes 2, 6 and 7. -/
theorem test_drive_mask : storedValue 30 63 = 49 ∧ storedValue 31 63 = 49 ∧ storedValue 32 63 = 63 := by decide
/-- R180: CHARGE_ZINC of 30,000 wu. -/
theorem test_charge_payload : encodeRequest (.chargeZinc 30000) = some (0x38, [0x30#8, 0x75#8, 0x00#8, 0x00#8]) := by
  decide
/-- The table gives no row any bits. -/
theorem test_no_word_spells_a_command : decodeTableWord 8 0 = none := by decide

/-! ## Small states -/

def s0 : State := State.reset

def r5 : LoadRec := LoadRec.made 5 7 9 0 0 8 3 1000 500 none

def lat : Latched :=
  { theta := 4500, tImm := 240, entryTime := 0, entrySpeed := 80, withdrawSpeed := 25, vibrate := 10, drain := 45 }

def recs (l : LoadRec) : Records :=
  { orders := [OrderRec.made 7 [] 0], loads := [l]
    jigs := [{ number := 9, base := 2000, allowance := 100, buildUp := 0, dips := 0, overflow := false,
               carriedBy := none }] }

/-- Load 5 registered, hoist A idle and clear. -/
def ready : State :=
  { s0 with records := recs r5, seqA := { s0.seqA with lift := some 4400, travel := some 0 } }

/-- Hoist A carrying load 5: its phase and held phase, its positions, whether the load is admitted. -/
def carry (p : Phase) (held : Option Phase) (x y : Int) (adm : Bool) : State :=
  { s0 with
    records := recs { r5 with state := .inCycle, hoist := some .A, span := some (1, 3), latched := if adm then some lat else none }
    arbiter := { s0.arbiter with spans := [{ owner := .hoist .A, first := 1, last := 3, granted := 0 }] }
    seqA := { s0.seqA with phase := p, heldPhase := held, load := some 5, pImm := some 1400, pClr := some 4400,
                           centre := some 3750, lift := some x, travel := some y } }

def withA (f : Sequencer → Sequencer) (s : State) : State := { s with seqA := f s.seqA }

def withWeigh (k : WeighKind) (elapsed : Nat) (best : Option BestWindow) (s : State) : State :=
  { s with engA := { weigh := some { kind := k, size := 8, band := 40, timeout := 20, elapsed := elapsed, passed := false,
                                     window := [1, 1, 1, 1, 1, 1, 1], best := best, completed := 0, bad := 0 }
                     last := none } }

def idleSkimmer (s : State) : State := { s with skimmer := { s.skimmer with mode := .idle, sweep := none } }

def onLine (k : TransKind) (n : Nat) : StationState :=
  { StationState.fresh with trans := some { kind := k, attempts := n, stage := .onLine } }

/-! ## Single steps -/

/-- The start-up of a module whose store is lost gives the state after reset, but for the draw of the next overtaking. -/
theorem test_reset_is_the_first_start_up :
    powerUp false false false
      { s0 with unit := { s0.unit with powered := false, checkGood := false, storeLost := false }
                link := { s0.link with notices := [], clock := 9 }, window := [{ weight := 1, age := 2 }] } =
      { State.reset with
        unit := { State.reset.unit with overtaken := Config.nextOvertaken 0 }
        free := 1 } := by rfl

/-- R199: a start-up overtaken after stage 2, and the reset input's own, raise two RESTARTED with their kinds. -/
theorem test_overtaken_start_up_restarts_twice :
    let s := powerUp false false false
      { s0 with unit := { s0.unit with powered := false, overtaken := some 1 }, pending := [.resetInputAsserted] };
    (startUp .input (enterReset { s with pending := [] })).link.notices.map Notice.data1 = [some 0, some 2] := by
  decide +kernel

/-- R198: with no reset and no loss of supply waiting, start-up reaches stage 8 whatever the draw, and the link receives. -/
theorem test_start_up_ends_when_nothing_overtakes :
    (powerUp false false false { s0 with unit := { s0.unit with powered := false, overtaken := some 1 } }).listening =
      true := by decide +kernel

/-- R17: a count of 61 that WITHDRAW stops with the limit at 60 raises OVERDIP all the same, and is written. -/
theorem test_overdip_at_the_stop :
    (let s := startWithdraw .A (withA (fun q => { q with overdip := some 61 }) (carry .awaitSkim none 1400 3750 true));
      (s.link.notices.map Notice.kind).contains .overdip = true ∧ (s.seq .A).overdipRaised = true ∧
        (s.carried .A).map LoadRec.overdipSeconds = some (some 61) ∧
        (s.carried .A).map (fun r => r.flags.nonconforming) = some true) ∧
      (let s := startWithdraw .A (withA (fun q => { q with overdip := some 60 }) (carry .awaitSkim none 1400 3750 true));
        (s.link.notices.map Notice.kind).contains .overdip = false ∧
          (s.carried .A).map LoadRec.overdipSeconds = some (some 60)) := by decide +kernel

/-- R139: a charge of 30,000 wu raises the book and the period. -/
theorem test_charge : ∃ t, exec (.chargeZinc 30000) s0 = .next t ∧ t.balance.book = 30000 ∧
    t.balance.current.charged = 30000 := ⟨_, rfl, by decide +kernel, by decide +kernel⟩

/-- R8, R52, R56: the stable weight of an eighth equal reading, and the hoist claim granted at once. -/
theorem test_stable_weigh_in :
    ((scaleReading .A 1 (withWeigh .weighIn 0 none { ready with
      seqA := (carry .weighIn none 4400 0 false).seqA, records := (carry .weighIn none 4400 0 false).records })).arbiter).spans =
      [{ owner := .hoist .A, first := 1, last := 3, granted := 0 }] := by decide +kernel

/-- R164, R166: a final code 3 of a drive is seen, kept and captured. -/
theorem test_drive_fault :
    ((transactionEnd .driveA 3 .poll 1 .codeOnly s0).capture.record.map FaultRecord.cause) =
      some (.station .driveA 3) := by decide +kernel

/-! ## Witnesses: for each statement with hypotheses, states and operands that meet them, clause by clause -/

def sOff : State := { s0 with unit := { s0.unit with powered := false } }

def sReset : State := { s0 with unit := { s0.unit with inReset := true } }

def sRx (x : RxState) (b : List Byte) : State := { s0 with link := { s0.link with rx := x, buffer := b } }

def note (k : NoticeKind) : Notice :=
  { kind := k, time := 0, hoist := none, load := none, data1 := none, data2 := none }

def withNotices (ns : List Notice) (s : State) : State := { s with link := { s.link with notices := ns } }

def withQueue (q : List Claim) (s : State) : State := { s with arbiter := { s.arbiter with queue := q } }

def claimOf (o : Owner) (n : Nat) : Claim := { claimant := o, need := .length n, joined := 0 }

def mclaim (k f l : Nat) : Claim := { claimant := .maint k, need := .zones f l, joined := 0 }

def withSpans (q : List Span) (s : State) : State := { s with arbiter := { s.arbiter with spans := q } }

def spanM (k f l : Nat) : Span := { owner := .maint k, first := f, last := l, granted := 0 }

def withSkim (m : SkimmerMode) (w : Option Sweep) (q : List SkimRequest) (s : State) : State :=
  { s with skimmer := { s.skimmer with mode := m, sweep := w, queue := q } }

def sweepA : Sweep := { hoist := some .A, span := some (1, 3), start := 0, abort := false }

def withTemp (t : Option Int) (s : State) : State := { s with bath := { s.bath with temp := t } }

def withLoadRec (f : LoadRec → LoadRec) (s : State) : State :=
  { s with records := { s.records with loads := s.records.loads.map f } }

def liftMotion : Motion := { axis := .lift, target := 4400, speed := 25, issued := 0, limit := 10, elapsed := 9 }

def masking (id : Nat) (v : Int) (s : State) : State :=
  { s with settings := { s.settings with values := s.settings.values.set (id - 1) v } }

def payload (i : Instr) : List Byte := ((encodeRequest i).map Prod.snd).getD []

theorem witness_StepTakesTheFrontCommand : { s0 with pending := [.identify] }.pending = [Instr.identify] := by decide

theorem witness_IdleSecondCountsByTheBlocksOwnTiming :
    (s0.pending = [] ∧ s0.active = true ∧ s0.disturbed = true) ∧
      (let s := idleSkimmer { ready with balance := { ready.balance with
          pending := some { requested := 0, rebase := false, waited := 599 } } };
        s.pending = [] ∧ s.active = true ∧ s.disturbed = false ∧ s.balance.pending.isSome = true) ∧
      (let s := withWeigh .weighOut 29 none (withA (fun q => { q with
          countdown := some 1, overdip := some 60, skimWait := some 29, skim := .waiting, motion := some liftMotion })
          (carry .held (some .immerse) 1400 3750 true));
        s.pending = [] ∧ s.active = true ∧ (s.eng .A).weigh.isSome = true ∧ (s.seq .A).countdown = some 1 ∧
          (s.seq .A).overdip = some 60 ∧ (s.seq .A).skimWait = some 29 ∧ (s.seq .A).motion = some liftMotion) ∧
      (sReset.pending = [] ∧ sReset.unit.powered = true ∧ sReset.unit.inReset = true) ∧
      sOff.pending = [] ∧ sOff.unit.powered = false := by decide +kernel

/-- One idle second with a condition of every kind met: draining, pressed, recovering, weighing, a full settle count. -/
def busySecond : State :=
  withWeigh .weighOut 19 none (withA (fun q => { q with
      vibrate := some 1, drain := some 45, vibratorOn := true, pressed := true, holdTimer := some 3 })
    { carry .drain none 4400 3750 true with
      bath := { s0.bath with settle := 29 }
      window := [{ weight := 1, age := 3599 }, { weight := 2, age := 3599 }]
      seqB := { s0.seqB with phase := .recover, recoverWait := some 9 } })

theorem witness_IdleSecondCountsByTheBlocksOwnTiming_dueEvents :
    (busySecond.pending = [] ∧ busySecond.active = true ∧ ∃ t, step busySecond = .next t) ∧
      (busySecond.seqA.motion = none ∧ busySecond.seqA.vibratorOn = true ∧ busySecond.seqA.phase = .drain) ∧
      ((withA (fun q => { q with vibratorOn := false, vibrate := some 0, drain := some 1 }) busySecond).seqA.drain =
        some 1) := ⟨⟨by decide, by decide, _, rfl⟩, by decide, by decide⟩

theorem witness_EncodedRequestReadsBackAsItself :
    (∃ p, (Instr.stripJig 255 (some 4294967295)).wellFormed = true ∧
        encodeRequest (.stripJig 255 (some 4294967295)) = some (0x1A, p)) ∧
      ∃ p, (Instr.openOrder 4294967295 (List.replicate 16 126)).wellFormed = true ∧
        encodeRequest (.openOrder 4294967295 (List.replicate 16 126)) = some (0x10, p) :=
  ⟨⟨_, by decide, rfl⟩, ⟨_, by decide, rfl⟩⟩

def lightLoad : Instr := .registerLoad 1 1 1 0 0 1 1 200 100 none

theorem witness_FormChecksStandInTheirOrder :
    payloadLength 0x45 = none ∧ payloadLength 0x38 = some 4 ∧ [0x30#8, 0x75#8, 0x00#8].length ≠ 4 ∧
      payloadLength 0x14 = some (payload lightLoad).length ∧ checkForm 0x14 (payload lightLoad) = .request lightLoad ∧
      field (payload lightLoad) 20 1 = 0 ∧
      payloadLength 0x1A = some 6 ∧ checkForm 0x1A [1, 0, 0, 0, 0, 0] = .request (.stripJig 1 none) ∧
      field [1, 0, 0, 0, 0, 0] 1 1 = 0 ∧
      checkForm 0x0A (payload (.writeClass 1 3 150 0 0 0 0 0)) = .request (.writeClass 1 3 150 0 0 0 0 0) ∧
      field (payload (.writeClass 1 3 150 0 0 0 0 0)) 0 1 = 1 ∧
      checkForm 0x10 (payload (.openOrder 1 (List.replicate 16 32))) = .request (.openOrder 1 (List.replicate 16 32)) ∧
      field (payload (.openOrder 1 (List.replicate 16 32))) 4 1 = 16 := by decide +kernel

theorem witness_FormChecksStandInTheirOrder_reservedBytes :
    (let p (a b : Byte) : List Byte := List.replicate 20 0 ++ a :: List.replicate 3 0 ++ [b];
      (p 2 0).length = 25 ∧ 1 < field (p 2 0) 20 1 ∧ field (p 0 1) 20 1 = 0 ∧ field (p 0 1) 21 4 ≠ 0) ∧
      (([1, 2, 0, 0, 0, 0] : List Byte).length = 6 ∧ 1 < field [1, 2, 0, 0, 0, 0] 1 1 ∧
        field [1, 0, 0, 0, 0, 1] 1 1 = 0 ∧ field [1, 0, 0, 0, 0, 1] 2 4 ≠ 0) ∧
      (let p : List Byte := 1 :: List.replicate 12 0 ++ [1]; p.length = 14 ∧ field p 0 1 = 1 ∧ field p 4 10 ≠ 0) ∧
      (let p : List Byte := 1 :: List.replicate 3 0 ++ 15 :: List.replicate 16 32;
        p.length = 21 ∧ field p 4 1 ≤ 16 ∧ field p (5 + field p 4 1) (16 - field p 4 1) ≠ 0) := by decide +kernel

theorem witness_GoodFrameIsTheRequestItSpells :
    (Instr.chargeZinc 30000).wellFormed = true ∧
      encodeRequest (.chargeZinc 30000) = some (0x38, [0x30#8, 0x75#8, 0x00#8, 0x00#8]) ∧ 255 < 256 ∧
      s0.listening = true ∧ s0.link.rx = .hunting ∧
      ∃ t, exec (.chargeZinc 30000) { s0 with link := { s0.link with
        rx := .receiving, buffer := (frameOf 0x38 255 [0x30#8, 0x75#8, 0x00#8, 0x00#8]).dropLast } } = .next t :=
  ⟨by decide, by decide, by decide, by decide, by decide, ⟨_, rfl⟩⟩

theorem witness_BytesAndDiscardsInEachReceivingState :
    (s0.active = true ∧ s0.link.rx = .hunting ∧ (0xA6#8 : Byte) ≠ 0xA7#8) ∧
      (sRx .answering []).link.rx = .answering ∧
      (1 ≤ (sRx .receiving [0xA7#8]).link.buffer.length ∧ 200 < field ([0xA7#8] ++ [201#8]) 1 1) ∧
      (field ([0xA7#8] ++ [200#8]) 1 1 ≤ 200 ∧ ([0xA7#8] ++ [200#8]).length < 200 + 6) ∧
      (let f : List Byte := [0xA7#8, 0x00#8, 0x01#8, 0x00#8, 0x00#8, 0x00#8];
        field f 1 1 = 0 ∧ f.length = 6 ∧ (crc ((f.drop 1).take 3)).toNat ≠ 256 * field f 4 1 + field f 5 1) ∧
      ((sRx .receiving [0xA7#8]).active = true ∧ (sRx .receiving [0xA7#8]).link.rx = .receiving) ∧
      s0.link.rx ≠ .receiving ∧ s0.listening = true ∧ payloadLength 0x00 = none ∧ payloadLength 0xFF = none := by
  decide +kernel

theorem witness_BytesAndDiscardsInEachReceivingState_badForms :
    (255 < 256 ∧ ([0x30#8, 0x75#8, 0x00#8] : List Byte).length ≤ 200 ∧ s0.listening = true ∧ s0.link.rx = .hunting) ∧
      checkForm 0x38 [0x30#8, 0x75#8, 0x00#8] = .format ∧ checkForm 0xFF [] = .unknownKind ∧
      checkForm 0x1A [1, 2, 0, 0, 0, 0] = .format := by decide +kernel

theorem witness_NoticeJoinsDisplacesOrIsLost :
    (withNotices (List.replicate 31 (note .entered)) s0).link.notices.length < 32 ∧
      (32 ≤ (withNotices (List.replicate 32 (note .entered)) s0).link.notices.length ∧
        NoticeKind.isFault .entered = false) ∧
      (∀ x ∈ List.replicate 32 (note .overdip), x.kind.isProgress = false) ∧
      (let before := [note .fieldFault]; let after := List.replicate 30 (note .overdip);
        32 ≤ (before ++ note .entered :: after).length ∧ NoticeKind.isFault .skimmerOut = true ∧
          NoticeKind.isProgress .entered = true ∧ ∀ x ∈ before, x.kind.isProgress = false) := by decide +kernel

theorem witness_FetchReturnsTheHeadNotice :
    s0.listening = true ∧ s0.link.notices = s0.link.notices.head?.toList ++ s0.link.notices.tail ∧
      s0.link.notices ≠ [] ∧ (withNotices [note .storeLost] s0).link.notices = note .storeLost :: [] ∧
      (withNotices [] s0).listening = true ∧ (withNotices [] s0).link.notices = [] := by decide +kernel

theorem witness_MasksAndClockAreSetAndTheClockAdvances :
    s0.listening = true ∧ 1 < 2 ∧ 4294967295 < 4294967296 ∧
      (let s := { s0 with link := { s0.link with clock := 4294967295 } };
        s.unit.powered = true ∧ s.link.clock ≤ 4294967295) := by decide +kernel

theorem witness_RequestsAreLostAndRepliesEnd :
    (sOff.listening = false ∧ (encodeRequest .restart).isSome = true ∧ sReset.active = false) ∧
      ((sRx .answering []).listening = false ∧ (sRx .answering []).active = true ∧
        (sRx .answering []).unit.restartPending = false ∧ (sRx .answering []).link.rx = .answering) ∧
      (sRx .receiving []).link.rx ≠ .answering := by decide +kernel

theorem witness_ResetInputAndLossOfSupplyEndAllWork :
    Instr.resetInputAsserted ∈ [Instr.resetInputAsserted, .supplyLost false, .supplyLost true] ∧
      (carry .immerse none 1400 3750 true).unit.powered = true ∧ sReset.unit.powered = true := by decide +kernel

def restarting (s : State) : State :=
  { s with unit := { s.unit with restartPending := true }, link := { s.link with rx := .answering } }

/-- The reset input is held with every kind of work kept or ended: a load in the bath, a claim, a skim, a pending
reconciliation. -/
def worked : State :=
  withQueue [mclaim 1 4 4] (withSkim .sweeping (some sweepA) []
    { carry .immerse none 1400 3750 true with
      balance := { s0.balance with pending := some { requested := 0, rebase := true, waited := 5 } } })

/-- The draw for the next start-up, with a command that may overtake it waiting behind another. -/
def overtake (n : Fin 7) (c : Instr) (s : State) : State :=
  { s with unit := { s.unit with overtaken := some n }, pending := [.lockCalibration, c] }

theorem overtake_interrupted (n : Fin 7) (s : State) :
    (overtake n .resetInputAsserted s).interrupted ∧ (overtake n (.supplyLost true) s).interrupted :=
  ⟨⟨.resetInputAsserted, by simp [overtake], .inl rfl⟩, ⟨.supplyLost true, by simp [overtake], .inr ⟨true, rfl⟩⟩⟩

theorem worked_not_interrupted (x : Module) : ¬ ({ worked with unit := x } : State).interrupted := by
  rintro ⟨c, h, -⟩; exact absurd h (by simp [worked, withQueue, withSkim, carry, s0, State.reset])

theorem witness_CommandResetKeepsWhatTheManualKeeps :
    (let s := restarting worked;
      s.active = true ∧ s.link.rx = .answering ∧ s.unit.restartPending = true ∧ s.unit.overtaken = none ∧
        (overtake 6 .resetInputAsserted s).unit.overtaken = some 6) ∧
      (let s := { worked with unit := { worked.unit with inReset := true } };
        s.unit.powered = true ∧ s.unit.inReset = true ∧ s.unit.starting = none ∧ s.unit.overtaken = none ∧
          (overtake 0 (.supplyLost true) s).unit.overtaken = some 0) ∧
      (sOff.unit.powered = false ∧ s0.unit.inReset = false ∧
        { s0 with unit := { s0.unit with inReset := true, starting := some 7 } }.unit.starting ≠ none) := by decide +kernel

theorem witness_SupplyOnByTheCheckOfTheStore :
    (worked.unit.checkGood = true ∧ worked.unit.overtaken = none ∧
        (overtake 0 (.supplyLost true) worked).unit.checkGood = true) ∧
      (let s := { worked with unit := { worked.unit with checkGood := false } };
        s.unit.checkGood = false ∧ s.unit.overtaken = none ∧
          (overtake 6 .resetInputAsserted s).unit.checkGood = false) := by decide +kernel

def locked : State := { s0 with settings := { s0.settings with lock := true } }

theorem witness_WriteSettingByItsTable :
    (s0.listening = true ∧ locked.listening = true ∧ locked.settings.lock = true ∧ (1 : Nat) ≤ 8) ∧
      ((9 : Int) ∉ ([8, 16, 32] : List Int) ∧ (32 : Int) ∈ ([8, 16, 32] : List Int)) ∧
      -- ids 1, 9 and 37 at and beyond their ranges, and the kettle length against the station of hoist B
      ((18001 : Int) ≤ (s0.settingRange 1).2 ∧ s0.setting 12 < 2000 + 18001 ∧
        (s0.settingRange 1).1 ≤ 18000 ∧ (18000 : Int) ≤ (s0.settingRange 1).2 ∧ 2000 + 18000 ≤ s0.setting 12) ∧
      ((199 : Int) < (s0.settingRange 9).1 ∧ (s0.settingRange 37).2 < 2 ∧
        (locked.settingRange 9).1 ≤ 200 ∧ (locked.settingRange 37).2 = 1) ∧
      ((s0.settingRange 30).1 ≤ 63 ∧ 63 ≤ (s0.settingRange 31).2) ∧
      ((s0.settingRange 22).1 ≤ 500 ∧ 4000 ≤ (s0.settingRange 22).2) := by decide +kernel

theorem witness_WriteClassReplacesAWholeRecord :
    s0.listening = true ∧ 1 < 2 ∧ (15 < 16 ∧ 900 < 901) ∧ (3 < 4 ∧ 39 < 40) ∧
      (15 ≤ 15 ∧ 900 ≤ 900 ∧ 60 ≤ 60 ∧ 10 ≤ 10 ∧ 10 ≤ 200 ∧ 5 ≤ 5 ∧ 5 ≤ 60 ∧ 60 ≤ 60 ∧ 600 ≤ 600) ∧
      (3 ≤ 3 ∧ 40 ≤ 150 ∧ 150 ≤ 150) := by decide +kernel

theorem witness_SettingsStoreReadsAndLock :
    s0.listening = true ∧ s0.settings.sections[15]? = some SectionClass.default ∧
      s0.settings.silicons[3]? = some 90 ∧ 4 < 5 := by decide +kernel

theorem witness_SettingsStoreReadsAndLock_readings :
    ((carry .immerse none 1400 3750 true).latched .A = some lat ∧ (carry .weighIn none 4400 0 false).latched .A = none ∧
      ((carry .weighIn none 4400 0 false).seq .A).load = some 5) := by decide +kernel

def withOrders (n : Nat) : State :=
  { s0 with records := { s0.records with orders := (List.range' 1 n).map (fun k => OrderRec.made k [] 0) } }

def closed (s : State) : State :=
  { s with records := { s.records with orders := s.records.orders.map (fun o => { o with isOpen := false }) } }

theorem witness_OrdersAreOpenedClosedReadAndRemoved :
    (s0.listening = true ∧ 16 < (List.replicate 17 65).length ∧ (0x1F < 0x20 ∧ 0x7E < 0x7F)) ∧
      ((0 : Nat) = 0 ∧ 4294967295 < 4294967296) ∧
      ((List.replicate 16 0x7E).length ≤ 16 ∧ (∀ c ∈ List.replicate 16 0x7E, 0x20 ≤ c ∧ c ≤ 0x7E)) ∧
      (∃ o ∈ (withOrders 32).records.orders, o.number = 1) ∧
      ((∀ o ∈ (withOrders 32).records.orders, o.number ≠ 4294967295) ∧ 32 ≤ (withOrders 32).records.orders.length) ∧
      ((∀ o ∈ (withOrders 31).records.orders, o.number ≠ 32) ∧ (withOrders 31).records.orders.length < 32) ∧
      -- order 7 open with a load that is registered, closed with none, and with a load in cycle
      (ready.records.orders.find? (fun o => o.number == 7) = some (OrderRec.made 7 [] 0) ∧
        (∀ r ∈ ready.records.loads, r.order = 7 → r.state ≠ .inCycle) ∧ (∃ r ∈ ready.records.loads, r.order = 7)) ∧
      ((closed (withOrders 1)).records.orders.find? (fun o => o.number == 1) =
          some { OrderRec.made 1 [] 0 with isOpen := false } ∧
        ∀ r ∈ (closed (withOrders 1)).records.loads, r.order ≠ 1) ∧
      (let s := carry .immerse none 1400 3750 true; ∃ r ∈ s.records.loads, r.order = 7 ∧ r.state = .inCycle) := by
  decide +kernel

def manyLoads (n : Nat) : State :=
  { ready with records := { ready.records with
      loads := (List.range' 1 n).map (fun k => LoadRec.made k 7 9 0 0 8 3 1000 500 none) } }

theorem witness_RegisterLoadByItsTable :
    s0.listening = true ∧ (65535 < 65536 ∧ (4000 : Int) < 4001 ∧ (99 : Int) < 100 ∧ 200000 < 200001) ∧
      ((65535 ≤ 65535 ∧ 15 ≤ 15 ∧ 3 ≤ 3 ∧ 12 ≤ 12 ∧ (200 : Int) ≤ 200 ∧ (3500 : Int) ≤ 3500) ∧
        ∀ w, some 200000 = some w → 1 ≤ w ∧ w ≤ 200000) ∧
      (∀ o ∈ ready.records.orders, o.number ≠ 8) ∧ (∀ j ∈ ready.records.jigs, j.number ≠ 8) ∧
      (ready.records.orders.find? (fun o => o.number == 7) = some (OrderRec.made 7 [] 0) ∧
        ∃ j ∈ ready.records.jigs, j.number = 9) ∧
      ((closed ready).records.orders.find? (fun o => o.number == 7) =
        some { OrderRec.made 7 [] 0 with isOpen := false }) ∧
      (∃ r ∈ ready.records.loads, r.id = 5) ∧
      ((∀ r ∈ (manyLoads 48).records.loads, r.id ≠ 65535) ∧ 48 ≤ (manyLoads 48).records.loads.length) ∧
      ((∀ r ∈ (manyLoads 47).records.loads, r.id ≠ 48) ∧ (manyLoads 47).records.loads.length < 48) :=
  ⟨by decide, by decide, ⟨by decide, fun w h => by cases h; decide⟩, by decide, by decide, by decide, by decide,
    by decide, by decide +kernel, by decide +kernel⟩

def manyJigs (n : Nat) : State :=
  { s0 with records := { s0.records with jigs := (List.range' 1 n).map (fun k =>
      { number := k, base := 50000, allowance := 2000, buildUp := 0, dips := 0, overflow := false,
        carriedBy := none }) } }

theorem witness_LoadsAndJigsAreReadAndRemoved :
    (ready.listening = true ∧ 65535 < 65536 ∧ ∀ r ∈ ready.records.loads, r.id ≠ 6) ∧
      (ready.records.loads.find? (fun r => r.id == 5) = some r5 ∧ r5.loadPickup = none ∧ r5.state ≠ .inCycle) ∧
      (let r := { r5 with loadPickup := some 500, blackNet := some 1 };
        (withLoadRec (fun _ => r) ready).records.loads.find? (fun r => r.id == 5) = some r ∧ 0 < 1) ∧
      (let s := carry .immerse none 1400 3750 true; (s.records.loads.map LoadRec.state) = [.inCycle]) ∧
      (s0.listening = true ∧ (0 : Nat) = 0 ∧ 255 < 256 ∧ 50000 < 50001 ∧ 2000 < 2001) ∧
      ((∀ j ∈ (manyJigs 64).records.jigs, j.number ≠ 255) ∧ 64 ≤ (manyJigs 64).records.jigs.length) ∧
      ((∀ j ∈ (manyJigs 63).records.jigs, j.number ≠ 64) ∧ (manyJigs 63).records.jigs.length < 64) ∧
      ((manyJigs 1).records.jigs.find? (fun j => j.number == 1)).map JigRec.carriedBy = some none ∧
      (∃ r ∈ ready.records.loads, r.jig = 9 ∧ r.state ≠ .complete) ∧
      (let s := withLoadRec (fun r => { r with state := .complete }) ready;
        ∀ r ∈ s.records.loads, r.jig = 9 → r.state = .complete) ∧
      (let s := { ready with records := { ready.records with jigs := ready.records.jigs.map (fun (j : JigRec) =>
          { j with carriedBy := some 5 }) } };
        (s.records.jigs.find? (fun j => j.number == 9)).map JigRec.carriedBy = some (some 5)) := by decide +kernel

theorem witness_StripHandsTheBuildUpToThePeriod :
    s0.listening = true ∧ 255 < 256 ∧ (some 50001 = some 50001 ∧ 50000 < 50001) ∧
      (∀ b, some 50000 = some b → b ≤ 50000) ∧ (∀ j ∈ (manyJigs 64).records.jigs, j.number ≠ 255) ∧
      ((manyJigs 1).records.jigs.find? (fun j => j.number == 1)).map JigRec.carriedBy = some none :=
  ⟨by decide, by decide, by decide, fun b h => by cases h; decide, by decide +kernel, by decide⟩

def outOf (z : Nat) (s : State) : State :=
  { s with arbiter := { s.arbiter with service := s.arbiter.service.set (z - 1) false } }

theorem witness_ZonesAreServedReleasedAndRead :
    (s0.listening = true ∧ 12 < 13 ∧ 1 < 2) ∧
      (let s := withSpans [spanM 1 11 12] s0;
        (∃ p ∈ s.arbiter.spans, p.first ≤ 12 ∧ 12 ≤ p.last) ∧ (∀ p ∈ s.arbiter.spans, ¬ (p.first ≤ 10 ∧ 10 ≤ p.last)) ∧
          (∃ p ∈ s.arbiter.spans, p.owner = .maint 1) ∧ ∀ p ∈ s.arbiter.spans, p.owner ≠ .maint 4) ∧
      s0.arbiter.service[12 - 1]? = some true ∧ (outOf 12 s0).arbiter.service[12 - 1]? = some false ∧
      (∀ c ∈ s0.arbiter.queue, c.claimant ≠ .maint 4) ∧ (mclaim 4 1 12).claimant = .maint 4 ∧
      (let s := withQueue [claimOf (.hoist .A) 3, mclaim 4 1 12] s0;
        s.arbiter.queue = claimOf (.hoist .A) 3 :: [mclaim 4 1 12] ∧ (claimOf (.hoist .A) 3).claimant ≠ .maint 4 ∧
          ∃ d ∈ [mclaim 4 1 12], d.claimant = .maint 4) := by decide +kernel

theorem witness_ClaimZonesByItsRule :
    (s0.listening = true ∧ 4 < 5 ∧ 12 < 13) ∧
      (∃ p ∈ (withSpans [spanM 4 1 12] s0).arbiter.spans, p.owner = .maint 4) ∧
      (∃ c ∈ (withQueue [mclaim 4 1 12] s0).arbiter.queue, c.claimant = .maint 4) ∧
      ((∀ p ∈ s0.arbiter.spans, p.owner ≠ .maint 4) ∧ (∀ c ∈ s0.arbiter.queue, c.claimant ≠ .maint 4)) ∧
      (withQueue [claimOf (.hoist .A) 3] s0).arbiter.queue ≠ [] ∧
      (s0.arbiter.queue = [] ∧ ∀ z ∈ List.range' 1 (12 + 1 - 1), s0.arbiter.service[z - 1]? = some true ∧
        ∀ p ∈ s0.arbiter.spans, ¬ (p.first ≤ z ∧ z ≤ p.last)) ∧
      (∃ z ∈ List.range' 12 (12 + 1 - 12), (outOf 12 s0).arbiter.service[z - 1]? ≠ some true) := by decide +kernel

theorem witness_PlacementIsFirstFitAndStopsAtAHeadNotPlaced :
    (let a := (withSpans [{ owner := .hoist .B, first := 6, last := 12, granted := 0 }] s0).arbiter;
      a.spanOf (.hoist .B) = some { owner := .hoist .B, first := 6, last := 12, granted := 0 } ∧
        a.placeHoist .A 4 = some (1, 4) ∧ a.placeHoist .A 5 = none) ∧
      s0.arbiter.placeHoist .B 12 = some (1, 12) ∧ s0.arbiter.queue = [] ∧
      (let s := withQueue [mclaim 1 12 12] (outOf 12 s0);
        s.arbiter.queue = mclaim 1 12 12 :: [] ∧ s.arbiter.place (mclaim 1 12 12) = none) ∧
      (withQueue [mclaim 1 12 12] s0).arbiter.place (mclaim 1 12 12) = some (12, 12) := by decide +kernel

theorem witness_PlacementIsFirstFitAndStopsAtAHeadNotPlaced_grant :
    (let s := carry .awaitSpan none 4400 3744 false;
      (s.seq .A).load = some 5 ∧ (3750 : Int) = 2000 + (((1 : Int) - 1 + 3) * s.setting 1) / 24 ∧
        (s.seq .A).phase = .awaitSpan ∧ (s.seq .A).lift = some 4400 ∧ (s.seq .A).pClr = some 4400 ∧
        (s.seq .A).travel = some 3744 ∧ 5 < |(3750 : Int) - 3744|) ∧
      ((carry .awaitSpan none 4400 3745 false).seq .A).travel = some 3745 ∧ |(3750 : Int) - 3745| ≤ 5 ∧
      ((carry .held (some .awaitSpan) 4400 3744 false).seq .A).phase ≠ .awaitSpan := by decide +kernel

def skimReq : SkimRequest := { hoist := .A, first := 1, last := 3, due := 0 }

theorem witness_SkimmerSweepsIsRestoredAndGoesOut :
    (s0.listening = true ∧ (withSkim .outOfService none [] s0).skimmer.mode = .outOfService ∧
        s0.skimmer.mode ≠ .outOfService ∧ s0.skimmer.mode ≠ .idle) ∧
      (let s := withSkim .idle none [skimReq] (carry .immerse none 1400 3750 true);
        s.skimmer.mode = .idle ∧ s.skimmer.queue = skimReq :: [] ∧
          (s.arbiter.spans.find? (fun p => decide (p.owner = .hoist .A))).isSome = true) ∧
      (s0.skimmer.mode = .sweeping ∧ s0.skimmer.sweep.map Sweep.abort = some true ∧ s0.skimmer.queue = []) ∧
      (let s := withSkim .sweeping (some sweepA) [] (withA (fun q => { q with skim := .waiting })
          (carry .immerse none 1400 3750 true));
        s.skimmer.mode = .sweeping ∧ s.skimmer.sweep = some sweepA ∧ s.skimmer.queue = [] ∧
          (s.seq .A).skim = .waiting ∧ (s.seq .A).phase ≠ .awaitSkim) ∧
      (let s := withSkim .idle none [skimReq] (withA (fun q => { q with skim := .waiting })
          (carry .immerse none 1400 3750 true));
        s.skimmer.mode = .idle ∧ s.skimmer.sweep = none ∧ s.skimmer.queue = [skimReq] ∧
          (s.seq .A).skim = .waiting ∧ (s.seq .A).phase ≠ .awaitSkim) := by decide +kernel

theorem witness_SkimmerSweepsIsRestoredAndGoesOut_noSpan :
    (withSkim .idle none [] s0).skimmer.queue = [] ∧
      (let s := withSkim .idle none [skimReq] s0;
        s.skimmer.mode = .idle ∧ s.skimmer.queue = skimReq :: [] ∧
          s.arbiter.spans.find? (fun p => decide (p.owner = .hoist skimReq.hoist)) = none) := by decide +kernel

theorem witness_SkimmerSweepsIsRestoredAndGoesOut_answers :
    (let s := withSkim .sweeping (some sweepA) [{ skimReq with hoist := .B }]
        (withA (fun q => { q with skim := .waiting }) (carry .awaitSkim none 1400 3750 true));
      s.skimmer.mode = .sweeping ∧ s.skimmer.sweep = some sweepA ∧ sweepA.abort = false ∧ sweepA.hoist = some .A ∧
        (s.seq .A).skim = .waiting ∧ (s.seq .A).phase = .awaitSkim ∧ s.skimmer.mode ≠ .outOfService ∧
        s.skimmer.queue.length = 1) ∧
      ((withSkim .sweeping (some sweepA) [] (carry .immerse none 1400 3750 true)).seq .A).skim ≠ .waiting ∧
      (let s := withSkim .idle none [skimReq, { skimReq with hoist := .B }] (carry .immerse none 1400 3750 true);
        s.skimmer.mode ≠ .outOfService ∧ s.skimmer.queue.length = 2) ∧
      ((idleSkimmer s0).skimmer.mode = .idle ∧ (idleSkimmer s0).skimmer.sweep = none ∧
        (idleSkimmer s0).skimmer.queue = []) := by decide +kernel

theorem witness_HoistRequestsByPhase :
    (s0.listening = true ∧ 1 < 2 ∧ (500 : Int) ≠ 0 ∧ (-500 : Int) ≤ -500) ∧
      ((withA (fun q => { q with phase := .disabled }) s0).seq .A).phase = .disabled ∧
      ((withA (fun q => { q with phase := .recover }) s0).seq .A).phase = .recover ∧
      ((withA (fun q => { q with phase := .jogging }) s0).seq .A).phase = .jogging ∧
      ((carry .weighIn none 4400 0 false).seq .A).phase ∈ Phase.dipCycle ∧
      ((carry .travelOut none 4400 0 true).seq .A).phase ∈ Phase.dipCycle ++ [.held, .raising, .idle] ∧
      ((carry .travelOut none 4400 0 true).seq .A).phase ≠ .weighIn ∧ (s0.seq .A).phase = .idle := by decide +kernel

theorem witness_PresentStartsTheDip :
    ready.listening = true ∧ (ready.seq .A).phase = .idle ∧
      ready.records.loads.find? (fun r => r.id == 5) = some r5 ∧
      ready.records.orders.find? (fun o => o.number == r5.order) = some (OrderRec.made 7 [] 0) ∧
      (ready.records.jigs.find? (fun j => j.number == r5.jig)).map JigRec.carriedBy = some none ∧
      (ready.seq .A).lift = some 4400 ∧ r5.state = .registered ∧
      ready.setting 3 + ready.setting 10 + r5.hang ≤ 4400 ∧ 4399 < ready.setting 3 + ready.setting 10 + r5.hang := by
  decide +kernel

theorem witness_PresentStartsTheDip_refusals :
    (ready.listening = true ∧ (0 : Nat) = 0 ∧ 65535 < 65536 ∧ (ready.seq .A).phase = .idle) ∧
      (∀ r ∈ ready.records.loads, r.id ≠ 65535) ∧
      (s0.listening = true ∧ ((withA (fun q => { q with lift := none }) ready).seq .A).lift = none ∧
        (withA (fun q => { q with lift := none }) ready).records.loads.find? (fun r => r.id == 5) = some r5) ∧
      (let s := { ready with records := { ready.records with orders := [] } };
        s.records.loads.find? (fun r => r.id == 5) = some r5 ∧ ∀ o ∈ s.records.orders, o.number ≠ r5.order) ∧
      (let s := { ready with records := { ready.records with jigs := [] } };
        s.records.loads.find? (fun r => r.id == 5) = some r5 ∧ ∀ j ∈ s.records.jigs, j.number ≠ r5.jig) := by
  decide +kernel

theorem witness_HoldAndPressStopTheHoist :
    (let s := withA (fun q => { q with motion := some liftMotion }) (carry .withdraw none 2000 3750 true);
      (s.seq .A).phase ∈ Phase.dipCycle ++ [.jogging] ∧ (s.seq .A).motion.isSome = true ∧ s.listening = true ∧
        s.active = true) ∧
      ((carry .held (some .drain) 4400 3750 true).seq .A).phase = .held ∧
      (s0.seq .A).phase ∈ [Phase.idle, .disabled, .recover, .raising] ∧
      (s0.listening = true ∧ (s0.seq .A).phase = .idle ∧ ((carry .raising none 2000 3750 true).seq .A).phase = .raising ∧
        ((withA (fun q => { q with phase := .disabled }) s0).seq .A).phase = .disabled ∧
        ((carry .recover none 2000 3750 true).seq .A).phase = .recover) := by decide +kernel

theorem witness_MotionIsIssuedWithItsOverdueLimit :
    ((carry .entry none 1405 3750 true).seq .A).position .lift = some 1405 ∧ |(1400 : Int) - 1405| ≤ 5 ∧
      ((carry .entry none 1406 3750 true).seq .A).position .lift = some 1406 ∧ 5 < |(1400 : Int) - 1406| ∧
      ((0 : Int) ≤ 5500 ∧ (0 : Int) < 300 ∧ (5500 : Int) * 3 ≤ 2 * 300 * 28) := by decide +kernel

/-- Held in this phase with the lift at `x` and the travel at `y`. -/
def heldAt (p : Phase) (x y : Int) (adm : Bool) : State := carry .held (some p) x y adm

theorem witness_ResumeAndJogOfAHeldHoist :
    ((heldAt .weighIn 4400 0 false).listening = true ∧ ((heldAt .weighIn 4400 0 false).seq .A).phase = .held ∧
        ((heldAt .weighIn 4400 0 false).seq .A).heldPhase = some .weighIn ∧
        ((heldAt .weighIn 4400 0 false).seq .A).lift = some 4400 ∧
        ((heldAt .weighIn 4400 0 false).seq .A).travel = some 0) ∧
      (withSpans [] (heldAt .awaitSpan 4400 0 false)).arbiter.spanOf (.hoist .A) = none ∧
      (((heldAt .awaitSpan 4400 0 false).arbiter.spanOf (.hoist .A)).isSome = true ∧
        ((heldAt .travelIn 4400 3744 false).seq .A).centre = some 3750 ∧
        ((heldAt .travelIn 4400 3744 false).seq .A).pClr = some 4400 ∧ 5 < |(3750 : Int) - 3744|) ∧
      ((heldAt .entry 1406 3750 true).seq .A).pImm = some 1400 ∧
      ((withA (fun q => { q with countdown := some 1 }) (heldAt .immerse 1405 3750 true)).seq .A).countdown = some 1 ∧
      (|(1400 : Int) - 1405| ≤ 5 ∧ 5 < |(1400 : Int) - 1406| ∧ 5 < |(4400 : Int) - 4394| ∧ |(4400 : Int) - 4395| ≤ 5) ∧
      ((heldAt .travelOut 4400 6 true).seq .A).pClr = some 4400 ∧ 5 < |(heldAt .travelOut 4400 6 true).stationPosition .A - 6| ∧
      ((heldAt .raising 4394 3750 true).seq .A).pClr = some 4400 ∧
      (withA (fun q => { q with lift := none }) (heldAt .drain 0 3750 true)).seqA.lift = none ∧
      ((heldAt .drain 4400 3750 true).admitted .A = true ∧
        ((heldAt .drain 4400 3750 true).arbiter.spanOf (.hoist .A)).isSome = true) ∧
      (heldAt .weighIn 4400 0 false).admitted .A = false := by decide +kernel

theorem witness_ResumeAndJogOfAHeldHoist_decision :
    (let s := withA (fun q => { q with vibrate := some 1, drain := some 45 }) (heldAt .drain 4395 3750 true);
      s.listening = true ∧ (s.seq .A).phase = .held ∧ (s.seq .A).heldPhase = some .drain ∧ (s.seq .A).lift = some 4395 ∧
        (s.seq .A).travel = some 3750 ∧ (s.seq .A).pClr = some 4400 ∧ (s.seq .A).pImm = some 1400 ∧
        s.latched .A = some lat ∧ |(4400 : Int) - 4395| ≤ 5 ∧ (s.seq .A).vibrate.getD lat.vibrate = 1) ∧
      (let s := withA (fun q => { q with vibrate := some 0, drain := some 0 }) (heldAt .drain 4394 3750 true);
        (s.seq .A).vibrate.getD lat.vibrate = 0 ∧ (s.seq .A).drain.getD lat.drain = 0 ∧ 5 < |(4400 : Int) - 4394|) ∧
      ((heldAt .drain 4400 6 false).latched .A = none ∧ 5 < |(heldAt .drain 4400 6 false).stationPosition .A - 6|) ∧
      ((heldAt .weighOut 4394 3750 true).seq .A).heldPhase = some .weighOut ∧
      (let s := withA (fun q => { q with skim := .missed, skimWait := some 0 }) (heldAt .awaitSkim 1400 3750 true);
        5 < |(4400 : Int) - 1400| ∧ (s.seq .A).skim = .missed) ∧
      (let s := { withA (fun q => { q with skim := .done 0, countdown := some 0 }) (heldAt .immerse 1400 3750 true) with
          link := { s0.link with clock := 60 } };
        (s.seq .A).countdown = some 0 ∧ (s.seq .A).skim = .done 0 ∧ 0 ≤ s.link.clock ∧ s.link.clock < 4294967296 ∧
          s.link.clock ≤ 0 + 60) ∧
      (let s := withA (fun q => { q with skim := .waiting, skimWait := some 29 }) (heldAt .awaitSkim 1405 3750 true);
        (s.seq .A).skim = .waiting ∧ (s.seq .A).skimWait.getD 0 = 29 ∧ 29 < s.skimWaitLimit ∧ s.skimWaitLimit ≤ 30 ∧
          |(1400 : Int) - 1405| ≤ 5 ∧ 5 < |(1400 : Int) - 1406|) := by decide +kernel

theorem witness_ResumeAndJogOfAHeldHoist_staleSkim :
    (let s := { withA (fun q => { q with skim := .done 0 }) (heldAt .awaitSkim 1406 3750 true) with
        link := { s0.link with clock := 61 } };
      s.listening = true ∧ (s.seq .A).heldPhase = some .awaitSkim ∧ (s.seq .A).skim = .done 0 ∧
        0 + 60 < s.link.clock ∧ s.link.clock < 4294967296 ∧ 5 < |(1400 : Int) - 1406| ∧ 5 < |(4400 : Int) - 1406| ∧
        ((askSkimAgain .A 0 (withSkim .outOfService none [] s)).seq .A).phase = .withdraw ∧
        ((askSkimAgain .A 0 (idleSkimmer s)).seq .A).phase = .awaitSkim) ∧
      (let s := withA (fun q => { q with countdown := some 0, skimWait := some 3 }) (heldAt .immerse 1406 3750 true);
        (s.seq .A).skim = .none ∧ (s.seq .A).countdown = some 0 ∧ (s.seq .A).skimWait.getD 0 = 3) := by decide +kernel

theorem witness_ResumeAndJogOfAHeldHoist_atOnce :
    (let s := heldAt .travelIn 4400 3745 false;
      s.listening = true ∧ (s.seq .A).phase = .held ∧ (s.seq .A).heldPhase = some .travelIn ∧ (s.seq .A).lift = some 4400 ∧
        (s.seq .A).travel = some 3745 ∧ (s.seq .A).pClr = some 4400 ∧ (s.seq .A).load = some 5 ∧
        (s.seq .A).centre = some 3750 ∧ |(3750 : Int) - 3745| ≤ 5) ∧
      ((heldAt .awaitSpan 4400 3755 false).arbiter.spanOf (.hoist .A)).isSome = true ∧
      (let s := heldAt .entry 1395 3750 true;
        (s.seq .A).heldPhase = some .entry ∧ (s.seq .A).pImm = some 1400 ∧ |(1400 : Int) - 1395| ≤ 5 ∧
          s.latched .A = some lat) ∧
      (let s := heldAt .withdraw 4395 6 true;
        |(4400 : Int) - 4395| ≤ 5 ∧ s.latched .A = some lat ∧ 0 < lat.vibrate ∧
          (withLoadRec (fun r => { r with latched := some { lat with vibrate := 0, drain := 0 } }) s).latched .A =
            some { lat with vibrate := 0, drain := 0 }) ∧
      ((heldAt .withdraw 4400 6 false).latched .A = none ∧
        5 < |(heldAt .withdraw 4400 6 false).stationPosition .A - 6| ∧
        (heldAt .withdraw 4399 6 false).latched .A = none ∧ (4399 : Int) < 4400) ∧
      ((heldAt .travelOut 4400 5 true).seq .A).heldPhase = some .travelOut ∧
      |(heldAt .travelOut 4400 5 true).stationPosition .A - 5| ≤ 5 ∧
      ((heldAt .raising 4395 3750 true).seq .A).heldPhase = some .raising := by decide +kernel

theorem witness_CancelAndAcceptUnweighedEndTheWeighIn :
    (let s := carry .weighIn none 4400 0 false;
      s.listening = true ∧ (s.seq .A).load = some 5 ∧
        s.records.loads.find? (fun r => r.id == 5) = s.carried .A ∧ (s.carried .A).isSome = true ∧
        s.arbiter.queue.head?.map Claim.claimant ≠ some (.hoist .A) ∧ s.arbiter.queue = []) ∧
      (let s := withQueue [claimOf (.hoist .A) 3] (carry .awaitSpan none 4400 0 false);
        (s.seq .A).phase = .awaitSpan ∧ s.arbiter.queue.head?.map Claim.claimant = some (.hoist .A) ∧
          s.arbiter.queue ≠ []) ∧
      (let s := carry .travelIn none 4400 6 false;
        (s.seq .A).phase = .travelIn ∧ (s.seq .A).lift = some 4400 ∧ (s.seq .A).travel = some 6 ∧
          (s.seq .A).pClr = some 4400 ∧ 5 < |s.stationPosition .A - 6|) := by decide +kernel

theorem witness_FinishUnweighedPostsAndTravelsOut :
    (let s := heldAt .drain 4400 6 true;
      s.listening = true ∧ (s.seq .A).phase = .held ∧ (s.seq .A).heldPhase = some .drain ∧
        (s.seq .A).lift = some 4400 ∧ (s.seq .A).pClr = some 4400 ∧ (s.seq .A).travel = some 6 ∧
        5 < |s.stationPosition .A - 6| ∧ |s.stationPosition .A - 5| ≤ 5 ∧ (s.seq .A).load = some 5 ∧
        s.records.loads.find? (fun r => r.id == 5) = s.carried .A ∧
        (s.carried .A).map LoadRec.latched = some (some lat)) ∧
      (let s := heldAt .weighOut 4400 5 false;
        (s.seq .A).heldPhase = some .weighOut ∧ (s.seq .A).travel = some 5 ∧
          (s.carried .A).map LoadRec.latched = some none) ∧
      -- the refusals: another held phase, the lift one below p_clr, the lift unknown
      (((heldAt .withdraw 4400 6 true).seq .A).heldPhase = some .withdraw ∧
        ((heldAt .weighOut 4399 6 true).seq .A).lift = some 4399 ∧
        ((withA (fun q => { q with lift := none }) (heldAt .drain 4400 6 true)).seq .A).lift = none) := by decide +kernel

def pressedFor (n : Nat) (s : State) : State := withA (fun q => { q with pressed := true, holdTimer := some n }) s

theorem witness_HoldTimerAndOverdueMotions :
    (let s := pressedFor 3 (heldAt .immerse 4394 3750 true);
      s.active = true ∧ (s.seq .A).holdTimer = some 3 ∧ 3 < 4) ∧
      (let s := pressedFor 4 (heldAt .immerse 4394 3750 true);
        (s.seq .A).pressed = true ∧ (s.seq .A).phase = .held ∧ (s.seq .A).holdTimer = some 4 ∧
          (s.seq .A).lift = some 4394 ∧ (s.seq .A).pClr = some 4400 ∧ (4394 : Int) < 4400 ∧
          (s.seq .A).load = some 5 ∧ (5 : Int) < 4400 - 4394 ∧ (4400 : Int) - 4395 ≤ 5 ∧
          ((overdipCompared .A 5 (withA (fun q => { q with overdip := some 61 }) s)).seq .A).overdipRaised = true) ∧
      (let s := pressedFor 4 (heldAt .drain 4400 3750 true);
        (s.seq .A).lift = some 4400 ∧ (s.seq .A).pClr = some 4400) ∧
      (let s := withA (fun q => { q with motion := some liftMotion }) (carry .withdraw none 2000 3750 true);
        s.active = true ∧ (s.seq .A).motion = some liftMotion ∧ liftMotion.elapsed < liftMotion.limit ∧
          (s.seq .A).phase ∈ Phase.dipCycle ++ [.raising, .jogging] ∧
          { liftMotion with elapsed := 10 }.limit ≤ { liftMotion with elapsed := 10 }.elapsed) := by decide +kernel

theorem witness_HoldTimerAndOverdueMotions_claim :
    (let s := withSpans [] (withQueue [claimOf (.hoist .A) 3, mclaim 1 4 6] (pressedFor 4 (heldAt .awaitSpan 4394 0 false)));
      s.active = true ∧ (s.seq .A).phase = .held ∧ (s.seq .A).lift = some 4394 ∧ (s.seq .A).load = some 5 ∧
        s.arbiter.queue.head?.map Claim.claimant = some (.hoist .A)) ∧
      (let s := withSpans [] (withQueue [mclaim 1 4 6, claimOf (.hoist .A) 3]
          (pressedFor 4 (heldAt .awaitSpan 4395 0 false)));
        (4395 : Int) < 4400 ∧ (4400 : Int) - 4395 ≤ 5 ∧
          s.arbiter.queue.head?.map Claim.claimant ≠ some (.hoist .A)) := by decide +kernel

theorem witness_HoldTimerAndOverdueMotions_besideAFault :
    (let s := withA (fun q => { q with lateAxis := some .lift }) (heldAt .withdraw 2000 3750 true);
      s.active = true ∧ (s.seq .A).motion = none ∧ (s.seq .A).phase = .held ∧ (s.seq .A).lateAxis = some .lift) ∧
      ((heldAt .withdraw 2000 3750 true).seq .A).lateAxis = none ∧ (s0.seq .A).phase ≠ .held := by decide +kernel

def immersing (n : Nat) (m : SkimmerMode) (q : List SkimRequest) : State :=
  withSkim m none q (withA (fun q => { q with countdown := some n }) (carry .immerse none 1400 3750 true))

theorem witness_SkimIsRequestedAtTheLead :
    ((immersing 46 .sweeping []).active = true ∧ ((immersing 46 .sweeping []).seq .A).countdown = some 46 ∧
        (immersing 46 .sweeping []).skimLead < 46) ∧
      (let s := immersing 45 .outOfService [];
        (s.seq .A).skim = .none ∧ 45 ≤ s.skimLead ∧ (s.seq .A).phase = .immerse ∧ s.skimmer.mode = .outOfService ∧
          (s.seq .A).load = some 5 ∧ s.records.loads.find? (fun r => r.id == 5) = s.carried .A ∧
          (s.carried .A).map (fun r => r.flags.skimMissed) = some false) ∧
      (let s := immersing 45 .sweeping [{ skimReq with hoist := .B, due := 45 }];
        s.skimmer.mode = .sweeping ∧ (s.arbiter.spanOf (.hoist .A)).isSome = true) := by decide +kernel

theorem witness_SkimIsRequestedAtTheLead_sent :
    ((immersing 46 .idle []).active = true ∧ ∀ n, ((immersing 46 .idle []).seq .A).countdown = some n →
        (immersing 46 .idle []).skimLead < n) ∧
      (let s := immersing 45 .idle [{ skimReq with hoist := .B, due := 45 }, { skimReq with hoist := .B, due := 46 }];
        (s.seq .A).countdown = some 45 ∧ 45 ≤ s.skimLead ∧ (s.seq .A).skim = .none ∧ (s.seq .A).phase = .immerse ∧
          s.skimmer.mode = .idle ∧ (s.arbiter.spanOf (.hoist .A)).isSome = true ∧
          ∃ u, u = setSeq .A { s.seq .A with skim := .waiting } { s with skimmer := { s.skimmer with queue :=
            [{ skimReq with hoist := .B, due := 45 }] ++
              { hoist := .A, first := 1, last := 3, due := 45 } :: [{ skimReq with hoist := .B, due := 46 }] } }) ∧
      ((immersing 45 .sweeping []).skimmer.mode = .sweeping ∧ (immersing 45 .outOfService []).skimmer.mode = .outOfService ∧
        ((withA (fun q => { q with phase := .held, heldPhase := some .immerse }) (immersing 45 .idle [])).seq .A).heldPhase =
          some .immerse) := by
  refine ⟨by decide +kernel, ⟨by decide +kernel, by decide +kernel, by decide +kernel, by decide +kernel, by decide +kernel,
    by decide +kernel, _, rfl⟩, by decide +kernel⟩

theorem witness_SkimIsRequestedAtTheLead_idleSkimmer :
    let s := immersing 45 .idle [{ skimReq with hoist := .B, due := 45 }];
    s.active = true ∧ (s.seq .A).countdown = some 45 ∧ (s.seq .A).skim = .none ∧ 45 ≤ s.skimLead ∧
      (s.seq .A).phase = .immerse ∧ s.skimmer.mode = .idle ∧ (s.arbiter.spanOf (.hoist .A)).isSome = true := by
  decide +kernel

theorem witness_CountdownZeroDecides :
    (let s := { immersing 0 .sweeping [] with link := { s0.link with clock := 60 } };
      s.active = true ∧ (s.seq .A).countdown = some 0 ∧ (s.seq .A).overdip = none ∧ (s.seq .A).phase = .immerse ∧
        s.link.clock < 4294967296 ∧ s.link.clock ≤ 0 + 60 ∧ 0 < s.skimWaitLimit) ∧
      (let s := withA (fun q => { q with skim := .done 0 })
          { immersing 0 .sweeping [] with link := { s0.link with clock := 61 } };
        (s.seq .A).skim = .done 0 ∧ 0 + 60 < s.link.clock) ∧
      ((withA (fun q => { q with skim := .waiting }) (immersing 0 .sweeping [])).seq .A).skim = .waiting ∧
      ((withA (fun q => { q with skim := .missed }) (immersing 0 .sweeping [])).seq .A).skim = .missed ∧
      (let s := withA (fun q => { q with countdown := some 0 }) (heldAt .immerse 1400 3750 true);
        (s.seq .A).phase = .held ∧ (s.seq .A).heldPhase = some .immerse ∧ (s.seq .A).skim ≠ .waiting) := by
  decide +kernel

theorem witness_CountdownZeroDecides_newRequest :
    (let s := immersing 0 .idle [];
      s.active = true ∧ (s.seq .A).countdown = some 0 ∧ (s.seq .A).overdip = none ∧ (s.seq .A).phase = .immerse ∧
        (s.seq .A).skim = .none) ∧
      (let s := masking 17 0 (withA (fun q => { q with skim := .waiting }) (immersing 0 .idle []));
        (s.seq .A).skim = .waiting ∧ s.skimWaitLimit = 0) ∧
      (let s := masking 17 0 (withA (fun q => { q with countdown := some 0, skim := .waiting })
          (heldAt .immerse 1400 3750 true));
        (s.seq .A).phase = .held ∧ (s.seq .A).heldPhase = some .immerse ∧ s.skimWaitLimit = 0) ∧
      ((immersing 0 .outOfService []).skimmer.mode = .outOfService ∧ (immersing 0 .sweeping []).skimmer.mode = .sweeping ∧
        (immersing 0 .idle []).skimmer.mode = .idle ∧
        ((immersing 0 .idle []).arbiter.spanOf (.hoist .A)).isSome = true ∧
        29 < (immersing 0 .idle []).skimWaitLimit ∧ (immersing 0 .idle []).skimWaitLimit ≤ 30) := by decide +kernel

theorem witness_WithdrawalAndTheSkimWait :
    (let s := carry .immerse none 4394 3750 true;
      (s.seq .A).load = some 5 ∧ s.records.loads.find? (fun r => r.id == 5) = s.carried .A ∧
        (s.seq .A).lift = some 4394 ∧ (s.seq .A).pClr = some 4400 ∧ 5 < |(4400 : Int) - 4394| ∧
        (s.carried .A).bind LoadRec.latched = some lat) ∧
      (let s := withSkim .sweeping (some sweepA) [] (withA (fun q => { q with skim := .waiting, skimWait := some 30 })
          (carry .awaitSkim none 1400 3750 true));
        s.active = true ∧ (s.seq .A).skim = .waiting ∧ (s.seq .A).skimWait = some 30 ∧ s.skimWaitLimit ≤ 30 ∧
          29 < s.skimWaitLimit ∧ (s.seq .A).phase = .awaitSkim ∧
          (overdipCompared .A 5 (withA (fun q => { q with overdip := some 61 }) s)).link.notices ≠ s.link.notices ∧
          (s.carried .A).map (fun r => r.flags.skimMissed) = some false ∧
          s.skimmer.sweep = some sweepA ∧ sweepA.hoist = some .A ∧ sweepA.abort = false) := by decide +kernel

theorem witness_WithdrawalAndTheSkimWait_waitingRequest :
    (let s := withSkim .sweeping (some { sweepA with abort := true })
        ([{ skimReq with hoist := .B }] ++ skimReq :: [{ skimReq with hoist := .B, due := 9 }]) s0;
      (∀ w, s.skimmer.sweep = some w → w.hoist ≠ some .A ∨ w.abort = true) ∧ skimReq.hoist = .A) ∧
      (let s := withSkim .sweeping (some { sweepA with hoist := some .B }) [{ skimReq with hoist := .B }] s0;
        (∀ w, s.skimmer.sweep = some w → w.hoist ≠ some .A ∨ w.abort = true) ∧ ∀ x ∈ s.skimmer.queue, x.hoist ≠ .A) :=
  ⟨⟨fun _ e => .inr (Option.some.inj e ▸ rfl), rfl⟩,
    ⟨fun _ e => .inl (Option.some.inj e ▸ by decide), by decide⟩⟩

theorem witness_OverdipAndRecoveryLimits :
    (let s := withA (fun q => { q with overdip := some 61 }) (carry .awaitSkim none 1400 3750 true);
      s.active = true ∧ (s.seq .A).overdip = some 61 ∧ (s.seq .A).load = some 5 ∧
        (s.seq .A).overdipRaised = false ∧ s.overdipLimit < 61 ∧ 60 ≤ s.overdipLimit) ∧
      (let s := withA (fun q => { q with recoverWait := some 10 }) (carry .recover none 1400 3750 true);
        s.active = true ∧ (s.seq .A).phase = .recover ∧ (s.seq .A).recoverWait = some 10 ∧
          (s.seq .A).load = some 5 ∧ 9 < 10) := by decide +kernel

theorem witness_DrainEndsInAWeighOut :
    (let s := withA (fun q => { q with vibratorOn := true, vibrate := some 0, drain := some 0 })
        (carry .drain none 4400 3750 true);
      s.active = true ∧ (s.seq .A).phase = .drain ∧ (s.seq .A).motion = none ∧ (s.seq .A).vibratorOn = true ∧
        (s.seq .A).vibrate = some 0 ∧ (s.seq .A).drain = some 0) ∧
      (let s := withA (fun q => { q with vibratorOn := true, vibrate := some 0, drain := some 1 })
          (carry .drain none 4400 3750 true);
        (s.seq .A).drain = some (0 + 1) ∧ (s.seq .A).phase = .drain) ∧
      (let s := withA (fun q => { q with vibratorOn := true, vibrate := some 1, drain := some 36 })
          (carry .drain none 4400 3750 true);
        (s.seq .A).vibrate = some (0 + 1)) := by decide +kernel

theorem witness_WeighTimeoutsByKind :
    (let s := withWeigh .weighIn 20 none (carry .weighIn none 4400 0 false);
      s.active = true ∧ (s.eng .A).weigh.map Weigh.elapsed = some 20 ∧ (s.eng .A).weigh.map Weigh.timeout = some 20 ∧
        (s.eng .A).weigh.map Weigh.passed = some false ∧ (s.seq .A).load = some 5) ∧
      ((withWeigh .weighIn 19 none (carry .weighIn none 4400 0 false)).eng .A).weigh.map Weigh.elapsed = some 19 ∧
      (let s := withWeigh .weighOut 20 (some { mean := 100, spread := 41, time := 0 })
          (carry .weighOut none 4400 3750 true);
        (s.eng .A).weigh.map Weigh.kind = some .weighOut ∧ (s.seq .A).phase = .weighOut ∧
          s.records.loads.find? (fun r => r.id == 5) = s.carried .A ∧
          (s.carried .A).map LoadRec.postingTime = some none ∧ (s.seq .A).lift = some 4400 ∧
          (s.seq .A).pClr = some 4400 ∧ (s.seq .A).travel = some 3750 ∧ 5 < |s.stationPosition .A - 3750|) ∧
      ((withWeigh .weighOut 20 none s0).eng .A).weigh.bind Weigh.best = none := by decide +kernel

/-- Hoist A at the gate, with the bath at `t` and an estimated depth of 950 mm, the least that covers its load. -/
def gated (t : Option Int) : State :=
  { carry .awaitAdmit none 4400 3750 false with
    bath := { s0.bath with temp := t, polled := true, hEst := some 950 } }

theorem witness_AdmissionTrialsAndTheirCauses :
    (let s := gated (some 4400);
      s.active = true ∧ (s.seq .A).load = some 5 ∧ s.records.loads.find? (fun r => r.id == 5) = s.carried .A ∧
        (s.seq .A).phase = .awaitAdmit ∧ (s.carried .A).map (s.failedCauses .A) = some [] ∧
        s.bath.temp = some 4400 ∧ (s.seq .A).lift = some 4400 ∧ (s.seq .A).pImm = some 1400 ∧
        5 < |(1400 : Int) - 4400| ∧ s.settings.sections[r5.sect]? = some SectionClass.default ∧
        s.settings.silicons[r5.silicon]? = some 100) ∧
      (let s := gated (some 4399); (s.carried .A).map (s.failedCauses .A) = some [.tooCold]) ∧
      (let s := gated (some 4900); (s.carried .A).map (s.failedCauses .A) = some [.tooHot]) ∧
      (let s := withNotices (List.replicate 32 (note .overdip)) (withA (fun q => { q with causes := [.tooHot] })
          (gated (some 4900)));
        (s.seq .A).phase = .awaitAdmit ∧ (s.carried .A).map (s.failedCauses .A) = some [.tooHot]) ∧
      (let s := gated none; (s.carried .A).map (s.failedCauses .A) = some [.temperatureUnknown]) ∧
      (s0.seq .A).phase ≠ .awaitAdmit := by decide +kernel

def onGate (s : State) : State := { s with seqB := { s.seqB with phase := .awaitAdmit } }

theorem witness_WindowExpiryQuietKettleAndReconcileTimeout :
    (let s := { s0 with window := [{ weight := 1, age := 3600 }] };
      s.active = true ∧ s.window = [{ weight := 1, age := 3600 }] ∧ 3599 < 3600) ∧
      (s0.seqA.phase ≠ .awaitAdmit ∧ s0.seqB.phase ≠ .awaitAdmit) ∧
      ((gated none).seqA.phase = .awaitAdmit ∧ (gated none).seqB.phase ≠ .awaitAdmit) ∧
      ((onGate s0).seqA.phase ≠ .awaitAdmit ∧ (onGate s0).seqB.phase = .awaitAdmit) ∧
      ((onGate (gated none)).seqA.phase = .awaitAdmit ∧ (onGate (gated none)).seqB.phase = .awaitAdmit) ∧
      (let s := idleSkimmer { s0 with bath := { s0.bath with settle := 30 } };
        s.active = true ∧ s.disturbed = false ∧ s.bath.quiet = false ∧ 30 ≤ s.bath.settle) ∧
      s0.disturbed = true ∧
      (let s := { s0 with balance := { s0.balance with
          pending := some { requested := 0, rebase := true, waited := 600 } } };
        s.balance.pending.map PendingRecon.waited = some 600 ∧ 599 < 600) ∧ s0.balance.pending = none := by
  decide +kernel

def quietQ : QuietReading :=
  { depth := 2788, temp := 4523, density := 6567, length := 14000, width := 1800, book := 4613817, time := 0 }

def estimated (d : Int) (armed : Bool) : State := { s0 with bath := { s0.bath with hEst := some d, levelArmed := armed } }

theorem witness_DepthMassAndLevelWarning :
    s0.bath.reading = none ∧
      (let s := { s0 with bath := { s0.bath with reading := some quietQ } };
        s.bath.reading = some quietQ ∧ 0 < quietQ.length * quietQ.width * quietQ.density ∧
          (refreshDepth s).bath.hEst = some (estimatedDepth quietQ 0)) ∧
      ((estimated 2399 true).bath.levelArmed = true ∧ 2399 < (estimated 2399 true).setting 22 ∧
        (estimated 2400 true).setting 22 ≤ 2400) ∧
      ((estimated 2420 false).bath.levelArmed = false ∧ (estimated 2420 false).setting 22 + 20 ≤ 2420 ∧
        2419 < (estimated 2419 false).setting 22 + 20) ∧
      s0.bath.hEst = none ∧ (quietQ.length * quietQ.width = 25200000 ∧ quietQ.depth = 2788 ∧ quietQ.density = 6567) := by
  decide +kernel

theorem witness_PostingSplitsAndWritesEveryAccountOnce :
    ((0 : Int) ≤ 50 ∧ -50 ≤ (9950 : Int) - 10000 ∧ (9949 : Int) - 10000 < -50) ∧
      (let s := withLoadRec (fun r => { r with wIn := some 10000, wOut := some 10600 })
          (carry .weighOut none 4400 3750 true);
        (s.seq .A).load = some 5 ∧ s.records.loads.find? (fun r => r.id == 5) = s.carried .A ∧
          (s.carried .A).map LoadRec.postingTime = some none ∧
          (s.records.jigs.find? (fun j => j.number == 9)).isSome = true ∧
          (∃ o ∈ s.records.orders, o.number = 7) ∧ ∃ y ∈ s.records.jigs, y.number = 9) ∧
      (let s := withLoadRec (fun r => { r with postingTime := some 0 }) (carry .weighOut none 4400 3750 true);
        (s.carried .A).map LoadRec.postingTime = some (some 0)) := by decide +kernel

/-- At its posting the load has lost 51 wu beyond the tolerance, the totals stand one below their ends, the order is
found or missing. -/
def postingLoss : State :=
  withLoadRec (fun r => { r with wIn := some 10000, wOut := some 9949 }) (carry .weighOut none 4400 3750 true)

theorem witness_PostingSplitsAndWritesEveryAccountOnce_loss :
    ((postingLoss.seq .A).load = some 5 ∧
        postingLoss.records.loads.find? (fun r => r.id == 5) = postingLoss.carried .A ∧
        (postingLoss.carried .A).map LoadRec.postingTime = some none) ∧
      ((postingLoss.records.jigs.find? (fun j => j.number == 9)).map JigRec.overflow = some false ∧
        (figures (some 10000) (some 9949) 100 2000 50).suspect = true) ∧
      (postingLoss.records.orders.find? (fun o => o.number == 7)).map OrderRec.overflow = some false ∧
      ({ postingLoss.records with orders := [] } : Records).orders.find? (fun o => o.number == 7) = none := by decide +kernel

def booked (b : Int) : State := { s0 with balance := { s0.balance with book := b } }

theorem witness_ZincInAndOutOfTheBook :
    s0.listening = true ∧ 1000000 < 1000001 ∧ 2000000000 < (booked 1999000001).balance.book + 1000000 ∧
      (booked 1999000000).balance.book + 1000000 ≤ 2000000000 ∧ 1 ≤ 1000000 ∧ 1000000 ≤ 1000000 := by decide +kernel

def closedPeriods (n : Nat) : State :=
  { s0 with balance := { s0.balance with closed := (List.range' 65532 n).map (fun k =>
      { Period.fresh with number := k, closeTime := some 0, closingBook := some 0 }) } }

theorem witness_PeriodsCloseAreReadAndDiscarded :
    (s0.listening = true ∧ 1 < 2 ∧ s0.balance.pending = none) ∧
      ({ s0 with balance := { s0.balance with pending := some { requested := 0, rebase := true, waited := 0 } } }.balance.pending
        ≠ none) ∧
      4 ≤ (closedPeriods 4).balance.closed.length ∧ (closedPeriods 3).balance.closed.length < 4 ∧
      ((closedPeriods 4).balance.closed.head?.map Period.number = some 65532 ∧
        (closedPeriods 4).balance.closed.head?.map Period.number ≠ some 65535) ∧
      (s0.balance.current.number = 1 ∧ s0.balance.current.number ≠ 65535) ∧
      ((closedPeriods 4).balance.closed.find? (fun c => decide (c.number = 65535))).isSome = true ∧
      (∀ c ∈ (closedPeriods 3).balance.closed, c.number ≠ 65535) := by decide +kernel

def faultRec (c : FaultCause) : FaultRecord :=
  { cause := c, trans := none, hoist := none, load := none, phase := none, data := none, time := 0 }

theorem witness_FaultAndFieldStatusAreReadAndCleared :
    s0.listening = true ∧ s0.capture.record = none ∧
      { s0 with capture := { s0.capture with record := some (faultRec .motionOverdue) } }.capture.record ≠ none ∧
      (faultRec (.station .level 7)).cause = .station .level 7 ∧ (faultRec .motionOverdue).cause = .motionOverdue ∧
      1 < 2 := by decide +kernel

def withDriveA (x : StationState) : State := setStation .driveA x s0

theorem witness_PollsAndAttemptsOnTheLine :
    (s0.active = true ∧ s0.polled .driveA = true ∧ Station.driveA ≠ .skimmer ∧ s0.polled .scaleA = false) ∧
      (let s := { s0 with skimmer := { s0.skimmer with pollsBegun := true } };
        s.polled .skimmer = true ∧ s.skimmer.pollsBegun = true) ∧
      (let x := { StationState.fresh with trans := some { kind := .poll, attempts := 1, stage := .awaitRetry } };
        ((withDriveA x).station .driveA).trans = some { kind := .poll, attempts := 1, stage := .awaitRetry }) ∧
      (∀ t ∈ (s0.station .driveA).trans, t.stage ≠ .awaitRetry ∧ t.stage ≠ .onLine) ∧
      (((withDriveA (onLine .poll 2)).station .driveA).trans = some { kind := .poll, attempts := 2, stage := .onLine } ∧
        ((withDriveA (onLine .poll 2)).station .driveA).cmds = []) ∧
      ((withDriveA { onLine .poll 2 with cmds := [{ cmd := .stop, due := 0 }] }).station .driveA).cmds ≠ [] ∧
      ((withDriveA (onLine (.command .stop) 2)).station .driveA).trans =
        some { kind := .command .stop, attempts := 2, stage := .onLine } ∧
      (let s := withDriveA { onLine (.command (.move .lift 0 25)) 0 with cmds := [{ cmd := .stop, due := 0 }] };
        ∃ w ∈ (s.station .driveA).cmds, w.cmd = .stop ∨ w.cmd = .abort) := by decide +kernel

theorem witness_PollsAndAttemptsOnTheLine_polled : sReset.active = false ∧ s0.active = true := by decide

theorem witness_FinalCodeIsDoneMaskedOrAFault :
    (s0.active = true ∧ (withDriveA (onLine .poll 0)).active = true ∧
        ((withDriveA (onLine .poll 0)).station .driveA).trans = some { kind := .poll, attempts := 0, stage := .onLine } ∧
        reportFits .driveA (.drive 0 0 true) = true) ∧
      ((withDriveA (onLine (.command .stop) 0)).station .driveA).trans =
        some { kind := .command .stop, attempts := 0, stage := .onLine } ∧
      (s0.masked .driveA 3 = false ∧ s0.masked .level 5 = false) ∧
      (masking 30 1 (withDriveA (onLine .poll 0))).masked .driveA 2 = true ∧
      (let s := masking 32 2 (setStation .scaleA (onLine .poll 0) s0);
        s.masked .scaleA 3 = true ∧ (s.station .scaleA).trans = some { kind := .poll, attempts := 0, stage := .onLine }) ∧
      ((withDriveA (onLine .poll 3)).station .driveA).trans = some { kind := .poll, attempts := 3, stage := .onLine } ∧
      s0.masked .driveA 6 = false := by decide +kernel

theorem witness_FinalCodeIsDoneMaskedOrAFault_records :
    (let s := withSkim .sweeping (some sweepA) [] s0; s.skimmer.sweep = some sweepA ∧ sweepA.hoist = some .A) ∧
      (let s := withSkim .sweeping (some { sweepA with hoist := none }) [] s0;
        ∀ w, s.skimmer.sweep = some w → w.hoist = none) ∧
      ∀ w, (withSkim .idle none [] s0).skimmer.sweep = some w → w.hoist = none :=
  ⟨by decide +kernel, fun _ e => Option.some.inj e ▸ rfl, fun _ e => nomatch e⟩

theorem witness_FinalCodeIsDoneMaskedOrAFault_everyCode :
    -- codes 2 to 5 as given, 6 after the fourth silence, 7 for a report that is not the station's
    ((2 ≤ 5 ∧ reportFits .driveA (.drive 0 0 true) = true ∧ s0.masked .driveA 2 = false) ∧
        (withDriveA (onLine .poll 3)).active = true ∧ 3 ≤ (3 : Nat) ∧
        reportFits .driveA (.level 0) = false) ∧
      (s0.masked .driveA 7 = false ∧ (masking 30 32 s0).masked .driveA 7 = true ∧
        (masking 30 16 s0).masked .driveA 6 = true ∧ (masking 35 2 s0).masked .thermo 3 = true) ∧
      (setStation .thermo (onLine .poll 0) s0).field.thermo.trans = some { kind := .poll, attempts := 0, stage := .onLine } ∧
      -- the skimmer's commands
      (let s := masking 34 2 (setStation .skimmer (onLine (.command (.sweep 2000 5500)) 0)
          (withSkim .sweeping (some sweepA) [] s0));
        s.active = true ∧ s.skimmer.mode = .sweeping ∧ s.skimmer.sweep = some sweepA ∧ s.masked .skimmer 3 = true ∧
          (s.station .skimmer).trans = some { kind := .command (.sweep 2000 5500), attempts := 0, stage := .onLine }) ∧
      ((setStation .skimmer (onLine (.command .abort) 0) s0).station .skimmer).trans =
        some { kind := .command .abort, attempts := 0, stage := .onLine } ∧
      ((idleSkimmer (setStation .skimmer (onLine (.command .abort) 3) s0)).skimmer.mode ≠ .sweeping ∧
        (masking 34 16 s0).masked .skimmer 6 = true) := by decide +kernel

theorem witness_FinalCodeIsDoneMaskedOrAFault_owners :
    (s0.seq .A).phase ∈ [Phase.idle, .held, .disabled] ∧
      ((carry .immerse none 1400 3750 true).seq .A).phase ∈ Phase.dipCycle ++ [.raising, .jogging] ∧
      ((carry .immerse none 1400 3750 true).seq .A).motion = none ∧
      (let s := withA (fun q => { q with motion := some { liftMotion with elapsed := 10 } })
          (carry .jogging (some .withdraw) 2000 3750 true);
        (s.seq .A).phase ∈ Phase.dipCycle ++ [.raising, .jogging] ∧
          (s.seq .A).motion = some { liftMotion with elapsed := 10 } ∧ liftMotion.limit ≤ 10) ∧
      (let s := carry .recover none 1400 3750 true; (s.seq .A).phase = .recover ∧ (s.seq .A).load = some 5) := by
  decide +kernel

theorem witness_LineServesItsGroupsAndEventsEnd :
    s0.lineFree = false ∧
      (let s := setStation .skimmer StationState.fresh s0;
        s.lineFree = true ∧ s.nextStation = some .driveA ∧ (s.station .driveA).candidate = some (3, 0)) ∧
      (let s := setStation .thermo StationState.fresh (setStation .driveB StationState.fresh
          (setStation .driveA StationState.fresh (setStation .skimmer StationState.fresh s0)));
        s.nextStation = none) ∧
      (let x := { StationState.fresh with cmds := [{ cmd := .stop, due := 7 }, { cmd := .move .lift 0 25, due := 8 }] };
        x.trans = none ∧ x.cmds.head? = some { cmd := .stop, due := 7 }) ∧
      (let x := { StationState.fresh with cmds := [{ cmd := .move .lift 0 25, due := 8 }] };
        x.trans = none ∧ x.cmds.head? = some { cmd := .move .lift 0 25, due := 8 } ∧
          ∀ w ∈ x.cmds, w.cmd ≠ .stop ∧ w.cmd ≠ .abort) ∧
      (StationState.fresh.trans = none ∧ StationState.fresh.cmds = []) ∧
      (endEvent s0).polled .scaleA = false := by decide +kernel

theorem witness_LineServesItsGroupsAndEventsEnd_choice :
    (let s := setStation .skimmer StationState.fresh s0;
      s.lineFree = true ∧ s.nextStation = some .driveA ∧ (s.station .driveA).trans = none ∧
        (s.station .driveA).cmds = []) ∧
      (let s := setStation .driveA { StationState.fresh with
          cmds := [{ cmd := .stop, due := 7 }, { cmd := .move .lift 0 25, due := 8 }] }
          (setStation .skimmer StationState.fresh s0);
        s.lineFree = true ∧ s.nextStation = some .driveA ∧ (s.station .driveA).cmds.length = 2) ∧
      (let s := setStation .driveB { StationState.fresh with
          trans := some { kind := .command .stop, attempts := 1, stage := .retryDue 3 } }
          (setStation .skimmer StationState.fresh s0);
        s.lineFree = true ∧ s.nextStation = some .driveB ∧ (s.station .driveB).candidate = some (1, 3)) ∧
      (s0.lineFree = false ∧ (onLine .poll 1).candidate = none) := by decide +kernel

theorem witness_LineServesItsGroupsAndEventsEnd_disturbed :
    (let s := carry .immerse none 4399 3750 true;
      (s.seq .A).load ≠ none ∧ (s.seq .A).lift = some 4399 ∧ (s.seq .A).pClr = some 4400 ∧ (4399 : Int) < 4400) ∧
      (let s := withA (fun q => { q with lift := none }) (carry .recover none 0 3750 true);
        (s.seq .A).load ≠ none ∧ (s.seq .A).lift = none) ∧
      (idleSkimmer (carry .drain none 4400 3750 true)).disturbed = false ∧ (idleSkimmer ready).disturbed = false := by
  decide +kernel

theorem witness_LineServesItsGroupsAndEventsEnd_queue :
    let halts (x : StationState) := x.cmds.filter (fun w => decide (w.cmd = .stop ∨ w.cmd = .abort));
    let move : WaitingCommand := { cmd := .move .lift 0 25, due := 8 };
    let stop : WaitingCommand := { cmd := .stop, due := 7 };
    halts { StationState.fresh with cmds := [move] } = [] ∧
      halts { StationState.fresh with cmds := [stop, move] } = [stop] ∧ [stop] ≠ [] ∧ StationState.fresh.trans = none := by
  decide

theorem witness_LineServesItsGroupsAndEventsEnd_abandon :
    let tr (k : TransKind) (g : Stage) : Transaction := { kind := k, attempts := 1, stage := g };
    (onLine .poll 1).trans = some (tr .poll .onLine) ∧ (tr .poll .awaitRetry).stage ≠ .onLine ∧
      (tr .poll (.retryDue 3)).stage ≠ .onLine ∧
      (Command.move .lift 0 25 ≠ .stop ∧ Command.move .lift 0 25 ≠ .abort) ∧
      (tr (.command (.sweep 0 1)) .awaitRetry).stage = .awaitRetry ∧
      (tr (.command .stop) (.retryDue 3)).kind = .command .stop ∧
      (tr (.command (.move .lift 0 25)) (.retryDue 3)).stage = .retryDue 3 := by decide

def flying (p : Phase) (m : Motion) : State :=
  withA (fun q => { q with motion := some m }) (carry p none 2000 3750 true)

theorem witness_DriveReportBringsTheArrival :
    ((withA (fun q => { q with phase := .disabled }) s0).seq .A).phase = .disabled ∧
      (let s := flying .withdraw liftMotion;
        (s.seq .A).motion = some liftMotion ∧ (s.seq .A).phase = .withdraw ∧
          { s.seq .A with lift := some 4395, travel := some 3750 }.position .lift = some 4395 ∧
          |liftMotion.target - 4395| ≤ 5 ∧ 5 < |liftMotion.target - 4394| ∧
          s.latched .A = some lat ∧ 0 < lat.vibrate ∧ s.skimLead < lat.tImm) ∧
      (let s := flying .travelOut { liftMotion with axis := .travel, target := 0 };
        (s.seq .A).phase = .travelOut ∧ (s.seq .A).load = some 5 ∧
          s.records.loads.find? (fun r => r.id == 5) = s.carried .A ∧ (s.latched .A).isSome = true ∧
          { s.seq .A with lift := some 4400, travel := some 5 }.position .travel = some 5 ∧
          |(0 : Int) - 5| ≤ 5 ∧ ∀ l ∈ s.records.loads, l.id = 5 → some l = s.carried .A) ∧
      (let s := flying .travelIn { liftMotion with axis := .travel, target := 3750 };
        (s.seq .A).phase = .travelIn ∧ |(3750 : Int) - 3745| ≤ 5) ∧
      ((flying .entry { liftMotion with target := 1400 }).seq .A).phase = .entry ∧
      ((flying .jogging liftMotion).seq .A).phase = .jogging ∧ ((flying .raising liftMotion).seq .A).phase = .raising ∧
      (let s := carry .recover none 4399 3750 true;
        (s.seq .A).phase = .recover ∧ (s.seq .A).load = some 5 ∧ (s.seq .A).pClr = some 4400 ∧ (4399 : Int) < 4400 ∧
          (s.latched .A).isSome = true) := by decide +kernel

/-- Hoist A's load in cycle, not admitted, with this motion in flight. -/
def flyingRaw (p : Phase) (m : Motion) : State :=
  withA (fun q => { q with motion := some m }) (carry p none 2000 3750 false)

theorem witness_DriveReportBringsTheArrival_ofEveryOtherKind :
    (let s := flyingRaw .withdraw liftMotion;
      (s.seq .A).load = some 5 ∧ (s.seq .A).pClr = some 4400 ∧ (s.seq .A).motion = some liftMotion ∧
        { s.seq .A with lift := some 4395, travel := some 6 }.position .lift = some 4395 ∧ |(4400 : Int) - 4395| ≤ 5 ∧
        (s.seq .A).phase = .withdraw ∧ s.latched .A = none ∧ (4395 : Int) < 4400 ∧ 5 < |s.stationPosition .A - 6|) ∧
      (let s := withLoadRec (fun r => { r with latched := some { lat with vibrate := 0, drain := 0 } })
          (flying .withdraw liftMotion);
        s.latched .A = some { lat with vibrate := 0, drain := 0 }) ∧
      (let s := withLoadRec (fun r => { r with latched := some { lat with vibrate := 0 } }) (flying .withdraw liftMotion);
        s.latched .A = some { lat with vibrate := 0 } ∧ 0 < lat.drain) ∧
      (let s := withA (fun q => { q with vibrate := some 0, drain := some 0 }) (flying .drain liftMotion);
        (s.seq .A).phase = .drain ∧ (s.seq .A).vibrate = some 0 ∧ (s.seq .A).drain = some 0) ∧
      (let s := withA (fun q => { q with vibrate := some 0, drain := some 1 }) (flying .drain liftMotion);
        (s.seq .A).drain = some 1) ∧
      ((flying .weighOut liftMotion).seq .A).phase = .weighOut ∧
      (let s := flyingRaw .travelOut { liftMotion with axis := .travel, target := 0 };
        (s.seq .A).phase = .travelOut ∧ { s.seq .A with lift := some 4400, travel := some 5 }.position .travel = some 5 ∧
          |(0 : Int) - 5| ≤ 5) ∧
      (let s := carry .travelOut none 2000 3750 false;
        (s.seq .A).phase = .travelOut ∧ (s.seq .A).motion = none ∧ (4400 : Int) ≤ 4400) ∧
      (let s := carry .recover none 4399 3750 false;
        (s.seq .A).phase = .recover ∧ s.latched .A = none ∧ s.arbiter.spanOf (.hoist .A) ≠ none ∧
          (withSpans [] s).arbiter.spanOf (.hoist .A) = none) := by decide +kernel

theorem witness_DriveReportBringsTheArrival_keptTravel :
    (let s := carry .weighIn none 4400 0 false;
      (s.seq .A).motion = none ∧ (s.seq .A).phase ∉ [Phase.disabled, .recover] ∧
        (s.seq .A).phase ∉ [Phase.travelIn, .travelOut]) ∧
      (let s := carry .travelIn none 4399 0 false;
        (s.seq .A).motion = none ∧ (s.seq .A).phase = .travelIn ∧ (∀ pc, (s.seq .A).pClr = some pc → 4399 < pc) ∧
          (s.seq .A).pClr = some 4400 ∧ (s.seq .A).centre = some 3750 ∧ 5 < |(3750 : Int) - 3744| ∧
          |(3750 : Int) - 3745| ≤ 5) ∧
      (let s := carry .travelOut none 4399 5 true;
        (s.seq .A).phase = .travelOut ∧ (s.seq .A).load = some 5 ∧ |s.stationPosition .A - 5| ≤ 5) ∧
      (let s := withLoadRec (fun r => { r with latched := some { lat with tImm := 45 } })
          (flying .entry { liftMotion with target := 1400 });
        (s.seq .A).phase = .entry ∧ s.latched .A = some { lat with tImm := 45 } ∧ 45 ≤ s.skimLead ∧
          { s.seq .A with lift := some 1405, travel := some 3750 }.position .lift = some 1405 ∧ |(1400 : Int) - 1405| ≤ 5) ∧
      ((flying .immerse { liftMotion with target := 1400 }).seq .A).phase = .immerse ∧
      ((flying .awaitSkim { liftMotion with target := 1400 }).seq .A).phase = .awaitSkim := by decide +kernel

theorem witness_SamplesFillAndJudgeTheWindow :
    (let s := withWeigh .weighIn 0 (some { mean := 0, spread := 42, time := 0 }) s0;
      ∃ w, (s.eng .A).weigh = some w ∧ w.window.length + 1 = w.size ∧ 0 < w.size ∧
        (1 : Int) - 1 ≤ w.band ∧ w.band < (42 : Int) - 1 ∧
        (∀ z ∈ w.window ++ [42], 1 ≤ z ∧ z ≤ 42) ∧ w.best.map BestWindow.spread = some 42 ∧
        { w with window := [] }.window.length + 1 < w.size) := ⟨_, rfl, by decide +kernel⟩

theorem witness_SamplesFillAndJudgeTheWindow_stableWeight :
    (let s := withWeigh .weighIn 0 none (carry .weighIn none 4400 0 false);
      (s.seq .A).load = some 5 ∧ s.records.loads.find? (fun r => r.id == 5) = s.carried .A ∧
        (s.carried .A).isSome = true ∧ (s.seq .A).phase = .weighIn ∧ s.arbiter.queue = [] ∧
        (goodSample .A 1 s).2 = some (.weighIn, 0, none) ∧ (goodSample .A 1000 s).2 = none ∧
        (goodSample .A 1 (withQueue [mclaim 1 4 6] s)).2 = some (.weighIn, 0, none) ∧
        (goodSample .A 1 (withA (fun q => { q with phase := .held }) s)).2 = some (.weighIn, 0, none)) ∧
      (let s := withWeigh .weighOut 0 none (carry .weighOut none 4400 6 true);
        (s.seq .A).phase = .weighOut ∧ (goodSample .A 1 s).2 = some (.weighOut, 0, none) ∧ (s.seq .A).lift = some 4400 ∧
          (s.seq .A).pClr = some 4400 ∧ (s.seq .A).travel = some 6 ∧ 5 < |s.stationPosition .A - 6|) := by decide +kernel

def good (t : Int) : ChannelView := { reading := some t, valid := true }

theorem witness_ThermoAndLevelAnswers :
    (judgeChannel ⟨6000, 0⟩).valid = true ∧ (judgeChannel ⟨6001, 0⟩).valid = false ∧
      (([good 4899, good 4900].filterMap (fun c => if c.valid then c.reading else none)).length = 2 ∧
        ([good 4899].filterMap (fun c => if c.valid then c.reading else none)).length < 2) ∧
      (s0.bath.temp = none ∧ s0.bath.polled = false ∧ (gated none).bath.polled = true ∧
        (gated (some 4500)).bath.temp ≠ none) ∧
      (s0.bath.overArmed = true ∧ s0.setting 21 ≤ 4900 ∧ (4899 : Int) < s0.setting 21) ∧
      (let s := { s0 with bath := { s0.bath with overArmed := false } };
        s.bath.overArmed = false ∧ 4849 < s.setting 21 - 50 ∧ s.setting 21 - 50 ≤ 4850) ∧
      s0.bath.quiet = false ∧
      (let s := { s0 with bath := { s0.bath with quiet := true, temp := some 5500 } };
        s.bath.quiet = true ∧ s.bath.temp = some 5500 ∧ (5500 : Int) ≤ 5500 ∧ 0 < s.setting 4 - 3599 ∧
          s.setting 4 - 400 ≤ s.setting 3 ∧ s.setting 3 < s.setting 4 - 399 ∧ s.balance.pending = none ∧
          { s with balance := { s.balance with
            pending := some { requested := 0, rebase := true, waited := 0 } } }.balance.pending ≠ none) := by
  decide +kernel

theorem witness_ThermoAndLevelAnswers_rebase :
    let s := { s0 with
      bath := { s0.bath with quiet := true, temp := some 4000 }
      balance := { s0.balance with pending := some { requested := 0, rebase := true, waited := 599 }
                                   current := { s0.balance.current with adjustment := 2147483647 } } };
    s.balance.pending = some { requested := 0, rebase := true, waited := 599 } ∧ s.bath.quiet = true ∧
      s.bath.temp = some 4000 ∧ (4000 : Int) ≤ 4000 ∧ 0 < s.setting 4 - 3599 ∧
      (s.balance.current.overflow = false ∧ 2147483647 < s.balance.current.adjustment + (1 - s.balance.book)) ∧
      ({ s with balance := { s.balance with
        pending := some { requested := 0, rebase := false, waited := 0 } } }.balance.pending.map PendingRecon.rebase =
          some false) ∧
      (3999 : Int) < 4000 ∧ (5500 : Int) < 5501 := by decide +kernel

/-- A module at work with a load on hoist A, and one command waiting. -/
def working (c : Instr) : State := { carry .immerse none 1400 3750 true with pending := [c] }

theorem witness_TablesAndCarriedLoadsStayLawful :
    (working (.hold 0)).tablesLawful ∧ (working (.hold 0)).carryLawful ∧ ∃ t, step (working (.hold 0)) = .next t :=
  ⟨by unfold State.tablesLawful; decide +kernel, ⟨by decide +kernel, by decide +kernel, fun _ => by decide +kernel⟩, ⟨_, rfl⟩⟩

theorem witness_NoticesAndLinesStayLawful :
    (working .closePeriod).noticesLawful ∧ ∃ t, step (working .closePeriod) = .next t :=
  ⟨by unfold State.noticesLawful Link.linesRight; decide +kernel, ⟨_, rfl⟩⟩

theorem witness_NoticesAndLinesStayLawful_start :
    (overtake 0 (.supplyLost true) { s0 with unit := { s0.unit with inReset := true, starting := some 1 } }).startsLawful ∧
      s0.startsLawful :=
  ⟨fun _ => ⟨rfl, rfl, .supplyLost true, by simp [overtake], .inr ⟨true, rfl⟩⟩, fun h => absurd h (by decide)⟩

theorem witness_ZonesAndSpansStayLawful :
    (working (.claimZones 1 4 6)).zonesLawful ∧ (working (.claimZones 1 4 6)).runwayLawful ∧
      ∃ t, step (working (.claimZones 1 4 6)) = .next t :=
  ⟨by unfold State.zonesLawful; decide +kernel, by unfold State.runwayLawful; decide +kernel, ⟨_, rfl⟩⟩

theorem witness_ZonesAndSpansStayLawful_claims :
    (working (.claimZones 1 4 6)).tablesLawful ∧ (working (.claimZones 1 4 6)).carryLawful ∧
      (working (.claimZones 1 4 6)).claimsLawful ∧ (working (.claimZones 1 4 6)).runwayLawful :=
  ⟨by unfold State.tablesLawful; decide +kernel, ⟨by decide +kernel, by decide +kernel, fun _ => by decide +kernel⟩,
    ⟨by decide +kernel, by decide +kernel, by decide +kernel, fun _ h hh => ⟨by simp [working, carry, s0, State.reset],
      by fin_cases hh <;> simp [working, carry, recs, r5, LoadRec.made, s0, State.reset, State.seq, Sequencer.weighsIn]⟩⟩,
    by unfold State.runwayLawful; decide +kernel⟩

theorem witness_CalibrationHoldsUnderTheLock :
    { locked with pending := [.writeSetting 1 4000] }.settings.lock = true ∧
      (∀ fast single key, { locked with pending := [.writeSetting 1 4000] }.pending.head? ≠
        some (.supplyOn fast single key)) ∧
      (∃ t, step { locked with pending := [.writeSetting 1 4000] } = .next t) ∧
      { locked with pending := [.supplyOn true true false] }.unit.checkGood = true ∧
      ∃ t, step { locked with pending := [.supplyOn true true false] } = .next t :=
  ⟨by decide, by decide, ⟨_, rfl⟩, by decide, ⟨_, rfl⟩⟩

theorem witness_ImmersionTimesAndWeightsStayInRange :
    (working (.immersionCountdownZero .A)).loadsLawful ∧ (working (.immersionCountdownZero .A)).windowLawful ∧
      ∃ t, step (working (.immersionCountdownZero .A)) = .next t :=
  ⟨by unfold State.loadsLawful; decide +kernel, by unfold State.windowLawful; decide +kernel, ⟨_, rfl⟩⟩

theorem witness_SettingsStayInTheirRanges :
    (working (.writeSetting 30 63)).settingsLawful ∧ ∃ t, step (working (.writeSetting 30 63)) = .next t :=
  ⟨by unfold State.settingsLawful; decide +kernel, ⟨_, rfl⟩⟩

theorem witness_BookAndPeriodsStayInRange :
    (working (.reportDross 1000000)).settingsLawful ∧ (working (.reportDross 1000000)).booksLawful ∧
      ∃ t, step (working (.reportDross 1000000)) = .next t :=
  ⟨by unfold State.settingsLawful; decide +kernel, by unfold State.booksLawful Period.lawful Period.balances; decide +kernel,
    ⟨_, rfl⟩⟩

end Sys2Proof.Tests
end

section
/-! PROOFS. The dip cycle: when each of a hoist's timed events is due. -/

namespace Sys2Proof.Machine

/-! ## Phases -/

theorem Phase.heldLike_iff (p : Phase) : p.heldLike = true ↔ p = .held ∨ p = .jogging := by
  cases p <;> simp [Phase.heldLike]

theorem Phase.immersing_iff (p : Phase) : p.immersing = true ↔ p ∈ [Phase.immerse, .held, .jogging] := by
  simp [Phase.immersing, Phase.heldLike_iff]

theorem Phase.awaitingSkim_iff (p : Phase) : p.awaitingSkim = true ↔ p ∈ [Phase.awaitSkim, .held, .jogging] := by
  simp [Phase.awaitingSkim, Phase.heldLike_iff]

theorem Phase.overdipping_iff (p : Phase) :
    p.overdipping = true ↔ p ∈ [Phase.immerse, .awaitSkim, .held, .jogging] := by
  simp only [Phase.overdipping, Bool.or_eq_true, Phase.immersing_iff, decide_eq_true_eq, List.mem_cons,
    List.not_mem_nil, or_false]
  tauto

theorem Phase.inCycle_iff (p : Phase) : p.inCycle = true ↔ p ∈ Phase.dipCycle := by
  cases p <;> decide

/-- The hoist is in IMMERSE, or HELD or JOGGING with that held phase (R14, R23, R25). -/
def Sequencer.immersed (q : Sequencer) : Prop :=
  q.phase = .immerse ∨ ((q.phase = .held ∨ q.phase = .jogging) ∧ q.heldPhase = some .immerse)

/-- How the model's due conditions test for `Sequencer.immersed`. -/
theorem Sequencer.immersed_iff (q : Sequencer) :
    (decide (q.phase = .immerse) || (q.phase.heldLike && decide (q.heldPhase = some .immerse))) = true ↔
      q.immersed := by
  simp [Sequencer.immersed, Phase.heldLike_iff]

/-! ## Due conditions -/

theorem skimLeadDue_iff (h : Hoist) (s : State) :
    skimLeadDue h s = true ↔
      (s.seq h).skim = .none ∧ (s.seq h).immersed ∧ ∃ n, (s.seq h).countdown = some n ∧ n ≤ s.skimLead := by
  unfold skimLeadDue
  split
  next c hc => rw [Bool.and_eq_true, Sequencer.immersed_iff, Bool.and_eq_true]; simp [hc]; tauto
  next hc => simp [hc]

theorem countdownZeroDue_iff (h : Hoist) (s : State) :
    countdownZeroDue h s = true ↔
      (s.seq h).countdown = some 0 ∧ (s.seq h).overdip = none ∧ (s.seq h).immersed := by
  unfold countdownZeroDue
  rw [Bool.and_eq_true, Sequencer.immersed_iff]
  simp [and_assoc]

theorem skimWaitDue_iff (h : Hoist) (s : State) :
    skimWaitDue h s = true ↔
      (s.seq h).skim = .waiting ∧ (s.seq h).phase ∈ [Phase.awaitSkim, .held, .jogging] ∧
        ∃ n, (s.seq h).skimWait = some n ∧ s.skimWaitLimit ≤ n := by
  unfold skimWaitDue
  cases (s.seq h).skimWait with
  | none => simp
  | some n => simp [Phase.heldLike_iff]; tauto

theorem overdipDue_iff (h : Hoist) (s : State) :
    overdipDue h s = true ↔
      (s.seq h).overdipRaised = false ∧ ∃ n, (s.seq h).overdip = some n ∧ s.overdipLimit < n := by
  unfold overdipDue
  cases (s.seq h).overdip <;> simp

theorem vibrateDue_iff (h : Hoist) (s : State) :
    vibrateDue h s = true ↔
      (s.seq h).phase = .drain ∧ (s.seq h).motion = none ∧ (s.seq h).vibratorOn = true ∧
        (s.seq h).vibrate = some 0 := by
  simp [vibrateDue, draining, and_assoc]

theorem drainDue_iff (h : Hoist) (s : State) :
    drainDue h s = true ↔
      (s.seq h).phase = .drain ∧ (s.seq h).motion = none ∧ (s.seq h).vibratorOn = false ∧
        (s.seq h).vibrate.getD 0 = 0 ∧ (s.seq h).drain = some 0 := by
  simp [drainDue, draining, and_assoc]

theorem overdueDue_iff (h : Hoist) (s : State) :
    overdueDue h s = true ↔ ∃ m, (s.seq h).motion = some m ∧ m.limit ≤ m.elapsed := by
  unfold overdueDue
  cases (s.seq h).motion <;> simp

theorem fourSecondsDue_iff (h : Hoist) (s : State) :
    fourSecondsDue h s = true ↔
      (s.seq h).pressed = true ∧ (s.seq h).phase = .held ∧ ∃ n, (s.seq h).holdTimer = some n ∧ 4 ≤ n := by
  unfold fourSecondsDue
  cases (s.seq h).holdTimer <;> simp [and_assoc]

theorem recoveryDue_iff (h : Hoist) (s : State) :
    recoveryDue h s = true ↔ (s.seq h).phase = .recover ∧ ∃ n, (s.seq h).recoverWait = some n ∧ 10 ≤ n := by
  unfold recoveryDue
  cases (s.seq h).recoverWait <;> simp

theorem weighTimeoutDue_iff (h : Hoist) (k : WeighKind) (s : State) :
    weighTimeoutDue h k s = true ↔
      ∃ w, (s.eng h).weigh = some w ∧ w.kind = k ∧ w.passed = false ∧ w.timeout ≤ w.elapsed := by
  unfold weighTimeoutDue
  cases (s.eng h).weigh <;> simp [and_assoc]

theorem quietDue_iff (s : State) :
    quietDue s = true ↔ s.disturbed = false ∧ s.bath.quiet = false ∧ 30 ≤ s.bath.settle := by
  simp [quietDue, and_assoc]

theorem reconcileDue_iff (s : State) :
    reconcileDue s = true ↔ ∃ p, s.balance.pending = some p ∧ 600 ≤ p.waited := by
  unfold reconcileDue
  cases s.balance.pending <;> simp

end Sys2Proof.Machine
end

section
/-! PROOFS. One second of the module's own timing (O3). -/

namespace Sys2Proof.Machine

/-! ## What a second counts -/

/-- What waits after a second: the plant clock's advance first, then the events that are due. -/
def secondEvents (s : State) : List Instr := .plantClockAdvance :: dueEvents s

theorem step_idle {s : State} (hp : s.pending = []) : step s = .next (tick s) := by
  simp only [step, hp]

/-- The state that one second of a working module leaves. -/
def afterSecond (s : State) : State := { countSecond s with pending := secondEvents (countSecond s) }

theorem tick_active {s : State} (ha : s.active = true) : tick s = afterSecond s := by
  simp [tick, ha, afterSecond, secondEvents]

theorem tick_inReset {s : State} (hp : s.unit.powered = true) (hr : s.unit.inReset = true) :
    tick s = { s with pending := [.plantClockAdvance] } := by
  simp [tick, State.active, hp, hr]

theorem tick_unpowered {s : State} (hp : s.unit.powered = false) : tick s = s := by
  simp [tick, State.active, hp]

@[simp] theorem seq_countSecond (h : Hoist) (s : State) : (countSecond s).seq h = (s.seq h).second := by
  cases h <;> rfl

@[simp] theorem eng_countSecond (h : Hoist) (s : State) : (countSecond s).eng h = (s.eng h).second := by
  cases h <;> rfl

@[simp] theorem skimLead_countSecond (s : State) : (countSecond s).skimLead = s.skimLead := rfl

@[simp] theorem skimWaitLimit_countSecond (s : State) : (countSecond s).skimWaitLimit = s.skimWaitLimit := rfl

@[simp] theorem overdipLimit_countSecond (s : State) : (countSecond s).overdipLimit = s.overdipLimit := rfl

@[simp] theorem quiet_countSecond (s : State) : (countSecond s).bath.quiet = s.bath.quiet := rfl

@[simp] theorem pending_afterSecond (s : State) : (afterSecond s).pending = secondEvents (countSecond s) := rfl

@[simp] theorem bath_afterSecond (s : State) : (afterSecond s).bath = (countSecond s).bath := rfl

@[simp] theorem field_afterSecond (s : State) : (afterSecond s).field = (countSecond s).field := rfl

@[simp] theorem balance_afterSecond (s : State) : (afterSecond s).balance = (countSecond s).balance := rfl

@[simp] theorem seq_afterSecond (h : Hoist) (s : State) : (afterSecond s).seq h = (s.seq h).second := by
  cases h <;> rfl

@[simp] theorem eng_afterSecond (h : Hoist) (s : State) : (afterSecond s).eng h = (s.eng h).second := by
  cases h <;> rfl

@[simp] theorem disturbed_countSecond (s : State) : (countSecond s).disturbed = s.disturbed := rfl

theorem Sequencer.second_countdown {q : Sequencer} {n : Nat} (hn : q.countdown = some n) :
    q.second.countdown = some (if q.phase ∈ [Phase.immerse, .held, .jogging] then n - 1 else n) := by
  simp only [Sequencer.second, hn, countDown, Option.map_some, Phase.immersing_iff]
  split <;> rfl

theorem Sequencer.second_overdip {q : Sequencer} {n : Nat} (hn : q.overdip = some n) :
    q.second.overdip = some (if q.phase ∈ [Phase.immerse, .awaitSkim, .held, .jogging] then n + 1 else n) := by
  simp only [Sequencer.second, hn, countUp, Option.map_some, Phase.overdipping_iff]
  split <;> rfl

theorem Sequencer.second_skimWait {q : Sequencer} {n : Nat} (hn : q.skimWait = some n) :
    q.second.skimWait =
      some (if q.phase ∈ [Phase.awaitSkim, .held, .jogging] ∧ q.skim = .waiting then n + 1 else n) := by
  simp only [Sequencer.second, hn, countUp, Option.map_some, Bool.and_eq_true, Phase.awaitingSkim_iff,
    decide_eq_true_eq]
  split <;> rfl

theorem Sequencer.second_motion {q : Sequencer} {m : Motion} (hm : q.motion = some m) :
    q.second.motion = some { m with elapsed := m.elapsed + 1 } := by
  simp [Sequencer.second, hm]

theorem Sequencer.second_vibrate (q : Sequencer) :
    q.second.vibrate = if q.phase = .drain ∧ q.motion = none ∧ q.vibratorOn = true
      then q.vibrate.map (fun n => n - 1) else q.vibrate := by
  simp [Sequencer.second, draining, countDown, and_assoc]

theorem Sequencer.second_drain (q : Sequencer) :
    q.second.drain = if q.phase = .drain ∧ q.motion = none ∧ q.vibratorOn = false
      then q.drain.map (fun n => n - 1) else q.drain := by
  simp [Sequencer.second, draining, countDown, and_assoc]

theorem WeighEngine.second_weigh {e : WeighEngine} {w : Weigh} (hw : e.weigh = some w) :
    e.second.weigh = some { w with elapsed := w.elapsed + 1 } := by
  simp [WeighEngine.second, hw]

/-! ## Which events are due -/

/-- The events that one hoist's counts can make due. -/
def hoistTimed (h : Hoist) : List Instr :=
  [.skimLeadReached h, .immersionCountdownZero h, .overdipLimitExceeded h, .skimWaitExpired h, .vibrateEnd h,
    .drainEnd h, .motionOverdue h, .holdButton4sMark h, .recoveryTimeout h, .weighInTimeout h, .weighOutTimeout h,
    .gateTrialTick h]

/-- The events that a second can bring at most once: all but the expiries of window entries. -/
def timedOnce : List Instr :=
  .plantClockAdvance :: (hoistTimed .A ++ hoistTimed .B ++
    [.kettleQuiet, .reconcileTimeout, .fieldPollDue .thermo, .fieldPollDue .level])

theorem mem_dueIf {b : Bool} {i j : Instr} : i ∈ dueIf b j ↔ b = true ∧ i = j := by
  cases b <;> simp [dueIf]

theorem dueIf_sublist (b : Bool) (i : Instr) : (dueIf b i).Sublist [i] := by
  cases b <;> simp [dueIf]

theorem dueIf_append_sublist {b : Bool} {i : Instr} {l m : List Instr} (hl : l.Sublist m) :
    (dueIf b i ++ l).Sublist (i :: m) :=
  (dueIf_sublist b i).append hl

theorem hoistEvents_sublist (h : Hoist) (s : State) : (hoistEvents h s).Sublist (hoistTimed h) := by
  simp only [hoistEvents, hoistTimed, List.append_assoc]
  iterate 11 apply dueIf_append_sublist
  exact dueIf_sublist _ _

/-- The events of the kettle, the Balance Unit and the field line that a second can bring, once each. -/
def plantEvents (s : State) : List Instr :=
  dueIf (quietDue s) .kettleQuiet ++
  (dueIf (reconcileDue s) .reconcileTimeout ++
  (dueIf (decide (s.field.thermoSecs = 0)) (.fieldPollDue .thermo) ++
  dueIf (s.bath.quiet && decide (s.field.levelSecs = 0)) (.fieldPollDue .level)))

/-- The waiting events, reordered: the expiries of window entries, the clock's advance, and the events due once. -/
theorem dueEvents_perm (s : State) :
    (secondEvents s).Perm
      (List.replicate (s.window.countP (fun e => decide (3600 ≤ e.age))) .windowEntryExpiry ++
        .plantClockAdvance :: (hoistEvents .A s ++ hoistEvents .B s ++ plantEvents s)) := by
  rw [List.perm_iff_count]
  intro i
  simp only [secondEvents, dueEvents, plantEvents, List.map_const', List.countP_eq_length_filter, List.count_cons,
    List.count_append]
  omega

theorem dueOnce_sublist (s : State) :
    (Instr.plantClockAdvance :: (hoistEvents .A s ++ hoistEvents .B s ++ plantEvents s)).Sublist timedOnce := by
  refine (List.Sublist.cons_cons _ (.append (.append (hoistEvents_sublist _ s) (hoistEvents_sublist _ s)) ?_))
  unfold plantEvents
  iterate 3 apply dueIf_append_sublist
  exact dueIf_sublist _ _

theorem timedOnce_nodup : timedOnce.Nodup := by decide

theorem windowEntryExpiry_notMem_timedOnce : Instr.windowEntryExpiry ∉ timedOnce := by decide

theorem encodeRequest_timedOnce : ∀ i ∈ timedOnce, encodeRequest i = none := by
  simp [timedOnce, hoistTimed, encodeRequest]

theorem mem_due {i : Instr} {s : State} (hexpiry : i ≠ .windowEntryExpiry) (hclock : i ≠ .plantClockAdvance) :
    i ∈ secondEvents s ↔
      i ∈ hoistEvents .A s ∨ i ∈ hoistEvents .B s ∨ i ∈ plantEvents s := by
  rw [(dueEvents_perm s).mem_iff]
  simp [hexpiry, hclock]

/-- An event of hoist `h` waits exactly where that hoist's counts have made it due. -/
theorem hoistTimed_mem_due {h : Hoist} {i : Instr} (hi : i ∈ hoistTimed h) (s : State) :
    i ∈ secondEvents s ↔ i ∈ hoistEvents h s := by
  have apart : ∀ h, ∀ i ∈ hoistTimed h, i ≠ .windowEntryExpiry ∧ i ≠ .plantClockAdvance ∧ i ∉ hoistTimed h.other ∧
      i ∉ [.kettleQuiet, .reconcileTimeout, .fieldPollDue .thermo, .fieldPollDue .level] := by
    intro h; cases h <;> decide
  obtain ⟨hexpiry, hclock, hother, hplant⟩ := apart h i hi
  have hplant' : i ∉ plantEvents s := by
    simp only [List.mem_cons, List.not_mem_nil, or_false, not_or] at hplant
    simp [plantEvents, mem_dueIf, hplant]
  have hother' : i ∉ hoistEvents h.other s := fun hm => hother ((hoistEvents_sublist _ s).subset hm)
  rw [mem_due hexpiry hclock]
  cases h <;> simp_all [Hoist.other]

/-- An event of the plant waits exactly where it is due. -/
theorem plantEvent_mem_due {i : Instr} (hi : ∀ h, i ∉ hoistTimed h) (hexpiry : i ≠ .windowEntryExpiry)
    (hclock : i ≠ .plantClockAdvance) (s : State) :
    i ∈ secondEvents s ↔ i ∈ plantEvents s := by
  have hn (h : Hoist) : i ∉ hoistEvents h s := fun hm => hi h ((hoistEvents_sublist h s).subset hm)
  simp [mem_due hexpiry hclock, hn]

theorem count_expiry_due (s : State) :
    (secondEvents s).count .windowEntryExpiry =
      s.window.countP (fun e => decide (3600 ≤ e.age)) := by
  rw [(dueEvents_perm s).count_eq, List.count_append, List.count_replicate_self, List.count_eq_zero_of_not_mem]
  · rfl
  · exact fun hm => windowEntryExpiry_notMem_timedOnce ((dueOnce_sublist s).subset hm)

theorem count_due_le_one {i : Instr} (hi : i ≠ .windowEntryExpiry) (s : State) :
    (secondEvents s).count i ≤ 1 := by
  rw [(dueEvents_perm s).count_eq, List.count_append, List.count_replicate, if_neg (by simpa using hi.symm), zero_add]
  exact List.nodup_iff_count_le_one.1 (timedOnce_nodup.sublist (dueOnce_sublist s)) i

theorem encodeRequest_due {i : Instr} {s : State} (hi : i ∈ secondEvents s) :
    encodeRequest i = none := by
  rw [(dueEvents_perm s).mem_iff, List.mem_append] at hi
  rcases hi with hi | hi
  · rw [List.eq_of_mem_replicate hi]; rfl
  · exact encodeRequest_timedOnce i ((dueOnce_sublist s).subset hi)

/-- Which of a hoist's timed events wait, each by its own condition. -/
theorem hoistTimed_waits (h : Hoist) (s : State) :
    (.skimLeadReached h ∈ secondEvents s ↔ skimLeadDue h s = true) ∧
    (.immersionCountdownZero h ∈ secondEvents s ↔ countdownZeroDue h s = true) ∧
    (.skimWaitExpired h ∈ secondEvents s ↔ skimWaitDue h s = true) ∧
    (.overdipLimitExceeded h ∈ secondEvents s ↔ overdipDue h s = true) ∧
    (.vibrateEnd h ∈ secondEvents s ↔ vibrateDue h s = true) ∧
    (.drainEnd h ∈ secondEvents s ↔ drainDue h s = true) ∧
    (.motionOverdue h ∈ secondEvents s ↔ overdueDue h s = true) ∧
    (.holdButton4sMark h ∈ secondEvents s ↔ fourSecondsDue h s = true) ∧
    (.recoveryTimeout h ∈ secondEvents s ↔ recoveryDue h s = true) ∧
    (.weighInTimeout h ∈ secondEvents s ↔ weighTimeoutDue h .weighIn s = true) ∧
    (.weighOutTimeout h ∈ secondEvents s ↔ weighTimeoutDue h .weighOut s = true) ∧
    (.gateTrialTick h ∈ secondEvents s ↔ (s.seq h).phase = .awaitAdmit) := by
  refine ⟨?_, ?_, ?_, ?_, ?_, ?_, ?_, ?_, ?_, ?_, ?_, ?_⟩ <;>
    rw [hoistTimed_mem_due (h := h) (by simp [hoistTimed])] <;>
    simp [hoistEvents, mem_dueIf]

end Sys2Proof.Machine

open Sys2Proof Sys2Proof.Machine

/-- Settles O3: what the second counts is read off `countSecond`, and which events then wait off `dueEvents_perm`. -/
theorem idleSecondCountsByTheBlocksOwnTiming : Obligations.IdleSecondCountsByTheBlocksOwnTiming := by
  refine ⟨fun s hp => ⟨fun ha => ⟨afterSecond s, ?_⟩, fun hon hr => ?_, fun hoff => ?_⟩, fun s t hp ha ht => ?_⟩
  · simp only [seq_afterSecond, eng_afterSecond]
    refine ⟨by rw [step_idle hp, tick_active ha], rfl, rfl, fun hd => ?_, fun hd => ?_, fun p h => ?_,
      fun h w => WeighEngine.second_weigh, fun h n => Sequencer.second_countdown, fun h n => Sequencer.second_overdip,
      fun h n => Sequencer.second_skimWait, fun h m => Sequencer.second_motion, fun h => ⟨rfl, rfl, rfl, rfl, rfl⟩,
      rfl, rfl, rfl, rfl, rfl, rfl, rfl, rfl, rfl, rfl, rfl⟩
    · simp [afterSecond, countSecond, State.settleSecond, hd]
    · simp [afterSecond, countSecond, State.settleSecond, hd]
    · simp [afterSecond, countSecond, h]
  · rw [step_idle hp, tick_inReset hon hr]
  · rw [step_idle hp, tick_unpowered hoff]
  · rw [step_idle hp, tick_active ha] at ht
    cases ht
    simp only [pending_afterSecond]
    refine ⟨fun h q hqs => ?_, ?_, ?_, fun h q immersing hqs him => ?_, count_expiry_due _, ?_, ?_, fun st => ?_,
      fun i => encodeRequest_due, fun i hi => count_due_le_one hi _⟩
    · subst hqs
      rw [seq_afterSecond]
      exact ⟨Sequencer.second_vibrate _, Sequencer.second_drain _, rfl, rfl⟩
    · change nextSecs 2 s.field.thermoSecs = _
      unfold nextSecs
      split <;> split <;> omega
    · change (if s.bath.quiet = true then nextSecs 10 s.field.levelSecs else 0) = _
      simp [nextSecs]
    · rw [seq_afterSecond, ← seq_countSecond] at hqs
      obtain rfl : immersing = q.immersed := propext him
      subst hqs
      rw [eng_afterSecond, ← eng_countSecond, ← skimLead_countSecond, ← skimWaitLimit_countSecond,
        ← overdipLimit_countSecond]
      have waits := hoistTimed_waits h (countSecond s)
      simp only [skimLeadDue_iff, countdownZeroDue_iff, overdipDue_iff, skimWaitDue_iff, vibrateDue_iff, drainDue_iff,
        overdueDue_iff, fourSecondsDue_iff, recoveryDue_iff, weighTimeoutDue_iff] at waits
      exact waits
    · rw [plantEvent_mem_due (by simp [hoistTimed]) (by simp) (by simp)]
      simp [plantEvents, mem_dueIf, quietDue_iff]
    · rw [plantEvent_mem_due (by simp [hoistTimed]) (by simp) (by simp)]
      simp [plantEvents, mem_dueIf, reconcileDue_iff]
    · rw [plantEvent_mem_due (by simp [hoistTimed]) (by simp) (by simp)]
      cases st <;> simp [plantEvents, mem_dueIf]

end

section
/-! PROOFS. The dip cycle: requests that name a hoist, motions, and the record of the carried load. -/

namespace Sys2Proof.Machine

/-! ## Requests (R177) -/

/-- A request whose owner takes it is `Taken`. -/
theorem taken_of {c : Instr} {k : Nat} {owner : State → State × Answer} {s t : State}
    (hx : exec c s = .next (request k 0 owner s)) (hl : s.listening = true) (ho : owner s = taken t) :
    Taken c k .empty s t := by
  rw [Taken, hx, request, if_pos hl, ho]
  rfl

/-- A request whose owner refuses it is `Refused`. -/
theorem refused_of {c : Instr} {k : Nat} {st : Status} {owner : State → State × Answer} {s : State}
    (hx : exec c s = .next (request k 0 owner s)) (hl : s.listening = true) (ho : owner s = refuse st s) :
    Refused c k st s := by
  rw [Refused, hx, request, if_pos hl, ho]
  rfl

/-- An event of the blocks' work, in a module that works. -/
theorem exec_eventOf {c : Instr} {e : State → State} {s : State} (hc : eventOf c = some e) (ha : s.active = true) :
    exec c s = .next (endEvent (e s)) := by
  rw [exec_event hc, event, if_pos ha]

@[simp] theorem hoistOf_byte (h : Hoist) : hoistOf h.byte = some h := by cases h <;> rfl

theorem hoistOf_of_one_lt {n : Nat} (hn : 1 < n) : hoistOf n = none := by
  match n with
  | n + 2 => rfl

theorem onHoist_range {n : Nat} (hn : 1 < n) (f : Hoist → State → State × Answer) (s : State) :
    onHoist n f s = refuse .range s := by
  simp [onHoist, hoistOf_of_one_lt hn]

theorem onHoist_disabled {h : Hoist} {s : State} (hp : (s.seq h).phase = .disabled)
    (f : Hoist → State → State × Answer) : onHoist h.byte f s = refuse .disabled s := by
  simp [onHoist, hp]

theorem onHoist_recover {h : Hoist} {s : State} (hp : (s.seq h).phase = .recover)
    (f : Hoist → State → State × Answer) : onHoist h.byte f s = refuse .busy s := by
  simp [onHoist, hp]

/-- Past the checks of R6 a request comes to its own work. -/
theorem onHoist_of {h : Hoist} {s : State} (hd : (s.seq h).phase ≠ .disabled) (hr : (s.seq h).phase ≠ .recover)
    (f : Hoist → State → State × Answer) : onHoist h.byte f s = f h s := by
  simp [onHoist, hd, hr]

theorem inRange_jog {d : Int} (hlo : -500 ≤ d) (hhi : d ≤ 500) : inRange (-500) 500 d = true := by
  simp [inRange, hlo, hhi]

end Sys2Proof.Machine
end

section
/-! PROOFS. The requests that name a hoist, by its byte and phase. -/

namespace Sys2Proof.Machine

/-- A byte that names no hoist is refused RANGE by every request that names one (R6). -/
theorem hoistRequests_range {n : Nat} {s : State} (hl : s.listening = true) (hn : 1 < n) (load : Nat) (d : Int) :
    ∀ c ∈ [(Instr.present n load, 0x20), (.hold n, 0x21), (.resume n, 0x22), (.jog n d, 0x23), (.cancel n, 0x24),
      (.acceptUnweighed n, 0x25), (.finishUnweighed n, 0x26), (.enableHoist n, 0x27), (.disableHoist n, 0x28)],
      Refused c.1 c.2 .range s := by
  have hno := hoistOf_of_one_lt hn
  simp only [List.forall_mem_cons, List.not_mem_nil, false_implies, implies_true, and_true]
  refine ⟨refused_of rfl hl ?_, refused_of rfl hl (onHoist_range hn _ s), refused_of rfl hl (onHoist_range hn _ s),
    refused_of rfl hl ?_, refused_of rfl hl (onHoist_range hn _ s), refused_of rfl hl (onHoist_range hn _ s),
    refused_of rfl hl (onHoist_range hn _ s), refused_of rfl hl ?_, refused_of rfl hl ?_⟩
  · simp [present, hno]
  · simp [jog, hno, onHoist_range hn]
  · simp [enableHoist, hno]
  · simp [disableHoist, hno]

/-- A DISABLED hoist refuses every request but ENABLE_HOIST and DISABLE_HOIST (R6). -/
theorem hoistRequests_disabled {h : Hoist} {load : Nat} {d : Int} {s : State} (hl : s.listening = true)
    (hp : (s.seq h).phase = .disabled) (h1 : 1 ≤ load) (h2 : load ≤ 65535) (hd : d ≠ 0) (hlo : -500 ≤ d)
    (hhi : d ≤ 500) :
    ∀ c ∈ [(Instr.present h.byte load, 0x20), (.hold h.byte, 0x21), (.resume h.byte, 0x22), (.jog h.byte d, 0x23),
      (.cancel h.byte, 0x24), (.acceptUnweighed h.byte, 0x25), (.finishUnweighed h.byte, 0x26)],
      Refused c.1 c.2 .disabled s := by
  have hload : ¬ (load = 0 ∨ 65535 < load) := by omega
  have guard := onHoist_disabled hp
  simp only [List.forall_mem_cons, List.not_mem_nil, false_implies, implies_true, and_true]
  refine ⟨refused_of rfl hl ?_, refused_of rfl hl (guard _), refused_of rfl hl (guard _), refused_of rfl hl ?_,
    refused_of rfl hl (guard _), refused_of rfl hl (guard _), refused_of rfl hl (guard _)⟩
  · simp [present, hload, hp]
  · simp [jog, hd, inRange_jog hlo hhi, guard]

/-- A hoist in RECOVER refuses every request BUSY (R6, R31, R32). -/
theorem hoistRequests_recover {h : Hoist} {load : Nat} {d : Int} {s : State} (hl : s.listening = true)
    (hp : (s.seq h).phase = .recover) (h1 : 1 ≤ load) (h2 : load ≤ 65535) (hd : d ≠ 0) (hlo : -500 ≤ d)
    (hhi : d ≤ 500) :
    ∀ c ∈ [(Instr.present h.byte load, 0x20), (.hold h.byte, 0x21), (.resume h.byte, 0x22), (.jog h.byte d, 0x23),
      (.cancel h.byte, 0x24), (.acceptUnweighed h.byte, 0x25), (.finishUnweighed h.byte, 0x26),
      (.enableHoist h.byte, 0x27), (.disableHoist h.byte, 0x28)],
      Refused c.1 c.2 .busy s := by
  have hload : ¬ (load = 0 ∨ 65535 < load) := by omega
  have guard := onHoist_recover hp
  simp only [List.forall_mem_cons, List.not_mem_nil, false_implies, implies_true, and_true]
  refine ⟨refused_of rfl hl ?_, refused_of rfl hl (guard _), refused_of rfl hl (guard _), refused_of rfl hl ?_,
    refused_of rfl hl (guard _), refused_of rfl hl (guard _), refused_of rfl hl (guard _), refused_of rfl hl ?_,
    refused_of rfl hl ?_⟩
  · simp [present, hload, hp]
  · simp [jog, hd, inRange_jog hlo hhi, guard]
  · simp [enableHoist, hp]
  · simp [disableHoist, hp]

theorem present_busy {h : Hoist} {load : Nat} {s : State} (h1 : 1 ≤ load) (h2 : load ≤ 65535)
    (hp : (s.seq h).phase ∉ [.idle, .disabled]) : present h.byte load s = refuse .busy s := by
  have hload : ¬ (load = 0 ∨ 65535 < load) := by omega
  have hp' : (s.seq h).phase ≠ .idle ∧ (s.seq h).phase ≠ .disabled := by simpa using hp
  simp [present, hload, hp']

/-- ENABLE_HOIST and DISABLE_HOIST are refused STATE outside IDLE, DISABLED and RECOVER (R31). -/
theorem enable_disable_state {h : Hoist} {s : State} (hl : s.listening = true)
    (hp : (s.seq h).phase ∉ [.idle, .disabled, .recover]) :
    Refused (.enableHoist h.byte) 0x27 .state s ∧ Refused (.disableHoist h.byte) 0x28 .state s := by
  simp only [List.mem_cons, List.not_mem_nil, or_false, not_or] at hp
  obtain ⟨hi, hd, hr⟩ := hp
  exact ⟨refused_of rfl hl (by simp [enableHoist]), refused_of rfl hl (by simp [disableHoist])⟩

/-- Outside HELD and JOGGING a hoist at work refuses RESUME, JOG and FINISH_UNWEIGHED (R24, R25, R26). -/
theorem resume_jog_finish_state {h : Hoist} {d : Int} {s : State} (hl : s.listening = true)
    (hp : (s.seq h).phase ∉ [.held, .jogging, .disabled, .recover]) (hd : d ≠ 0) (hlo : -500 ≤ d) (hhi : d ≤ 500) :
    Refused (.resume h.byte) 0x22 .state s ∧ Refused (.jog h.byte d) 0x23 .state s ∧
      Refused (.finishUnweighed h.byte) 0x26 .state s := by
  simp only [List.mem_cons, List.not_mem_nil, or_false, not_or] at hp
  obtain ⟨hh, hj, hdis, hrec⟩ := hp
  refine ⟨refused_of rfl hl ?_, refused_of rfl hl ?_, refused_of rfl hl ?_⟩
  · simp [resume, onHoist_of hdis hrec]
  · simp [jog, hd, inRange_jog hlo hhi, onHoist_of hdis hrec]
  · simp [finishUnweighed, onHoist_of hdis hrec, hj, finishable, hh]

/-- CANCEL is refused STATE in IDLE and from ENTRY on, the load then being in the bath or past it (R27). -/
theorem cancel_state {h : Hoist} {s : State}
    (hp : (s.seq h).phase ∉ [.weighIn, .awaitSpan, .travelIn, .awaitAdmit, .disabled, .recover]) :
    cancel h.byte s = refuse .state s := by
  simp only [List.mem_cons, List.not_mem_nil, or_false, not_or] at hp
  obtain ⟨hw, hspan, ht, ha, hdis, hrec⟩ := hp
  simp [cancel, onHoist_of hdis hrec]

/-- ACCEPT_UNWEIGHED is refused STATE outside WEIGH_IN (R9). -/
theorem acceptUnweighed_state {h : Hoist} {s : State} (hp : (s.seq h).phase ∉ [.weighIn, .disabled, .recover]) :
    acceptUnweighed h.byte s = refuse .state s := by
  simp only [List.mem_cons, List.not_mem_nil, or_false, not_or] at hp
  obtain ⟨hw, hdis, hrec⟩ := hp
  simp [acceptUnweighed, onHoist_of hdis hrec]

theorem hold_state {h : Hoist} {s : State} (hp : (s.seq h).phase = .idle ∨ (s.seq h).phase = .raising) :
    hold h.byte s = refuse .state s := by
  rcases hp with hp | hp <;> simp [hold, onHoist, hp]

/-- A JOGGING hoist refuses what names its motion BUSY, and the rest STATE (R6, R24 to R27, R31). -/
theorem hoistRequests_jogging {h : Hoist} {load : Nat} {d : Int} {s : State} (hl : s.listening = true)
    (hp : (s.seq h).phase = .jogging) (h1 : 1 ≤ load) (h2 : load ≤ 65535) (hd : d ≠ 0) (hlo : -500 ≤ d)
    (hhi : d ≤ 500) :
    Refused (.present h.byte load) 0x20 .busy s ∧ Refused (.resume h.byte) 0x22 .busy s ∧
      Refused (.jog h.byte d) 0x23 .busy s ∧ Refused (.finishUnweighed h.byte) 0x26 .busy s ∧
      Refused (.cancel h.byte) 0x24 .state s ∧ Refused (.acceptUnweighed h.byte) 0x25 .state s ∧
      Refused (.enableHoist h.byte) 0x27 .state s ∧ Refused (.disableHoist h.byte) 0x28 .state s := by
  have guard := onHoist_of (h := h) (s := s) (by simp [hp]) (by simp [hp])
  refine ⟨refused_of rfl hl (present_busy h1 h2 (by simp [hp])), refused_of rfl hl ?_, refused_of rfl hl ?_,
    refused_of rfl hl ?_, refused_of rfl hl (cancel_state (by simp [hp])),
    refused_of rfl hl (acceptUnweighed_state (by simp [hp])), enable_disable_state hl (by simp [hp])⟩
  · simp [resume, guard, hp]
  · simp [jog, hd, inRange_jog hlo hhi, guard, hp]
  · simp [finishUnweighed, guard, hp]

end Sys2Proof.Machine

open Sys2Proof Sys2Proof.Machine

/-- Settles O26: the checks of R6 come first, and past them each request goes by the phase. -/
theorem hoistRequestsByPhase : Obligations.HoistRequestsByPhase := by
  refine ⟨fun s hl => ⟨fun n load d hn _ _ _ => hoistRequests_range hl hn load d,
    fun h load d h1 h2 hd hlo hhi => ⟨fun hp => hoistRequests_disabled hl hp h1 h2 hd hlo hhi,
      fun hp => hoistRequests_recover hl hp h1 h2 hd hlo hhi, fun hp => hoistRequests_jogging hl hp h1 h2 hd hlo hhi,
      fun hp => resume_jog_finish_state hl ?_ hd hlo hhi, fun hp => refused_of rfl hl (hold_state hp),
      fun hp => refused_of rfl hl (cancel_state ?_), fun hp => ?_, fun hp hw => ?_⟩⟩,
    fun h s hl => ⟨fun hp => ?_, fun hp => ?_⟩⟩
  · generalize (s.seq h).phase = p at hp
    revert hp; cases p <;> decide
  · generalize (s.seq h).phase = p at hp
    revert hp; cases p <;> decide
  · refine ⟨refused_of rfl hl (present_busy h1 h2 ?_), enable_disable_state hl ?_⟩ <;>
      (generalize (s.seq h).phase = p at hp; revert hp; cases p <;> decide)
  · refine refused_of rfl hl (acceptUnweighed_state ?_)
    generalize (s.seq h).phase = p at hp hw
    revert hp hw; cases p <;> decide
  · exact ⟨taken_of rfl hl (by simp [enableHoist, hp, modSeq]), taken_of rfl hl (by simp [disableHoist, hp])⟩
  · exact ⟨taken_of rfl hl (by simp [enableHoist, hp]), taken_of rfl hl (by simp [disableHoist, hp, modSeq])⟩

end

section
/-! PROOFS. The dip cycle: the carried load's record, motions, and the phases entered, as they act on a state whose
hoist `h` has the items `q` (`setSeq h q s`). -/

namespace Sys2Proof.Machine

/-! ## The state of one hoist -/

theorem modSeq_setSeq (h : Hoist) (f : Sequencer → Sequencer) (q : Sequencer) (s : State) :
    modSeq h f (setSeq h q s) = setSeq h (f q) s := by
  simp [modSeq]

theorem setPhase_setSeq (h : Hoist) (p : Phase) (q : Sequencer) (s : State) :
    setPhase h p (setSeq h q s) = setSeq h { q with phase := p } s := by
  simp [setPhase, modSeq]

@[simp] theorem seq_withLoad (h : Hoist) (id : Nat) (f : LoadRec → LoadRec) (s : State) :
    (withLoad id f s).seq h = s.seq h := by
  cases h <;> rfl

@[simp] theorem seq_raise (h : Hoist) (k : NoticeKind) (ho : Option Hoist) (l : Option Nat) (a b : Option Int)
    (s : State) : (raise k ho l a b s).seq h = s.seq h := by
  cases h <;> rfl

theorem withLoad_setSeq (id : Nat) (f : LoadRec → LoadRec) (h : Hoist) (q : Sequencer) (s : State) :
    withLoad id f (setSeq h q s) = setSeq h q (withLoad id f s) := by
  cases h <;> rfl

theorem seq_modCarried (h h' : Hoist) (f : LoadRec → LoadRec) (s : State) : (modCarried h f s).seq h' = s.seq h' :=
  seq_congr (by simp) (by simp) h'

/-- A change of the record of the load that the hoist carries is a change of the records of its id. -/
theorem modCarried_eq {h : Hoist} {id : Nat} {s : State} (hl : (s.seq h).load = some id) (f : LoadRec → LoadRec) :
    modCarried h f s = withLoad id f s := by
  simp only [modCarried, hl]
  rfl

theorem modCarried_setSeq {h : Hoist} {q : Sequencer} {id : Nat} (hl : q.load = some id) (f : LoadRec → LoadRec)
    (s : State) : modCarried h f (setSeq h q s) = setSeq h q (withLoad id f s) := by
  rw [modCarried_eq (by rw [seq_setSeq, hl]), withLoad_setSeq]

/-! ## The carried load -/

theorem carried_setSeq {h : Hoist} {q : Sequencer} {s : State} (hq : q.load = (s.seq h).load) :
    (setSeq h q s).carried h = s.carried h := by
  cases h <;> simp only [State.carried, seq_setSeq, hq] <;> rfl

theorem latched_setSeq {h : Hoist} {q : Sequencer} {s : State} (hq : q.load = (s.seq h).load) :
    (setSeq h q s).latched h = s.latched h := by
  rw [State.latched, carried_setSeq hq, State.latched]

theorem admitted_eq (h : Hoist) (s : State) : s.admitted h = (s.latched h).isSome := by
  unfold State.admitted State.latched
  cases s.carried h <;> rfl

theorem admitted_setSeq {h : Hoist} {q : Sequencer} {s : State} (hq : q.load = (s.seq h).load) :
    (setSeq h q s).admitted h = (s.latched h).isSome := by
  rw [admitted_eq, latched_setSeq hq]

theorem carried_eq {h : Hoist} {id : Nat} {s : State} (hl : (s.seq h).load = some id) :
    s.carried h = s.records.loads.find? (fun r => r.id == id) := by
  simp [State.carried, hl, State.load?]

theorem latched_eq {h : Hoist} {id : Nat} {r : LoadRec} {s : State} (hl : (s.seq h).load = some id)
    (hr : s.records.loads.find? (fun r => r.id == id) = some r) : s.latched h = r.latched := by
  simp [State.latched, carried_eq hl, hr]

/-- What a lookup finds after a change that keeps the ids. -/
theorem find?_withLoad {id : Nat} {f : LoadRec → LoadRec} (hf : ∀ r, (f r).id = r.id) (k : Nat) (s : State) :
    (withLoad id f s).records.loads.find? (fun r => r.id == k) =
      (s.records.loads.find? (fun r => r.id == k)).map (fun r => if r.id = id then f r else r) := by
  have hid (r : LoadRec) : ((if r.id = id then f r else r).id == k) = (r.id == k) := by
    split
    next => rw [hf]
    next => rfl
  simp only [withLoad, List.find?_map, Function.comp_def, hid]

theorem latched_withLoad {id : Nat} {f : LoadRec → LoadRec} (hid : ∀ r, (f r).id = r.id)
    (hl : ∀ r, (f r).latched = r.latched) (h : Hoist) (s : State) : (withLoad id f s).latched h = s.latched h := by
  unfold State.latched State.carried State.load?
  rw [seq_withLoad]
  cases (s.seq h).load with
  | none => rfl
  | some k =>
    simp only [Option.bind_some, find?_withLoad hid]
    cases s.records.loads.find? (fun r => r.id == k) with
    | none => rfl
    | some r =>
      simp only [Option.map_some, Option.bind_some]
      split
      next => exact hl r
      next => rfl

theorem zones_withLoad {id : Nat} {f : LoadRec → LoadRec} {r : LoadRec} {s : State} (hid : ∀ r, (f r).id = r.id)
    (hz : ∀ r, (f r).zones = r.zones) (hr : s.records.loads.find? (fun r => r.id == id) = some r) :
    ((withLoad id f s).records.loads.find? (fun r => r.id == id)).map LoadRec.zones = some r.zones := by
  have hrid : r.id = id := by simpa using List.find?_some hr
  simp [find?_withLoad hid, hr, hrid, hz]

/-! ## Positions (R1, R4) -/

theorem near_iff (t x : Int) : near t x = true ↔ |t - x| ≤ 5 := by
  rw [near, Bool.and_eq_true, decide_eq_true_eq, decide_eq_true_eq, abs_le]
  omega

theorem near_of_le {t x : Int} (hn : |t - x| ≤ 5) : near t x = true := (near_iff t x).2 hn

theorem near_of_lt {t x : Int} (hf : 5 < |t - x|) : near t x = false := by
  rw [← Bool.not_eq_true, near_iff]
  omega

theorem Sequencer.clear_eq {q : Sequencer} {x c : Int} (hx : q.lift = some x) (hc : q.pClr = some c) :
    q.clear = decide (c ≤ x) := by
  simp [Sequencer.clear, hx, hc]

theorem Sequencer.clear_of_le {q : Sequencer} {x c : Int} (hx : q.lift = some x) (hc : q.pClr = some c)
    (hle : c ≤ x) : q.clear = true := by
  simp [Sequencer.clear_eq hx hc, hle]

theorem Sequencer.not_clear_of_lt {q : Sequencer} {x c : Int} (hx : q.lift = some x) (hc : q.pClr = some c)
    (hlt : x < c) : q.clear = false := by
  simp [Sequencer.clear_eq hx hc, hlt]

/-! ## Motions (R4, R5) -/

section Motions
variable {h : Hoist} {q : Sequencer} {s : State}

/-- Within 5 mm of its target a motion has arrived, with no command (R4). -/
theorem issueMotion_near {axis : Axis} {t p : Int} (hp : q.position axis = some p) (hn : |t - p| ≤ 5) (v : Int) :
    issueMotion h axis t v (setSeq h q s) = (setSeq h { q with motion := none } s, true) := by
  simp [issueMotion, hp, near_of_le hn, modSeq]

/-- Farther off it is asked of the drive and recorded (R4, R5). -/
theorem issueMotion_far {axis : Axis} {t p : Int} (hp : q.position axis = some p) (hf : 5 < |t - p|) (v : Int) :
    issueMotion h axis t v (setSeq h q s) = (moving h axis t v p (setSeq h q s), false) := by
  simp [issueMotion, hp, near_of_lt hf, modSeq, moving, State.clock]

theorem issueLift_near {t x : Int} (hx : q.lift = some x) (hn : |t - x| ≤ 5) (v : Int) :
    issueLift h (some t) v (setSeq h q s) = (setSeq h { q with motion := none } s, true) :=
  issueMotion_near (axis := .lift) hx hn v

theorem issueLift_far {t x : Int} (hx : q.lift = some x) (hf : 5 < |t - x|) (v : Int) :
    issueLift h (some t) v (setSeq h q s) = (moving h .lift t v x (setSeq h q s), false) :=
  issueMotion_far (axis := .lift) hx hf v

theorem travelSpeed_setSeq : (setSeq h q s).travelSpeed = s.setting 13 := by
  cases h <;> rfl

theorem issueTravel_near {t y : Int} (hc : q.clear = true) (hy : q.travel = some y) (hn : |t - y| ≤ 5) :
    issueTravel h t (setSeq h q s) = (setSeq h { q with motion := none } s, true) := by
  rw [issueTravel, seq_setSeq, if_pos hc, issueMotion_near (axis := .travel) hy hn]

theorem issueTravel_far {t y : Int} (hc : q.clear = true) (hy : q.travel = some y) (hf : 5 < |t - y|) :
    issueTravel h t (setSeq h q s) = (moving h .travel t (s.setting 13) y (setSeq h q s), false) := by
  rw [issueTravel, seq_setSeq, if_pos hc, issueMotion_far (axis := .travel) hy hf, travelSpeed_setSeq]

/-- A travel asked for while the lift is not clear is kept back (R2, log entry 10). -/
theorem issueTravel_kept (t : Int) (hc : q.clear = false) :
    issueTravel h t (setSeq h q s) = (setSeq h { q with motion := none } s, false) := by
  simp [issueTravel, hc, modSeq]

/-! ## Travel in (R10, R11) -/

theorem enterAwaitAdmit_setSeq :
    enterAwaitAdmit h (setSeq h q s) = trial h (setSeq h { q with phase := .awaitAdmit, motion := none } s) := by
  rw [enterAwaitAdmit, modSeq_setSeq]

theorem beginTravelIn_far {c y : Int} (hc : q.clear = true) (hcen : q.centre = some c) (hy : q.travel = some y)
    (hf : 5 < |c - y|) :
    beginTravelIn h (setSeq h q s) =
      moving h .travel c (s.setting 13) y (setSeq h { q with phase := .travelIn } s) := by
  have hcentre : ((setSeq h q s).seq h).centre.getD 0 = c := by rw [seq_setSeq, hcen]; rfl
  rw [beginTravelIn, hcentre, setPhase_setSeq, issueTravel_far (q := { q with phase := .travelIn }) hc hy hf]
  rfl

theorem beginTravelIn_near {c y : Int} (hc : q.clear = true) (hcen : q.centre = some c) (hy : q.travel = some y)
    (hn : |c - y| ≤ 5) :
    beginTravelIn h (setSeq h q s) = trial h (setSeq h { q with phase := .awaitAdmit, motion := none } s) := by
  have hcentre : ((setSeq h q s).seq h).centre.getD 0 = c := by rw [seq_setSeq, hcen]; rfl
  rw [beginTravelIn, hcentre, setPhase_setSeq, issueTravel_near (q := { q with phase := .travelIn }) hc hy hn]
  change enterAwaitAdmit h _ = _
  rw [enterAwaitAdmit_setSeq]

/-! ## Travel out and the end of the dip (R20, R21, R27) -/

/-- What the end of its dip makes of the records of load `id` and of its jig (R21, R118, R123). -/
def dipRecords (id : Nat) (r : Records) : Records :=
  { r with
    loads := r.loads.map (fun l =>
      if l.id = id ∧ l.latched = none then
        { l with state := .registered, hoist := none, span := none, wIn := none,
                 flags := { l.flags with unweighedIn := false } }
      else if l.id = id then { l with state := .complete, hoist := none, span := none }
      else l)
    jigs := r.jigs.map (fun j => if j.carriedBy = some id then { j with carriedBy := none } else j) }

theorem endDip_setSeq {id : Nat} (hl : q.load = some id) :
    endDip h (setSeq h q s) = setSeq h q.cleared { s with records := dipRecords id s.records } := by
  have hrec : (fun l : LoadRec => if l.id = id then (if l.admitted then l.completed else l.returned) else l) =
      (fun l => if l.id = id ∧ l.latched = none then
        { l with state := .registered, hoist := none, span := none, wIn := none,
                 flags := { l.flags with unweighedIn := false } }
      else if l.id = id then { l with state := .complete, hoist := none, span := none }
      else l) := by
    funext l
    by_cases hid : l.id = id <;> cases hla : l.latched <;>
      simp [hid, hla, LoadRec.admitted, LoadRec.completed, LoadRec.returned]
  simp only [endDip, modCarried_setSeq hl, seq_setSeq, hl, withLoad, hrec]
  cases h <;> rfl

theorem travelOutArrival_setSeq {id : Nat} (hl : q.load = some id) :
    travelOutArrival h (setSeq h q s) = dipEnded h id (setSeq h q s) := by
  rw [travelOutArrival, endDip_setSeq hl, releaseSpan, dipEnded]
  cases h <;> rfl

theorem dipEnded_setSeq (id : Nat) : dipEnded h id (setSeq h q s) =
    placeClaims (setSeq h q.cleared
      { s with
        arbiter := { s.arbiter with spans := s.arbiter.spans.filter (fun p => !decide (p.owner = .hoist h)) }
        records := dipRecords id s.records }) := by
  cases h <;> rfl

theorem stationPosition_setSeq : (setSeq h q s).stationPosition h = s.stationPosition h := by
  cases h <;> rfl

theorem beginTravelOut_far {y : Int} (hc : q.clear = true) (hy : q.travel = some y)
    (hf : 5 < |s.stationPosition h - y|) :
    beginTravelOut h (setSeq h q s) =
      moving h .travel (s.stationPosition h) (s.setting 13) y (setSeq h { q with phase := .travelOut } s) := by
  rw [beginTravelOut, setPhase_setSeq, stationPosition_setSeq,
    issueTravel_far (q := { q with phase := .travelOut }) hc hy hf]
  rfl

theorem beginTravelOut_near {y : Int} {id : Nat} (hc : q.clear = true) (hy : q.travel = some y)
    (hl : q.load = some id) (hn : |s.stationPosition h - y| ≤ 5) :
    beginTravelOut h (setSeq h q s) = dipEnded h id (setSeq h q s) := by
  rw [beginTravelOut, setPhase_setSeq, stationPosition_setSeq,
    issueTravel_near (q := { q with phase := .travelOut }) hc hy hn]
  change travelOutArrival h (setSeq h { q with phase := .travelOut, motion := none } s) = _
  rw [travelOutArrival_setSeq (q := { q with phase := .travelOut, motion := none }) hl, dipEnded_setSeq,
    dipEnded_setSeq]
  rfl

theorem beginTravelOut_of_far {y : Int} (hc : (s.seq h).clear = true) (hy : (s.seq h).travel = some y)
    (hf : 5 < |s.stationPosition h - y|) :
    beginTravelOut h s =
      moving h .travel (s.stationPosition h) (s.setting 13) y (setSeq h { s.seq h with phase := .travelOut } s) := by
  have far := beginTravelOut_far hc hy hf
  rwa [setSeq_seq] at far

theorem beginTravelOut_of_near {y : Int} {id : Nat} (hc : (s.seq h).clear = true) (hy : (s.seq h).travel = some y)
    (hl : (s.seq h).load = some id) (hn : |s.stationPosition h - y| ≤ 5) :
    beginTravelOut h s = dipEnded h id s := by
  have near := beginTravelOut_near hc hy hl hn
  rwa [setSeq_seq] at near

theorem beginTravelOut_kept (hc : q.clear = false) :
    beginTravelOut h (setSeq h q s) = setSeq h { q with phase := .travelOut, motion := none } s := by
  rw [beginTravelOut, setPhase_setSeq, issueTravel_kept (q := { q with phase := .travelOut }) _ hc]
  rfl

/-! ## Entry and immersion (R12 to R14) -/

theorem entrySpeed_setSeq (hq : q.load = (s.seq h).load) : (setSeq h q s).entrySpeed h = s.entrySpeed h := by
  rw [State.entrySpeed, latched_setSeq hq, State.entrySpeed, State.raiseSpeed, State.raiseSpeed]
  cases h <;> rfl

theorem enterImmerse_setSeq {l : Latched} (hq : q.load = (s.seq h).load) (hl : s.latched h = some l) :
    enterImmerse h (setSeq h q s) =
      sendSkimAtLead h (setSeq h { q with phase := .immerse, motion := none, countdown := some l.tImm } s) := by
  rw [enterImmerse, modSeq_setSeq, latched_setSeq hq, hl]
  rfl

theorem beginEntry_far {t x : Int} (hq : q.load = (s.seq h).load) (ht : q.pImm = some t) (hx : q.lift = some x)
    (hf : 5 < |t - x|) :
    beginEntry h (setSeq h q s) =
      moving h .lift t (s.entrySpeed h) x (setSeq h { q with phase := .entry } s) := by
  have htarget : ((setSeq h q s).seq h).pImm = some t := by rw [seq_setSeq, ht]
  rw [beginEntry, htarget, entrySpeed_setSeq hq, setPhase_setSeq,
    issueLift_far (q := { q with phase := .entry }) hx hf]
  rfl

theorem beginEntry_near {t x : Int} {l : Latched} (hq : q.load = (s.seq h).load) (ht : q.pImm = some t)
    (hx : q.lift = some x) (hl : s.latched h = some l) (hn : |t - x| ≤ 5) :
    beginEntry h (setSeq h q s) =
      sendSkimAtLead h (setSeq h { q with phase := .immerse, motion := none, countdown := some l.tImm } s) := by
  have htarget : ((setSeq h q s).seq h).pImm = some t := by rw [seq_setSeq, ht]
  rw [beginEntry, htarget, entrySpeed_setSeq hq, setPhase_setSeq,
    issueLift_near (q := { q with phase := .entry }) hx hn]
  change enterImmerse h (setSeq h { q with phase := .entry, motion := none } s) = _
  rw [enterImmerse_setSeq (q := { q with phase := .entry, motion := none }) hq hl]

/-! ## Withdrawal, drain and weigh-out (R17 to R20) -/

theorem withdrawSpeed_setSeq (hq : q.load = (s.seq h).load) :
    (setSeq h q s).withdrawSpeed h = s.withdrawSpeed h := by
  rw [State.withdrawSpeed, latched_setSeq hq, State.withdrawSpeed, State.raiseSpeed, State.raiseSpeed]
  cases h <;> rfl

theorem enterWeighOut_setSeq :
    enterWeighOut h (setSeq h q s) =
      startWeigh h .weighOut (setSeq h { q with phase := .weighOut, motion := none, vibratorOn := false } s) := by
  rw [enterWeighOut, modSeq_setSeq]

/-- With time left the drain goes on, the vibrator on while its countdown is above 0 (R19). -/
theorem runDrain_on {v d : Nat} (hv : q.vibrate.getD 0 = v) (hd : q.drain.getD 0 = d) (hpos : 0 < v ∨ 0 < d) :
    runDrain h (setSeq h q s) = setSeq h { q with motion := none, vibratorOn := decide (0 < v) } s := by
  have hne : ¬ (v = 0 ∧ d = 0) := by omega
  simp only [runDrain, seq_setSeq, hv, hd, if_neg hne, modSeq_setSeq]

theorem runDrain_ended (hv : q.vibrate.getD 0 = 0) (hd : q.drain.getD 0 = 0) :
    runDrain h (setSeq h q s) = enterWeighOut h (setSeq h q s) := by
  simp only [runDrain, seq_setSeq, hv, hd, and_self, if_true]

theorem enterDrain_setSeq {l : Latched} (hq : q.load = (s.seq h).load) (hl : s.latched h = some l) :
    enterDrain h (setSeq h q s) = runDrain h
      (setSeq h { q with phase := .drain, motion := none, vibrate := some l.vibrate, drain := some l.drain } s) := by
  rw [enterDrain, modSeq_setSeq, latched_setSeq hq, hl]
  rfl

theorem withdrawArrival_admitted {l : Latched} (hq : q.load = (s.seq h).load) (hl : s.latched h = some l) :
    withdrawArrival h (setSeq h q s) = runDrain h
      (setSeq h { q with phase := .drain, motion := none, vibrate := some l.vibrate, drain := some l.drain } s) := by
  rw [withdrawArrival, admitted_setSeq hq, hl]
  exact enterDrain_setSeq hq hl

theorem withdrawArrival_neverAdmitted (hq : q.load = (s.seq h).load) (hl : s.latched h = none) :
    withdrawArrival h (setSeq h q s) = beginTravelOut h (setSeq h q s) := by
  rw [withdrawArrival, admitted_setSeq hq, hl]
  rfl

theorem liftOut_far {c x : Int} (hq : q.load = (s.seq h).load) (hc : q.pClr = some c) (hx : q.lift = some x)
    (hf : 5 < |c - x|) :
    liftOut h (setSeq h q s) =
      moving h .lift c (s.withdrawSpeed h) x (setSeq h { q with phase := .withdraw } s) := by
  have htarget : ((setSeq h q s).seq h).pClr = some c := by rw [seq_setSeq, hc]
  rw [liftOut, htarget, withdrawSpeed_setSeq hq, setPhase_setSeq,
    issueLift_far (q := { q with phase := .withdraw }) hx hf]
  rfl

theorem liftOut_near {c x : Int} (hq : q.load = (s.seq h).load) (hc : q.pClr = some c) (hx : q.lift = some x)
    (hn : |c - x| ≤ 5) :
    liftOut h (setSeq h q s) = withdrawArrival h (setSeq h { q with phase := .withdraw, motion := none } s) := by
  have htarget : ((setSeq h q s).seq h).pClr = some c := by rw [seq_setSeq, hc]
  rw [liftOut, htarget, withdrawSpeed_setSeq hq, setPhase_setSeq,
    issueLift_near (q := { q with phase := .withdraw }) hx hn]
  rfl

/-! ## Holding (R22) -/

/-- A stop is asked for where a motion is in flight (R22). -/
def stopped (h : Hoist) (q : Sequencer) (s : State) : State :=
  if q.motion.isSome then sendCommand (driveOf h) .stop s else s

theorem Sequencer.heldFrom_eq (hp : q.phase ≠ .held) :
    q.heldFrom = if q.phase = .jogging then q.heldPhase else some q.phase := by
  unfold Sequencer.heldFrom
  split
  next hj => rw [if_pos hj]
  next hh => exact absurd hh hp
  next hj _ => rw [if_neg hj]

theorem enterHeld_setSeq (hp : q.phase ≠ .held) :
    enterHeld h (setSeq h q s) =
      setSeq h
        { q with phase := .held, heldPhase := if q.phase = .jogging then q.heldPhase else some q.phase,
                 motion := none, vibratorOn := false }
        (setEng h { s.eng h with weigh := none } (stopped h q s)) := by
  rw [← Sequencer.heldFrom_eq hp]
  simp only [enterHeld, stopped, seq_setSeq]
  split <;> cases h <;> rfl

/-! ## Raising (R29) -/

theorem liftRaise_far {c x : Int} (hc : q.pClr = some c) (hx : q.lift = some x) (hf : 5 < |c - x|) :
    liftRaise h (setSeq h q s) =
      moving h .lift c (s.setting 14) x (setSeq h { q with phase := .raising, heldPhase := none } s) := by
  have htarget : ((setSeq h q s).seq h).pClr = some c := by rw [seq_setSeq, hc]
  have hspeed : (setSeq h q s).raiseSpeed = s.setting 14 := by cases h <;> rfl
  rw [liftRaise, htarget, hspeed, modSeq_setSeq,
    issueLift_far (q := { q with phase := .raising, heldPhase := none }) hx hf]
  rfl

theorem raisingArrival_setSeq :
    raisingArrival h (setSeq h q s) =
      setSeq h { q with phase := .held, heldPhase := some .drain, motion := none } s := by
  rw [raisingArrival, modSeq_setSeq]

theorem liftRaise_near {c x : Int} (hc : q.pClr = some c) (hx : q.lift = some x) (hn : |c - x| ≤ 5) :
    liftRaise h (setSeq h q s) =
      setSeq h { q with phase := .held, heldPhase := some .drain, motion := none } s := by
  have htarget : ((setSeq h q s).seq h).pClr = some c := by rw [seq_setSeq, hc]
  rw [liftRaise, htarget, modSeq_setSeq,
    issueLift_near (q := { q with phase := .raising, heldPhase := none }) hx hn]
  change raisingArrival h _ = _
  rw [raisingArrival_setSeq]

end Motions

end Sys2Proof.Machine
end

section
/-! PROOFS. HOLD and the hold button; the issue of a motion. -/

namespace Sys2Proof.Machine

theorem hold_working {h : Hoist} {s : State} (hp : (s.seq h).phase ∈ Phase.dipCycle ++ [.jogging]) :
    hold h.byte s = taken (endEvent (enterHeld h s)) := by
  have hne : (s.seq h).phase ∉ [.idle, .raising, .held, .disabled, .recover] := by
    generalize (s.seq h).phase = p at hp
    revert hp; cases p <;> decide
  simp only [List.mem_cons, List.not_mem_nil, or_false, not_or] at hne
  obtain ⟨hi, hr, hh, hdis, hrec⟩ := hne
  simp [hold, onHoist_of hdis hrec]

/-- A press of the button of a hoist at work, or jogging, holds it and starts the timer (R28). -/
theorem pressButton_working {h : Hoist} {q : Sequencer} {s : State} (hp : q.phase ∈ Phase.dipCycle ++ [.jogging]) :
    pressButton h (setSeq h q s) =
      modSeq h (fun q => { q with holdTimer := some 0 }) (enterHeld h (setSeq h { q with pressed := true } s)) := by
  have hw : q.phase.inCycle = true ∨ q.phase = .jogging := by
    rw [Phase.inCycle_iff]
    simpa using hp
  simp [pressButton, modSeq, hw]

theorem pressButton_held {h : Hoist} {q : Sequencer} {s : State} (hp : q.phase = .held) :
    pressButton h (setSeq h q s) = setSeq h { q with pressed := true, holdTimer := some 0 } s := by
  simp [pressButton, modSeq, hp, Phase.inCycle]

/-- Elsewhere a press changes the level of the button alone (R28). -/
theorem pressButton_elsewhere {h : Hoist} {q : Sequencer} {s : State}
    (hp : q.phase ∈ [Phase.idle, .disabled, .recover, .raising]) :
    pressButton h (setSeq h q s) = setSeq h { q with pressed := true } s := by
  simp only [List.mem_cons, List.not_mem_nil, or_false] at hp
  rcases hp with hp | hp | hp | hp <;> simp [pressButton, modSeq, hp, Phase.inCycle]

theorem exec_holdButtonPress {h : Hoist} {s : State} (ha : s.active = true) :
    exec (.holdButtonPress h) s = .next (endEvent (pressButton h s)) := by
  change execHoldButtonPress h s = _
  rw [execHoldButtonPress, if_pos ha]

/-! ## The overdue limit (R5) -/

theorem ceilDiv_le_iff {a b n : Int} (hb : 0 < b) : ceilDiv a b ≤ n ↔ a ≤ b * n := by
  rw [ceilDiv, neg_le, Int.le_ediv_iff_mul_le hb]
  constructor <;> intro hle <;> nlinarith

theorem ceilDiv_nonneg {a b : Int} (ha : 0 ≤ a) (hb : 0 < b) : 0 ≤ ceilDiv a b := by
  have hneg : -a / b ≤ 0 := Int.ediv_nonpos_of_nonpos_of_neg (by omega) (by omega)
  unfold ceilDiv
  omega

theorem overdueLimit_eq {d speed : Int} (hd : 0 ≤ d) (hs : 0 < speed) :
    (overdueLimit d speed : Int) - 10 = ceilDiv (d * 3) (2 * speed) := by
  have := ceilDiv_nonneg (a := d * 3) (b := 2 * speed) (by omega) (by omega)
  unfold overdueLimit
  omega

end Sys2Proof.Machine

open Sys2Proof Sys2Proof.Machine

/-- Settles O28: both come to `enterHeld`, the press with the level and the timer of the button. -/
theorem holdAndPressStopTheHoist : Obligations.HoldAndPressStopTheHoist := by
  intro h s s₁ q hq hs₁
  have hs : setSeq h q s = s := by rw [hq, setSeq_seq]
  have hs₁ : s₁ = stopped h q s := hs₁
  subst hs₁
  refine ⟨fun hp => ?_, fun hp => ⟨fun hl => ?_, fun ha => ?_⟩, fun hl => ⟨fun hp => ?_, fun hp => ?_, fun hp => ?_⟩,
    fun hp ha => ?_⟩
  · have hne : q.phase ≠ .held := by intro hh; simp [hh, Phase.dipCycle] at hp
    refine ⟨fun hl => taken_of rfl hl ?_, fun ha => ?_⟩
    · have held := enterHeld_setSeq (h := h) (s := s) hne
      rw [hs] at held
      rw [hold_working (hq ▸ hp), held]
    · have press := pressButton_working (h := h) (s := s) hp
      rw [enterHeld_setSeq (q := { q with pressed := true }) hne, modSeq_setSeq, hs] at press
      rw [exec_holdButtonPress ha, press]
      rfl
  · exact taken_of rfl hl (by simp [hold, onHoist, ← hq, hp])
  · have press := pressButton_held (h := h) (s := s) hp
    rw [hs] at press
    rw [exec_holdButtonPress ha, press]
  · exact refused_of rfl hl (by rcases hp with hp | hp <;> simp [hold, onHoist, ← hq, hp])
  · exact refused_of rfl hl (onHoist_disabled (hq ▸ hp) _)
  · exact refused_of rfl hl (onHoist_recover (hq ▸ hp) _)
  · have press := pressButton_elsewhere (h := h) (s := s) hp
    rw [hs] at press
    rw [exec_holdButtonPress ha, press]

/-- Settles O29: a motion is issued or has arrived by its distance, and the limit is a ceiling. -/
theorem motionIsIssuedWithItsOverdueLimit : Obligations.MotionIsIssuedWithItsOverdueLimit := by
  refine ⟨fun h axis t v x s hp => ⟨fun hn => ?_, fun hf => ?_⟩,
    fun d speed hd hs => ⟨?_, ?_, fun n hn => ?_⟩, rfl, rfl⟩
  · have near := issueMotion_near (h := h) (s := s) hp hn v
    rwa [setSeq_seq] at near
  · have far := issueMotion_far (h := h) (s := s) hp hf v
    rwa [setSeq_seq] at far
  · exact Nat.le_add_left 10 _
  · rw [overdueLimit_eq hd hs]
    exact (ceilDiv_le_iff (by omega)).1 le_rfl
  · rw [overdueLimit_eq hd hs]
    exact (ceilDiv_le_iff (by omega)).2 hn

end

section
/-! PROOFS. PRESENT. -/

namespace Sys2Proof.Machine

theorem getD_map_iff {α : Type} (o : Option α) (f : α → Bool) :
    (o.map f).getD false = true ↔ ∃ a, o = some a ∧ f a = true := by
  cases o <;> simp

section Present
variable {h : Hoist} {id : Nat} {s : State} {r : LoadRec}

theorem present_range (hid : id = 0 ∨ 65535 < id) : present h.byte id s = refuse .range s := by
  simp [present, hid]

theorem present_notFound (h1 : 1 ≤ id) (h2 : id ≤ 65535) (hp : (s.seq h).phase = .idle)
    (hr : s.records.loads.find? (fun r => r.id == id) = none) : present h.byte id s = refuse .notFound s := by
  have hload : ¬ (id = 0 ∨ 65535 < id) := by omega
  simp [present, hload, hp, State.load?, hr]

/-- With a record at hand the last row of the checks of R7 decides. -/
theorem present_found (h1 : 1 ≤ id) (h2 : id ≤ 65535) (hp : (s.seq h).phase = .idle)
    (hr : s.records.loads.find? (fun r => r.id == id) = some r) :
    present h.byte id s = if presentable s h r then taken (endEvent (startDip h r s)) else refuse .state s := by
  have hload : ¬ (id = 0 ∨ 65535 < id) := by omega
  simp [present, hload, hp, State.load?, hr]

theorem presentable_iff :
    presentable s h r = true ↔
      r.state = .registered ∧
      (∃ o, s.records.orders.find? (fun o => o.number == r.order) = some o ∧ o.isOpen = true) ∧
      (∃ j, s.records.jigs.find? (fun j => j.number == r.jig) = some j ∧ j.carriedBy = none) ∧
      ∃ x, (s.seq h).lift = some x ∧ s.pClrOf r ≤ x := by
  simp only [presentable, Bool.and_eq_true, getD_map_iff, decide_eq_true_eq, and_assoc, Option.isNone_iff_eq_none,
    State.order?, State.jig?]
  cases (s.seq h).lift <;> simp

theorem present_state (h1 : 1 ≤ id) (h2 : id ≤ 65535) (hp : (s.seq h).phase = .idle)
    (hr : s.records.loads.find? (fun r => r.id == id) = some r) (hno : ¬ presentable s h r = true) :
    present h.byte id s = refuse .state s := by
  rw [present_found h1 h2 hp hr, if_neg hno]

/-- The start of a dip (R7): the records, the hoist's items, and the weigh-in with its first poll. -/
theorem startDip_eq (hid : r.id = id) :
    startDip h r s = pollFallsDue (scaleOf h)
      (setEng h
        { s.eng h with
          weigh := some { kind := .weighIn, size := (s.setting 25).toNat, band := s.setting 26,
                          timeout := (s.setting 27).toNat, elapsed := 0, passed := false, window := [],
                          best := none, completed := 0, bad := 0 } }
        (setSeq h
          { s.seq h with
            phase := .weighIn, load := some id, pImm := some (s.setting 9 + r.hang),
            pClr := some (s.setting 3 + s.setting 10 + r.hang), skim := .none, overdipRaised := false, causes := [] }
          { s with records := { s.records with
            loads := s.records.loads.map (fun l =>
              if l.id = id then { l with state := .inCycle, hoist := some h } else l)
            jigs := s.records.jigs.map (fun y =>
              if y.number = r.jig then { y with carriedBy := some id } else y) } })) := by
  subst hid
  cases h <;> rfl

end Present

end Sys2Proof.Machine

open Sys2Proof Sys2Proof.Machine

/-- Settles O27: `presentable` says which of the two outcomes PRESENT has. -/
theorem presentStartsTheDip : Obligations.PresentStartsTheDip := by
  refine ⟨fun h id s r o j x hl h1 h2 hp hr ho hj hx => ⟨fun hbad => ?_, fun hs hopen hfree hclear => ?_⟩,
    fun h id s hl => ⟨fun hid => refused_of rfl hl (present_range hid), fun h1 h2 hp => ⟨fun hno => ?_,
      fun r hr => ⟨fun hx => ?_, fun ho => ?_, fun hj => ?_⟩⟩⟩⟩
  · refine refused_of rfl hl (present_state h1 h2 hp hr fun hok => ?_)
    obtain ⟨hs, ⟨o', ho', hopen⟩, ⟨j', hj', hfree⟩, x', hx', hclear⟩ := presentable_iff.1 hok
    rw [ho] at ho'
    rw [hj] at hj'
    rw [hx] at hx'
    cases ho'
    cases hj'
    cases hx'
    rcases hbad with hbad | hbad | hbad | hbad
    · exact hbad hs
    · simp [hopen] at hbad
    · exact hbad hfree
    · exact absurd hclear (not_le.2 hbad)
  · have hid : r.id = id := by simpa using List.find?_some hr
    refine taken_of rfl hl ?_
    rw [present_found h1 h2 hp hr, if_pos (presentable_iff.2 ⟨hs, ⟨o, ho, hopen⟩, ⟨j, hj, hfree⟩, x, hx, hclear⟩),
      startDip_eq hid]
  · exact refused_of rfl hl (present_notFound h1 h2 hp (by simpa using hno))
  · refine refused_of rfl hl (present_state h1 h2 hp hr fun hok => ?_)
    obtain ⟨_, _, _, x, hx', _⟩ := presentable_iff.1 hok
    simp [hx] at hx'
  · refine refused_of rfl hl (present_state h1 h2 hp hr fun hok => ?_)
    obtain ⟨_, ⟨o, ho', _⟩, _⟩ := presentable_iff.1 hok
    exact ho o (List.mem_of_find?_eq_some ho') (by simpa using List.find?_some ho')
  · refine refused_of rfl hl (present_state h1 h2 hp hr fun hok => ?_)
    obtain ⟨_, _, ⟨j, hj', _⟩, _⟩ := presentable_iff.1 hok
    exact hj j (List.mem_of_find?_eq_some hj') (by simpa using List.find?_some hj')

end

section
/-! PROOFS. The dip cycle: claims, the weighs and the end of a weigh-out. -/

namespace Sys2Proof.Machine

/-! ## Weighs (R95, R106) -/

/-- A weigh begins with the settings as they stand, nothing sampled, and the first poll of its scale due (R95, R160). -/
theorem startWeigh_eq (h : Hoist) (k : WeighKind) (s : State) :
    startWeigh h k s = pollFallsDue (scaleOf h) (setEng h
      { s.eng h with
        weigh := some {
          kind := k, size := (s.setting 25).toNat, band := s.setting 26, timeout := s.weighTimeout k,
          elapsed := 0, passed := false, window := [], best := none, completed := 0, bad := 0 } } s) :=
  rfl

theorem stopWeigh_setSeq (h : Hoist) (q : Sequencer) (s : State) :
    stopWeigh h (setSeq h q s) = setSeq h q (setEng h { s.eng h with weigh := none } s) := by
  cases h <;> rfl

/-! ## Claims (R49 to R52) -/

/-- The claims of `o` are out of the queue. -/
def withoutClaim (o : Owner) (s : State) : State :=
  { s with arbiter := { s.arbiter with queue := s.arbiter.queue.filter (fun c => !decide (c.claimant = o)) } }

theorem SpanArbiter.heads_iff (a : SpanArbiter) (o : Owner) :
    a.heads o = true ↔ a.queue.head?.map Claim.claimant = some o := by
  unfold SpanArbiter.heads
  cases a.queue <;> simp

/-- A withdrawn claim leaves the queue, and where it stood at the head the claim behind it is tried (R50). -/
theorem withdrawClaim_eq (o : Owner) (s : State) :
    withdrawClaim o s =
      if s.arbiter.queue.head?.map Claim.claimant = some o then placeClaims (withoutClaim o s)
      else withoutClaim o s := by
  simp only [withdrawClaim, SpanArbiter.heads_iff]
  rfl

/-- The claim of hoist `h` for `n` zones has joined the tail of the queue. -/
def withClaim (h : Hoist) (n : Nat) (s : State) : State :=
  { s with arbiter := { s.arbiter with queue := s.arbiter.queue ++
    [{ claimant := .hoist h, need := .length n, joined := s.link.clock }] } }

/-- AWAIT_SPAN with the claim of the carried load's length, tried at once where the queue was empty (R9, R49, R52). -/
theorem enterAwaitSpan_setSeq {h : Hoist} {q : Sequencer} {s : State} {n : Nat}
    (hn : ((setSeq h q s).carried h).map LoadRec.zones = some n) :
    enterAwaitSpan h (setSeq h q s) =
      if s.arbiter.queue = [] then placeClaims (setSeq h { q with phase := .awaitSpan } (withClaim h n s))
      else setSeq h { q with phase := .awaitSpan } (withClaim h n s) := by
  simp only [enterAwaitSpan, hn, setPhase_setSeq, joinClaim, Option.getD_some, List.isEmpty_iff]
  cases h <;> rfl

/-! ## The end of a weigh-out (R20, R26, R130) -/

theorem seq_post (h : Hoist) (s : State) : (post h s).seq h = s.seq h :=
  seq_congr (by simp) (by simp) h

theorem seq_postedWithNotice (h : Hoist) (s : State) : (postedWithNotice h s).seq h = s.seq h := by
  rw [postedWithNotice, seq_raise, seq_post]

theorem settings_postedWithNotice (h : Hoist) (s : State) : (postedWithNotice h s).settings = s.settings := by
  simp [postedWithNotice]

theorem finishDip_eq (h : Hoist) (s : State) : finishDip h s = beginTravelOut h (postedWithNotice h s) := by
  simp only [finishDip, raiseFor, seq_post, postedWithNotice]

theorem stationPosition_postedWithNotice (h : Hoist) (s : State) :
    (postedWithNotice h s).stationPosition h = s.stationPosition h := by
  cases h <;> exact setting_congr (settings_postedWithNotice _ s) _

section FinishDip
variable {h : Hoist} {s : State} {x y pc : Int}

/-- The load posted, the hoist travels to its station (R20). -/
theorem finishDip_far (hx : (s.seq h).lift = some x) (hc : (s.seq h).pClr = some pc) (hle : pc ≤ x)
    (hy : (s.seq h).travel = some y) (hf : 5 < |s.stationPosition h - y|) :
    finishDip h s = postedAndAway h y s := by
  have hclear := Sequencer.clear_of_le hx hc hle
  rw [← seq_postedWithNotice] at hclear hy
  rw [← stationPosition_postedWithNotice] at hf
  rw [finishDip_eq, beginTravelOut_of_far hclear hy hf, stationPosition_postedWithNotice,
    setting_congr (settings_postedWithNotice h s)]
  rfl

/-- The load posted, a hoist at its station ends the dip at once (R20, R21). -/
theorem finishDip_near {id : Nat} (hx : (s.seq h).lift = some x) (hc : (s.seq h).pClr = some pc) (hle : pc ≤ x)
    (hy : (s.seq h).travel = some y) (hl : (s.seq h).load = some id) (hn : |s.stationPosition h - y| ≤ 5) :
    finishDip h s = dipEnded h id (postedWithNotice h s) := by
  have hclear := Sequencer.clear_of_le hx hc hle
  rw [← seq_postedWithNotice] at hclear hy hl
  rw [← stationPosition_postedWithNotice] at hn
  rw [finishDip_eq, beginTravelOut_of_near hclear hy hl hn]

end FinishDip

/-- A change of W_out and its flags, which a load already posted does not take (R20, R130). -/
theorem recordOut_setSeq {h : Hoist} {q : Sequencer} {id : Nat} (hl : q.load = some id) (f : LoadRec → LoadRec)
    (s : State) :
    recordOut h f (setSeq h q s) = setSeq h q (withLoad id (fun l => if l.postingTime.isSome then l else f l) s) := by
  rw [recordOut, modCarried_setSeq hl]

theorem withDepthTrials_eq (f : State → State) (s : State) : withDepthTrials f s = withTrials s (f s) := rfl

theorem withDepthTrials_of_bath {f : State → State} {s : State} (hb : (f s).bath = s.bath) :
    withDepthTrials f s = f s := by
  rw [withDepthTrials, hb, if_pos rfl]

end Sys2Proof.Machine
end

section
/-! PROOFS. CANCEL, ACCEPT_UNWEIGHED and FINISH_UNWEIGHED. -/

namespace Sys2Proof.Machine

section Requests
variable {h : Hoist} {q : Sequencer} {s : State} {id : Nat}

/-- CANCEL before the grant (R27): the weigh and the dip end, and the claim is withdrawn. -/
theorem cancel_beforeGrant (hq : q = s.seq h) (hp : q.phase = .weighIn ∨ q.phase = .awaitSpan) :
    cancel h.byte s = taken (endEvent (withdrawClaim (.hoist h) (endDip h (stopWeigh h s)))) := by
  subst hq
  rcases hp with hp | hp <;> simp [cancel, onHoist, hp]

/-- CANCEL after the grant (R27): the hoist travels out. -/
theorem cancel_afterGrant (hq : q = s.seq h) (hp : q.phase = .travelIn ∨ q.phase = .awaitAdmit) :
    cancel h.byte s = taken (endEvent (beginTravelOut h s)) := by
  subst hq
  rcases hp with hp | hp <;> simp [cancel, onHoist, hp]

theorem acceptUnweighed_weighIn (hp : (s.seq h).phase = .weighIn) :
    acceptUnweighed h.byte s = taken (endEvent (enterAwaitSpan h
      (modCarried h (fun r => { r with flags := { r.flags with unweighedIn := true } }) (stopWeigh h s)))) := by
  simp [acceptUnweighed, onHoist, hp]

/-- FINISH_UNWEIGHED of a HELD hoist goes by `finishable` (R26). -/
theorem finishUnweighed_held (hp : (s.seq h).phase = .held) :
    finishUnweighed h.byte s =
      if finishable (s.seq h) then taken (endEvent (withDepthTrials (finishWithout h) s)) else refuse .state s := by
  simp [finishUnweighed, onHoist, hp]

theorem finishable_iff :
    finishable q = true ↔
      q.phase = .held ∧ (q.heldPhase = some .drain ∨ q.heldPhase = some .weighOut) ∧ q.clear = true := by
  simp [finishable, and_assoc]

end Requests

/-- W_out stays absent, with UNWEIGHED_OUT set (R26), but in the record of a load already posted. -/
def unweighedOutRecord (l : LoadRec) : LoadRec :=
  if l.postingTime.isSome then l else { l with wOut := none, flags := { l.flags with unweighedOut := true } }

section Finish
variable {h : Hoist} {q : Sequencer} {s : State} {id : Nat}

/-- A dip of an admitted load finished without its weigh-out is posted (R26). -/
theorem finishWithout_admitted (hq : q.load = (s.seq h).load) (hl : q.load = some id)
    (ha : (s.latched h).isSome = true) :
    finishWithout h (setSeq h q s) = finishDip h
      (setSeq h { q with heldPhase := none, holdTimer := none, vibrate := none, drain := none }
        (withLoad id unweighedOutRecord s)) := by
  rw [finishWithout, modSeq_setSeq]
  change (if _ then _ else _) = _
  rw [if_pos ((admitted_setSeq
      (q := { q with heldPhase := none, holdTimer := none, vibrate := none, drain := none }) hq).trans ha),
    weighOutNone,
    recordOut_setSeq (q := { q with heldPhase := none, holdTimer := none, vibrate := none, drain := none }) hl]
  rfl

/-- One of a load never admitted is not posted (R21, R26). -/
theorem finishWithout_neverAdmitted (hq : q.load = (s.seq h).load) (hl : q.load = some id)
    (ha : s.latched h = none) :
    finishWithout h (setSeq h q s) = beginTravelOut h
      (setSeq h { q with heldPhase := none, holdTimer := none, vibrate := none, drain := none }
        (withLoad id unweighedOutRecord s)) := by
  have hadm := admitted_setSeq (h := h) (s := s)
    (q := { q with heldPhase := none, holdTimer := none, vibrate := none, drain := none }) hq
  rw [ha] at hadm
  rw [finishWithout, modSeq_setSeq]
  change (if _ then _ else _) = _
  rw [if_neg (Bool.eq_false_iff.1 hadm),
    recordOut_setSeq (q := { q with heldPhase := none, holdTimer := none, vibrate := none, drain := none }) hl]
  rfl

end Finish

end Sys2Proof.Machine

open Sys2Proof Sys2Proof.Machine

/-- Settles O31: the end of the dip before the grant, a travel out after it, and the claim of ACCEPT_UNWEIGHED. -/
theorem cancelAndAcceptUnweighedEndTheWeighIn : Obligations.CancelAndAcceptUnweighedEndTheWeighIn := by
  refine ⟨fun h id s s' r q hq hl hload hr hs' => ⟨fun hp => ?_, fun x y pc hp hx hy hpc hle hf => taken_of rfl hl ?_⟩,
    fun h id s s' r hl hp hload hr hs' => ?_⟩
  · have ended : withdrawClaim (.hoist h) (endDip h (stopWeigh h s)) =
        if s.arbiter.queue.head?.map Claim.claimant = some (.hoist h) then placeClaims s' else s' := by
      have hs : stopWeigh h s = setSeq h q (setEng h { s.eng h with weigh := none } s) := by
        rw [← stopWeigh_setSeq, hq, setSeq_seq]
      rw [hs, endDip_setSeq hload, withdrawClaim_eq, hs']
      cases h <;> rfl
    constructor
    · intro hhead
      refine taken_of rfl hl ?_
      rw [cancel_beforeGrant hq hp, ended, if_neg hhead]
    · intro hhead
      refine taken_of rfl hl ?_
      rw [cancel_beforeGrant hq hp, ended, if_pos hhead]
  · subst hq
    rw [cancel_afterGrant rfl hp, beginTravelOut_of_far (Sequencer.clear_of_le hx hpc hle) hy hf]
  · have joined : enterAwaitSpan h (modCarried h (fun r => { r with flags := { r.flags with unweighedIn := true } })
          (stopWeigh h s)) = if s.arbiter.queue = [] then placeClaims s' else s' := by
      have hs : stopWeigh h s = setSeq h (s.seq h) (setEng h { s.eng h with weigh := none } s) := by
        rw [← stopWeigh_setSeq, setSeq_seq]
      have hzones : ((setSeq h (s.seq h) (withLoad id
          (fun l => { l with flags := { l.flags with unweighedIn := true } }) (setEng h { s.eng h with weigh := none } s))).carried h).map LoadRec.zones = some r.zones := by
        rw [carried_setSeq (by rw [seq_withLoad, seq_setEng]), carried_eq (by rw [seq_withLoad, seq_setEng, hload])]
        exact zones_withLoad (fun _ => rfl) (fun _ => rfl) (by simpa using hr)
      rw [hs, modCarried_setSeq hload, enterAwaitSpan_setSeq hzones, hs']
      cases h <;> rfl
    constructor
    · intro hqueue
      refine taken_of rfl hl ?_
      rw [acceptUnweighed_weighIn hp, joined, if_neg hqueue]
    · intro hqueue
      refine taken_of rfl hl ?_
      rw [acceptUnweighed_weighIn hp, joined, if_pos hqueue]

/-- Settles O32: `finishable` decides; then the posting, or the way back of a load never admitted. -/
theorem finishUnweighedPostsAndTravelsOut : Obligations.FinishUnweighedPostsAndTravelsOut := by
  intro h s q hq hl hp
  have hs : setSeq h q s = s := by rw [hq, setSeq_seq]
  refine ⟨fun hbad => refused_of rfl hl ?_, fun id u r x y pc hheld hx hpc hle hy hload hr hu => ?_⟩
  · rw [finishUnweighed_held (hq ▸ hp), if_neg]
    rw [← hq, finishable_iff]
    rintro ⟨-, hheld, hclear⟩
    rcases hbad with ⟨hd, hw⟩ | hx | ⟨x, pc, hx, hpc, hlt⟩
    · exact hheld.elim hd hw
    · simp [Sequencer.clear, hx] at hclear
    · simp [Sequencer.not_clear_of_lt hx hpc hlt] at hclear
  · have hclear := Sequencer.clear_of_le hx hpc hle
    have hlat : s.latched h = r.latched := latched_eq (hq ▸ hload) hr
    have taken : finishUnweighed h.byte s = taken (endEvent (withDepthTrials (finishWithout h) s)) := by
      rw [finishUnweighed_held (hq ▸ hp), if_pos (hq ▸ finishable_iff.2 ⟨hp, hheld, hclear⟩)]
    have hu : u = setSeq h { q with heldPhase := none, holdTimer := none, vibrate := none, drain := none }
        (withLoad id unweighedOutRecord s) := hu
    have hseq : u.seq h = { q with heldPhase := none, holdTimer := none, vibrate := none, drain := none } := by
      rw [hu, seq_setSeq]
    have hux : (u.seq h).lift = some x := by rw [hseq]; exact hx
    have hupc : (u.seq h).pClr = some pc := by rw [hseq]; exact hpc
    have huy : (u.seq h).travel = some y := by rw [hseq]; exact hy
    have huload : (u.seq h).load = some id := by rw [hseq]; exact hload
    have huclear := Sequencer.clear_of_le hux hupc hle
    have hstation : s.stationPosition h = u.stationPosition h := by rw [hu]; cases h <;> rfl
    have hspeed : s.setting 13 = u.setting 13 := by rw [hu]; cases h <;> rfl
    rw [hstation, hspeed]
    constructor
    · intro hr
      have hfin : finishWithout h s = finishDip h u := by
        rw [← hs, finishWithout_admitted (by rw [hq]) hload (by rw [hlat]; exact Option.isSome_iff_ne_none.2 hr), hu]
      rw [withDepthTrials_eq, hfin] at taken
      exact ⟨fun hf => taken_of rfl hl (by rw [taken, finishDip_far hux hupc hle huy hf]),
        fun hn => taken_of rfl hl (by rw [taken, finishDip_near hux hupc hle huy huload hn])⟩
    · intro hr
      have hfin : finishWithout h s = beginTravelOut h u := by
        rw [← hs, finishWithout_neverAdmitted (by rw [hq]) hload (by rw [hlat, hr]), hu]
      have hbath : (finishWithout h s).bath = s.bath := by
        rw [hfin, hu]
        cases h <;> simp [withLoad]
      rw [withDepthTrials_of_bath hbath, hfin] at taken
      refine ⟨fun hf => taken_of rfl hl ?_, fun hn => taken_of rfl hl ?_⟩
      · rw [taken, beginTravelOut_of_far huclear huy hf]
      · rw [taken, beginTravelOut_of_near huclear huy huload hn]

end

section
/-! PROOFS. The overdip and recovery limits, the end of the drain, and the weigh timeouts. -/

namespace Sys2Proof.Machine

section Limits
variable {h : Hoist} {q : Sequencer} {s : State} {id : Nat}

/-- The consequence of an overdip above its limit (R17). -/
theorem exceedOverdip_eq (hl : (s.seq h).load = some id) :
    exceedOverdip h s = setSeq h { s.seq h with overdipRaised := true }
      (raise .overdip (some h) (some id) (some ((s.overdipLimit : Nat) : Int)) none
        (withLoad id (fun l => { l with flags := { l.flags with nonconforming := true } }) s)) := by
  simp only [exceedOverdip, modCarried_eq hl, raiseFor, seq_withLoad, hl, modSeq, seq_raise]
  rfl

/-- The outcome of a recovery in the bath, or with no position (R32). -/
theorem recoverInBath_setSeq (hl : q.load = some id) :
    recoverInBath h (setSeq h q s) = raise .recoveredInBath (some h) (some id) q.lift none
      (setSeq h { q with phase := .held, heldPhase := some .withdraw, recoverWait := none }
        (withLoad id (fun l => { l with flags := { l.flags with interrupted := true, nonconforming := true } })
          s)) := by
  simp only [recoverInBath, modCarried_setSeq hl, recoverHeld, modSeq_setSeq, raiseFor, seq_setSeq, hl]

end Limits

/-! ## Weights (R102, R103, R105) -/

theorem clampWeight_fst (v : Int) : (clampWeight v).1 = min v.toNat 200000 := by
  unfold clampWeight
  split
  next => simp; omega
  next => split <;> simp <;> omega

/-- The range flag of a clamped weight, set beside what stands (R103). -/
theorem withRange_clampWeight (f : LoadFlags) (v : Int) :
    f.withRange (clampWeight v).2 =
      { f with underRange := f.underRange || decide (v < 0), overRange := f.overRange || decide (200000 < v) } := by
  rcases lt_or_ge v 0 with hneg | hpos
  · have hle : ¬ 200000 < v := by omega
    simp [clampWeight, LoadFlags.withRange, hneg, hle]
  · rcases lt_or_ge 200000 v with hover | hle
    · simp [clampWeight, LoadFlags.withRange, hover, not_lt.2 hpos]
    · simp [clampWeight, LoadFlags.withRange, not_lt.2 hle, not_lt.2 hpos]

/-- A weigh-out timeout with a best window takes its weight, unsettled, and the load is posted (R105). -/
theorem weighOutPasses_best {h : Hoist} {s : State} {w : Weigh} {b : BestWindow} {id : Nat} {v : Int}
    (hw : (s.eng h).weigh = some w) (hb : w.best = some b) (hp : (s.seq h).phase = .weighOut)
    (hl : (s.seq h).load = some id) (hv : v = ((b.mean - s.scaleZero h) * s.spanFactor h + 32768) / 65536) :
    weighOutPasses h s = finishDip h
      (withLoad id (fun l => if l.postingTime.isSome then l
        else { l with
          wOut := some (min v.toNat 200000)
          flags := { l.flags with unsettled := true, underRange := l.flags.underRange || decide (v < 0),
                                  overRange := l.flags.overRange || decide (200000 < v) } })
        (setEng h { s.eng h with weigh := none } s)) := by
  have hweight : timeoutWeight h s = some (clampWeight v) := by
    simp [timeoutWeight, hw, hb, State.convert, rawWeight, floorDiv, hv]
  have hseq : (stopWeigh h s).seq h = s.seq h := seq_setEng h h _ s
  simp only [weighOutPasses, hweight, weighOutWith, hseq, hp, if_true]
  rw [recordOut, modCarried_eq (hseq ▸ hl)]
  simp only [clampWeight_fst, withRange_clampWeight, Bool.or_true]
  rfl

/-- Without a best window it takes no weight, and the load is posted (R105). -/
theorem weighOutPasses_none {h : Hoist} {s : State} {w : Weigh} {id : Nat} (hw : (s.eng h).weigh = some w)
    (hb : w.best = none) (hp : (s.seq h).phase = .weighOut) (hl : (s.seq h).load = some id) :
    weighOutPasses h s = finishDip h
      (withLoad id (fun l => if l.postingTime.isSome then l
        else { l with wOut := none, flags := { l.flags with unweighedOut := true } })
        (setEng h { s.eng h with weigh := none } s)) := by
  have hweight : timeoutWeight h s = none := by simp [timeoutWeight, hw, hb]
  have hseq : (stopWeigh h s).seq h = s.seq h := seq_setEng h h _ s
  simp only [weighOutPasses, hweight, weighOutNone, hp, if_true]
  rw [recordOut, modCarried_eq (hseq ▸ hl)]
  rfl

theorem weighInPasses_eq {h : Hoist} {s : State} {w : Weigh} {id : Nat} (hw : (s.eng h).weigh = some w)
    (hl : (s.seq h).load = some id) :
    weighInPasses h s = raise .weighUnstable (some h) (some id) (some (w.timeout : Int)) none
      (setEng h { s.eng h with weigh := some { w with passed := true } } s) := by
  simp only [weighInPasses, hw, markTimeout, raiseFor, seq_setEng, hl, Option.map_some]

/-- A weigh timeout that is not due, or has passed before, changes nothing (R104, R105). -/
theorem not_weighTimeoutDue {h : Hoist} {s : State} {w : Weigh} (hw : (s.eng h).weigh = some w)
    (hno : w.elapsed < w.timeout ∨ w.passed = true) (k : WeighKind) : ¬ weighTimeoutDue h k s = true := by
  rw [weighTimeoutDue_iff]
  rintro ⟨v, hv, -, hpassed, hle⟩
  rw [hw] at hv
  cases hv
  rcases hno with hno | hno
  · omega
  · simp [hpassed] at hno

end Sys2Proof.Machine

open Sys2Proof Sys2Proof.Machine

/-- Settles O37: `compareOverdip` and `recoverInBath` behind their limits. -/
theorem overdipAndRecoveryLimits : Obligations.OverdipAndRecoveryLimits := by
  refine ⟨fun h n id s q hq ha hn hload => ⟨fun hno => ?_, fun hraised hlt => ?_⟩,
    fun h n id s q hq ha hp hn hload => ⟨fun hlt => ?_, fun hle => ?_⟩⟩
  · rw [exec_eventOf rfl ha, compareOverdip, if_neg]
    rw [overdipDue_iff, ← hq]
    rintro ⟨hraised, m, hm, hlt⟩
    rw [hn] at hm
    cases hm
    rcases hno with hno | hno
    · simp [hraised] at hno
    · omega
  · rw [exec_eventOf rfl ha, compareOverdip, if_pos (overdipDue_iff h s |>.2 (hq ▸ ⟨hraised, n, hn, hlt⟩)),
      exceedOverdip_eq (hq ▸ hload), ← hq]
  · rw [exec_eventOf rfl ha]
    rw [if_neg]
    rw [recoveryDue_iff, ← hq]
    rintro ⟨-, m, hm, hle⟩
    rw [hn] at hm
    cases hm
    omega
  · have recovered := recoverInBath_setSeq (h := h) (s := s) hload
    rw [show setSeq h q s = s by rw [hq, setSeq_seq]] at recovered
    rw [exec_eventOf rfl ha, if_pos (recoveryDue_iff h s |>.2 (hq ▸ ⟨hp, n, hn, hle⟩)), recovered]

/-- Settles O38: `runDrain` with the countdowns that stand. -/
theorem drainEndsInAWeighOut : Obligations.DrainEndsInAWeighOut := by
  intro h s s' q hq ha hp hm hs'
  have hs : setSeq h q s = s := by rw [hq, setSeq_seq]
  have weighOut : endEvent (enterWeighOut h s) = s' := by
    have hitems : { q with phase := .weighOut, motion := none, vibratorOn := false } =
        { q with phase := .weighOut, vibratorOn := false } := by rw [hm]
    have enters := enterWeighOut_setSeq (h := h) (q := q) (s := s)
    rw [hs, hitems, startWeigh_eq] at enters
    rw [enters, hs']
    cases h <;> rfl
  have vibrating : ∀ {n}, q.vibratorOn = true → q.vibrate = some n → (vibrateDue h s = true ↔ n = 0) := by
    intro n hon hn
    simp [vibrateDue_iff, ← hq, hp, hm, hon, hn]
  refine ⟨fun n hon hv hd => ?_, fun hon hv hd => ?_, fun hoff hv hd => ?_, fun n hon hv => ?_, fun n hd => ?_⟩
  · have goes := runDrain_on (h := h) (q := q) (s := s) (v := 0) (d := n + 1) (by rw [hv]; rfl) (by rw [hd]; rfl)
      (by omega)
    rw [hs] at goes
    rw [exec_eventOf rfl ha, if_pos ((vibrating hon hv).2 rfl), goes]
    simp [hm]
  · have ends := runDrain_ended (h := h) (q := q) (s := s) (by rw [hv]; rfl) (by rw [hd]; rfl)
    rw [hs] at ends
    rw [exec_eventOf rfl ha, if_pos ((vibrating hon hv).2 rfl), ends, weighOut]
  · have hdue : drainDue h s = true := by simp [drainDue_iff, ← hq, hp, hm, hoff, hv, hd]
    rw [exec_eventOf rfl ha, if_pos hdue, weighOut]
  · rw [exec_eventOf rfl ha, if_neg (mt (vibrating hon hv).1 (by omega))]
  · have hno : ¬ drainDue h s = true := by simp [drainDue_iff, ← hq, hd]
    rw [exec_eventOf rfl ha, if_neg hno]

/-- Settles O39: the two timeouts by kind, and what a weigh begins with. -/
theorem weighTimeoutsByKind : Obligations.WeighTimeoutsByKind := by
  refine ⟨fun h w id s ha hw hload => ⟨fun hno => ⟨?_, ?_⟩, fun hk hpassed hle => ?_,
    fun r x y pc hk hpassed hle hp hr hpost hx hpc hclear hy hf => ?_⟩, fun h k s => ?_⟩
  · rw [exec_eventOf rfl ha, if_neg (not_weighTimeoutDue hw hno _)]
  · rw [exec_eventOf rfl ha, if_neg (not_weighTimeoutDue hw hno _)]
  · rw [exec_eventOf rfl ha, if_pos (weighTimeoutDue_iff h _ s |>.2 ⟨w, hw, hk, hpassed, hle⟩),
      weighInPasses_eq hw hload]
  · have hexec : exec (.weighOutTimeout h) s = .next (endEvent (withTrials s (weighOutPasses h s))) := by
      rw [exec_eventOf rfl ha, if_pos (weighTimeoutDue_iff h _ s |>.2 ⟨w, hw, hk, hpassed, hle⟩), withDepthTrials_eq]
    have away (f : LoadRec → LoadRec) :
        finishDip h (withLoad id f (setEng h { s.eng h with weigh := none } s)) =
          postedAndAway h y (withLoad id f (setEng h { s.eng h with weigh := none } s)) := by
      have hseq : (withLoad id f (setEng h { s.eng h with weigh := none } s)).seq h = s.seq h := by
        rw [seq_withLoad, seq_setEng]
      have hstation : (withLoad id f (setEng h { s.eng h with weigh := none } s)).stationPosition h =
          s.stationPosition h := by cases h <;> rfl
      exact finishDip_far (hseq ▸ hx) (hseq ▸ hpc) hclear (hseq ▸ hy) (hstation ▸ hf)
    refine ⟨fun hb => ?_, fun b v hb hv => ?_⟩
    · rw [hexec, weighOutPasses_none hw hb hp hload, away]
    · rw [hexec, weighOutPasses_best hw hb hp hload hv, away]
  · rw [startWeigh_eq]
    cases k <;> rfl

end

section
/-! PROOFS. The dip cycle: skim requests, the skim wait, and the overdip count. -/

namespace Sys2Proof.Machine

/-! ## The skimmer's queue (R64, R65, R68) -/

/-- A request stands behind those due no later and before the first due later (R64). -/
theorem insertRequest_split (r : SkimRequest) (l : List SkimRequest) :
    ∃ before after, l = before ++ after ∧ (∀ x ∈ before, x.due ≤ r.due) ∧ (∀ x ∈ after.head?, r.due < x.due) ∧
      insertRequest r l = before ++ r :: after := by
  induction l with
  | nil => exact ⟨[], [], rfl, by simp, by simp, rfl⟩
  | cons x xs ih =>
    by_cases hlt : r.due < x.due
    · exact ⟨[], x :: xs, rfl, by simp, by simpa using hlt, by simp [insertRequest, hlt]⟩
    · obtain ⟨before, after, hl, hbefore, hafter, hins⟩ := ih
      refine ⟨x :: before, after, by rw [hl]; rfl, ?_, hafter, by simp [insertRequest, hlt, hins]⟩
      intro y hy
      rcases List.mem_cons.1 hy with rfl | hy
      · omega
      · exact hbefore y hy

/-- A skimmer that is not IDLE starts no sweep (R65). -/
theorem startSweep_of_ne_idle {s : State} (hm : s.skimmer.mode ≠ .idle) : startSweep s = s := by
  unfold startSweep
  split
  next _ _ hi _ => exact absurd hi hm
  next => rfl

theorem seq_startSweep (h : Hoist) (s : State) : (startSweep s).seq h = s.seq h :=
  seq_congr (by simp) (by simp) h

theorem seq_withdrawSkim (h h' : Hoist) (s : State) : (withdrawSkim h s).seq h' = s.seq h' :=
  seq_congr (by simp) (by simp) h'

/-- The sweep in progress over hoist `h` has not yet been aborted (R69). -/
theorem withdrawSkim_aborts {h : Hoist} {s : State} {w : Sweep} (hw : s.skimmer.sweep = some w)
    (hh : w.hoist = some h) (ha : w.abort = false) :
    withdrawSkim h s = sendCommand .skimmer .abort
      { s with skimmer := { s.skimmer with sweep := some { w with abort := true } } } := by
  simp [withdrawSkim, hw, hh, ha]

/-- Otherwise the hoist's requests leave the queue (R68). -/
theorem withdrawSkim_leaves {h : Hoist} {s : State}
    (hw : ∀ w, s.skimmer.sweep = some w → w.hoist ≠ some h ∨ w.abort = true) :
    withdrawSkim h s =
      { s with skimmer := { s.skimmer with queue := s.skimmer.queue.filter (fun r => !decide (r.hoist = h)) } } := by
  unfold withdrawSkim
  split
  next w hs =>
    have hno : ¬ (w.hoist = some h ∧ w.abort = false) := by
      rcases hw w hs with hne | ha
      · exact fun hc => hne hc.1
      · simp [ha]
    rw [if_neg hno]
  next => rfl

/-! ## A missed skim (R14) -/

section Skim
variable {h : Hoist} {q : Sequencer} {s : State} {id : Nat}

theorem seq_markMissed (h : Hoist) (s : State) : (markMissed h s).seq h = { s.seq h with skim := .missed } := by
  simp only [markMissed]
  split <;> simp [raiseFor, seq_modCarried, modSeq]

/-- The skim state that a miss replaces does not matter to it. -/
theorem markMissed_setSeq_skim (k : SkimState) (hq : q = s.seq h) :
    markMissed h (setSeq h { q with skim := k } s) = markMissed h s := by
  have hc : (setSeq h { q with skim := k } s).carried h = s.carried h :=
    carried_setSeq (q := { q with skim := k }) (by rw [hq])
  simp only [markMissed, hc, modSeq_setSeq, seq_setSeq]
  rw [hq]
  rfl

/-- A miss: the skim state and the flag (R14). -/
def missedSkim (h : Hoist) (id : Nat) (s : State) : State :=
  withLoad id (fun l => { l with flags := { l.flags with skimMissed := true } })
    (setSeq h { s.seq h with skim := .missed } s)

/-- One SKIM_MISSED is raised where the flag was clear (R14). -/
theorem markMissed_eq {r : LoadRec} (hl : (s.seq h).load = some id)
    (hr : s.records.loads.find? (fun r => r.id == id) = some r) :
    markMissed h s = if r.flags.skimMissed then missedSkim h id s
      else raise .skimMissed (some h) (some id) (some ((((s.seq h).overdip).getD 0 : Nat) : Int)) none
        (missedSkim h id s) := by
  have hload : ((setSeq h { s.seq h with skim := .missed } s).seq h).load = some id := by rw [seq_setSeq]; exact hl
  have hflag : ((s.carried h).map (fun r => r.flags.skimMissed)).getD false = r.flags.skimMissed := by
    rw [carried_eq hl, hr]; rfl
  simp only [markMissed, hflag, modSeq, modCarried_eq hload, raiseFor, seq_withLoad, hload]
  rfl

/-! ## Requests (R14, R15, R64, R72) -/

/-- With the skimmer out of service a request is answered as missed (R72). -/
theorem requestSkim_outOfService (due : Nat) (hm : s.skimmer.mode = .outOfService) :
    requestSkim h due (setSeq h q s) = markMissed h (setSeq h { q with skim := .waiting } s) := by
  simp [requestSkim, modSeq_setSeq, hm]

/-- Hoist `h`, waiting for a skim, with these requests in the skimmer's queue. -/
def skimQueued (h : Hoist) (q : Sequencer) (queue : List SkimRequest) (s : State) : State :=
  setSeq h { q with skim := .waiting } { s with skimmer := { s.skimmer with queue := queue } }

/-- Else it joins by its due time, and an idle skimmer sweeps the head (R64, R65). -/
theorem requestSkim_joins {p : Span} (due : Nat) (hm : s.skimmer.mode ≠ .outOfService)
    (hp : s.arbiter.spanOf (.hoist h) = some p) :
    requestSkim h due (setSeq h q s) = startSweep (skimQueued h q
      (insertRequest { hoist := h, first := p.first, last := p.last, due := due } s.skimmer.queue) s) := by
  have hspan : (setSeq h { q with skim := .waiting } s).arbiter.spanOf (.hoist h) = some p := by simpa using hp
  simp only [requestSkim, modSeq_setSeq, hspan]
  split
  next hmode => exact absurd (by simpa using hmode) hm
  next => cases h <;> rfl

end Skim

end Sys2Proof.Machine
end

section
/-! PROOFS. The skim request of the lead, and the end of the immersion. -/

namespace Sys2Proof.Machine

section Lead
variable {h : Hoist} {q : Sequencer} {s : State} {n : Nat}

theorem sendSkimAtLead_due (hq : q = s.seq h) (hc : q.countdown = some n) (hk : q.skim = .none) (hn : n ≤ s.skimLead)
    (him : q.immersed) : sendSkimAtLead h s = requestSkim h ((s.link.clock + n) % 4294967296) s := by
  rw [sendSkimAtLead, if_pos ((skimLeadDue_iff h s).2 (hq ▸ ⟨hk, him, n, hc, hn⟩)), ← hq, hc]
  rfl

/-- The lead brings nothing where the skim has been asked for, or the countdown stands above it (R14). -/
theorem sendSkimAtLead_not_due (hq : q = s.seq h)
    (hno : q.skim ≠ .none ∨ ∀ n, q.countdown = some n → s.skimLead < n) : sendSkimAtLead h s = s := by
  rw [sendSkimAtLead, if_neg]
  rw [skimLeadDue_iff, ← hq]
  rintro ⟨hk, -, n, hc, hn⟩
  rcases hno with hno | hno
  · exact hno hk
  · exact absurd (hno n hc) (not_lt.2 hn)

/-- With the skimmer out of service the lead brings a miss (R72). -/
theorem sendSkimAtLead_outOfService (hq : q = s.seq h) (hc : q.countdown = some n) (hk : q.skim = .none)
    (hn : n ≤ s.skimLead) (him : q.immersed) (hm : s.skimmer.mode = .outOfService) :
    sendSkimAtLead h s = markMissed h s := by
  have request := requestSkim_outOfService (h := h) (q := q) ((s.link.clock + n) % 4294967296) hm
  rw [markMissed_setSeq_skim _ hq] at request
  rw [sendSkimAtLead_due hq hc hk hn him, ← request, hq, setSeq_seq]

/-- Else it brings a request at its place by due time, whose head an idle skimmer sweeps (R64, R65). -/
theorem sendSkimAtLead_joins {p : Span} (hq : q = s.seq h) (hc : q.countdown = some n) (hk : q.skim = .none)
    (hn : n ≤ s.skimLead) (him : q.immersed) (hm : s.skimmer.mode ≠ .outOfService)
    (hp : s.arbiter.spanOf (.hoist h) = some p) :
    ∃ before after, s.skimmer.queue = before ++ after ∧
      (∀ x ∈ before, x.due ≤ (s.link.clock + n) % 4294967296) ∧
      (∀ x ∈ after.head?, (s.link.clock + n) % 4294967296 < x.due) ∧
      sendSkimAtLead h s = startSweep (skimQueued h q (before ++
        { hoist := h, first := p.first, last := p.last, due := (s.link.clock + n) % 4294967296 } :: after) s) := by
  obtain ⟨before, after, hqueue, hbefore, hafter, hins⟩ := insertRequest_split
    { hoist := h, first := p.first, last := p.last, due := (s.link.clock + n) % 4294967296 } s.skimmer.queue
  refine ⟨before, after, hqueue, hbefore, hafter, ?_⟩
  have request := requestSkim_joins (h := h) (q := q) ((s.link.clock + n) % 4294967296) hm hp
  rw [hins, hq, setSeq_seq, ← hq] at request
  rw [sendSkimAtLead_due hq hc hk hn him, request]

theorem mode_skimQueued (queue : List SkimRequest) : (skimQueued h q queue s).skimmer.mode = s.skimmer.mode := by
  cases h <;> rfl

end Lead

end Sys2Proof.Machine

open Sys2Proof Sys2Proof.Machine

/-- Settles O34: what the lead brings, by the skim state, the countdown and the skimmer's mode. -/
theorem skimIsRequestedAtTheLead : Obligations.SkimIsRequestedAtTheLead := by
  refine ⟨fun h n s q hq ha hc => ⟨fun hno => ?_, fun hk hn him => ⟨fun hm id r hl hr s' hs' => ?_, fun hm p hp => ?_⟩⟩,
    fun h s q hq => ⟨fun ha => exec_eventOf rfl ha, sendSkimAtLead_not_due hq,
      fun n hc hn hk him => ⟨sendSkimAtLead_outOfService hq hc hk hn him, fun p hm hp => ?_⟩⟩,
    fun h n s q p hq ha hc hk hn him hm hp => ?_⟩
  · rw [exec_eventOf rfl ha, sendSkimAtLead_not_due hq]
    exact hno.imp_right fun hlt m hm => by rw [hc] at hm; cases hm; exact hlt
  · have miss := markMissed_eq (h := h) (hq ▸ hl) hr
    have hmissed : missedSkim h id s = s' := by rw [hs', missedSkim, ← hq]
    rw [hmissed, ← hq] at miss
    rw [exec_eventOf rfl ha, sendSkimAtLead_outOfService hq hc hk hn him hm, miss]
    exact ⟨fun hflag => by rw [if_pos hflag], fun hflag => by rw [if_neg (by simp [hflag])]⟩
  · obtain ⟨before, after, hqueue, hbefore, hafter, joins⟩ :=
      sendSkimAtLead_joins hq hc hk hn him (by simp [hm]) hp
    refine ⟨before, after, hqueue, hbefore, hafter, ?_⟩
    rw [exec_eventOf rfl ha, joins, startSweep_of_ne_idle (by simp [mode_skimQueued, hm])]
    rfl
  · obtain ⟨before, after, hqueue, hbefore, hafter, joins⟩ := sendSkimAtLead_joins hq hc hk hn him hm hp
    refine ⟨before, after, hqueue, hbefore, hafter, fun u hu => ⟨fun hi => ?_, fun hw => ?_⟩⟩
    · rw [joins, hu]
      rfl
    · rw [joins, hu, startSweep_of_ne_idle (by simp [mode_skimQueued, hw])]
      rfl
  · obtain ⟨before, after, hqueue, hbefore, hafter, joins⟩ :=
      sendSkimAtLead_joins hq hc hk hn him (by simp [hm]) hp
    refine ⟨before, after, hqueue, hbefore, hafter, ?_⟩
    rw [exec_eventOf rfl ha, joins]
    rfl

end

section
/-! PROOFS. The dip cycle: the overdip count and its end, the withdrawal, and the end-of-immersion decision. -/

namespace Sys2Proof.Machine

/-! ## Changes of one load's records -/

theorem withLoad_withLoad {id : Nat} {f : LoadRec → LoadRec} (hf : ∀ r, (f r).id = r.id) (g : LoadRec → LoadRec)
    (s : State) : withLoad id g (withLoad id f s) = withLoad id (fun r => g (f r)) s := by
  have hgf : ((fun r : LoadRec => if r.id = id then g r else r) ∘ fun r => if r.id = id then f r else r) =
      fun r => if r.id = id then g (f r) else r := by
    funext r
    by_cases hid : r.id = id <;> simp [hid, hf]
  simp only [withLoad, List.map_map, hgf]

theorem withLoad_of_eq {id : Nat} {f : LoadRec → LoadRec} (hf : ∀ r, f r = r) (s : State) : withLoad id f s = s := by
  have hsame : (fun r : LoadRec => if r.id = id then f r else r) = fun r => r := by
    funext r
    simp [hf]
  simp only [withLoad, hsame, List.map_id']

theorem latched_congr {h : Hoist} {s t : State} (hseq : (t.seq h).load = (s.seq h).load)
    (hrec : t.records = s.records) : t.latched h = s.latched h := by
  have hload : t.load? = s.load? := by
    funext id
    simp only [State.load?, hrec]
  simp only [State.latched, State.carried, hseq, hload]

/-! ## The overdip count (R17) -/

/-- The overdip count stands above the limit in force. -/
def overdipAbove (q : Sequencer) (s : State) : Bool := q.overdip.any (fun n => decide (s.overdipLimit < n))

/-- What an overdip above its limit brings beside the hoist's own mark: the load's flag and one OVERDIP. -/
def overdipNoted (h : Hoist) (id : Nat) (q : Sequencer) (s : State) : State :=
  if q.overdipRaised = false ∧ overdipAbove q s = true then
    raise .overdip (some h) (some id) (some ((s.overdipLimit : Nat) : Int)) none
      (withLoad id (fun l => { l with flags := { l.flags with nonconforming := true } }) s)
  else s

section Overdip
variable {h : Hoist} {q : Sequencer} {s : State} {id : Nat}

/-- `overdipCompared`, parted into the hoist's mark and the rest. -/
theorem overdipCompared_setSeq :
    overdipCompared h id (setSeq h q s) =
      setSeq h { q with overdipRaised := q.overdipRaised || overdipAbove q s } (overdipNoted h id q s) := by
  have hlimit : (setSeq h q s).overdipLimit = s.overdipLimit := by cases h <;> rfl
  simp only [overdipCompared, seq_setSeq, overdipNoted, hlimit]
  change (if q.overdipRaised = false ∧ overdipAbove q s = true then _ else _) = _
  split
  next hexceeds =>
    obtain ⟨hraised, habove⟩ := hexceeds
    simp only [hraised, habove, Bool.false_or]
    cases h <;> rfl
  next hno =>
    have hmark : (q.overdipRaised || overdipAbove q s) = q.overdipRaised := by
      cases hr : q.overdipRaised <;> simp_all
    rw [hmark]

/-- The count that is compared as it stops, or as it passes its limit (R17). -/
theorem compareOverdip_eq (hl : (s.seq h).load = some id) : compareOverdip h s = overdipCompared h id s := by
  have hdue : overdipDue h s = true ↔
      (s.seq h).overdipRaised = false ∧ (s.seq h).overdip.any (fun n => decide (s.overdipLimit < n)) = true := by
    rw [overdipDue_iff]
    cases (s.seq h).overdip <;> simp
  simp only [compareOverdip, overdipCompared, hdue, exceedOverdip, modCarried_eq hl, raiseFor, seq_withLoad, hl, modSeq,
    seq_raise]
  rfl

/-- The count that stops is written into the load record (R17). -/
theorem writeOverdip_setSeq (hl : q.load = some id) :
    writeOverdip h (setSeq h q s) = setSeq h { q with overdip := none }
      (withLoad id (fun l => { l with overdipSeconds := q.overdip.or l.overdipSeconds }) s) := by
  rw [writeOverdip, seq_setSeq]
  split
  next n ho =>
    rw [modCarried_setSeq hl, modSeq_setSeq, ho]
    rfl
  next ho =>
    have hitems : { q with overdip := none } = q := by rw [← ho]
    rw [hitems, ho, withLoad_of_eq]
    exact fun _ => rfl

/-- The count stops: compared, and written into the load record (R17). -/
theorem stopOverdip_setSeq (hl : q.load = some id) :
    stopOverdip h (setSeq h q s) =
      setSeq h { q with overdip := none, overdipRaised := q.overdipRaised || overdipAbove q s }
        (withLoad id (fun l => { l with overdipSeconds := q.overdip.or l.overdipSeconds })
          (overdipNoted h id q s)) := by
  rw [stopOverdip, compareOverdip_eq (by rw [seq_setSeq, hl]), overdipCompared_setSeq,
    writeOverdip_setSeq (q := { q with overdipRaised := q.overdipRaised || overdipAbove q s }) hl]

theorem seq_overdipNoted (h' : Hoist) : (overdipNoted h id q s).seq h' = s.seq h' := by
  unfold overdipNoted
  split
  next => rw [seq_raise, seq_withLoad]
  next => rfl

theorem settings_overdipNoted : (overdipNoted h id q s).settings = s.settings := by
  unfold overdipNoted
  split
  next => simp [withLoad]
  next => rfl

theorem latched_overdipNoted : (overdipNoted h id q s).latched h = s.latched h := by
  unfold overdipNoted
  split
  next =>
    rw [latched_congr (s := withLoad id (fun l => { l with flags := { l.flags with nonconforming := true } }) s)
      (by rw [seq_raise]) (by simp)]
    exact latched_withLoad (by intro; rfl) (by intro; rfl) h s
  next => rfl

/-! ## The withdrawal (R18) -/

/-- What WITHDRAW makes of the load before it lifts. -/
def withdrawalWritten (h : Hoist) (id : Nat) (q : Sequencer) (s : State) : State :=
  withLoad id (fun l => { l with
    withdrawTime := some s.link.clock
    overdipSeconds := q.overdip.or l.overdipSeconds }) (overdipNoted h id q s)

theorem startWithdraw_setSeq (hl : q.load = some id) :
    startWithdraw h (setSeq h q s) = liftOut h
      (setSeq h { q with overdip := none, overdipRaised := q.overdipRaised || overdipAbove q s }
        (withdrawalWritten h id q s)) := by
  have hclock : (setSeq h q s).clock = s.link.clock := by cases h <;> rfl
  rw [startWithdraw, stopOverdip_setSeq hl, hclock,
    modCarried_setSeq (q := { q with overdip := none, overdipRaised := q.overdipRaised || overdipAbove q s }) hl,
    withLoad_withLoad (by exact fun _ => rfl)]
  rfl

theorem seq_withdrawalWritten (h' : Hoist) : (withdrawalWritten h id q s).seq h' = s.seq h' := by
  rw [withdrawalWritten, seq_withLoad, seq_overdipNoted]

theorem latched_withdrawalWritten : (withdrawalWritten h id q s).latched h = s.latched h := by
  rw [withdrawalWritten, latched_withLoad, latched_overdipNoted]
  · exact fun _ => rfl
  · exact fun _ => rfl

theorem settings_withdrawalWritten : (withdrawalWritten h id q s).settings = s.settings :=
  settings_overdipNoted (h := h) (id := id) (q := q) (s := s)

theorem withdrawSpeed_withdrawalWritten :
    (withdrawalWritten h id q s).withdrawSpeed h = s.withdrawSpeed h := by
  rw [State.withdrawSpeed, latched_withdrawalWritten, State.withdrawSpeed, State.raiseSpeed, State.raiseSpeed,
    setting_congr settings_withdrawalWritten]

end Overdip

/-! ## The skim wait (R16) -/

section SkimWait
variable {h : Hoist} {s : State} {n : Nat}

theorem skimWaitLimit_congr {s t : State} (hs : t.settings = s.settings) : t.skimWaitLimit = s.skimWaitLimit := by
  simp [State.skimWaitLimit, State.settingNat, setting_congr hs]

theorem checkSkimWait_below (hn : ∀ n, (s.seq h).skimWait = some n → n < s.skimWaitLimit) : checkSkimWait h s = s := by
  rw [checkSkimWait, if_neg]
  rw [skimWaitDue_iff]
  rintro ⟨-, -, n, hw, hle⟩
  exact absurd (hn n hw) (not_lt.2 hle)

theorem checkSkimWait_of_not_waiting (hk : (s.seq h).skim ≠ .waiting) : checkSkimWait h s = s := by
  rw [checkSkimWait, if_neg]
  rw [skimWaitDue_iff]
  exact fun hdue => hk hdue.1

/-- A wait at its setting is missed and its request withdrawn; the load of a hoist in AWAIT_SKIM is withdrawn (R16). -/
theorem checkSkimWait_awaitSkim (hk : (s.seq h).skim = .waiting) (hw : (s.seq h).skimWait = some n)
    (hn : s.skimWaitLimit ≤ n) (hp : (s.seq h).phase = .awaitSkim) :
    checkSkimWait h s = startWithdraw h (withdrawSkim h (markMissed h s)) := by
  have hphase : ((withdrawSkim h (markMissed h s)).seq h).phase = .awaitSkim := by
    rw [seq_withdrawSkim, seq_markMissed, hp]
  rw [checkSkimWait, if_pos ((skimWaitDue_iff h s).2 ⟨hk, by simp [hp], n, hw, hn⟩)]
  exact if_pos hphase

/-- A hoist that is held stays where it is (R16, R23). -/
theorem checkSkimWait_held (hk : (s.seq h).skim = .waiting) (hw : (s.seq h).skimWait = some n)
    (hn : s.skimWaitLimit ≤ n) (hp : (s.seq h).phase = .held ∨ (s.seq h).phase = .jogging) :
    checkSkimWait h s = withdrawSkim h (markMissed h s) := by
  have hphase : ((withdrawSkim h (markMissed h s)).seq h).phase ≠ .awaitSkim := by
    rw [seq_withdrawSkim, seq_markMissed]
    rcases hp with hp | hp <;> simp [hp]
  rw [checkSkimWait, if_pos ((skimWaitDue_iff h s).2 ⟨hk, by rcases hp with hp | hp <;> simp [hp], n, hw, hn⟩)]
  exact if_neg hphase

end SkimWait

/-! ## The new request of AWAIT_SKIM (R15) -/

section Ask
variable {h : Hoist} {q : Sequencer} {s : State} {wait : Nat}

theorem askSkimAgain_outOfService (hm : s.skimmer.mode = .outOfService) :
    askSkimAgain h wait (setSeq h q s) = startWithdraw h (markMissed h
      (setSeq h { q with phase := .awaitSkim, skimWait := some wait, skim := .waiting } s)) := by
  have request := requestSkim_outOfService (h := h) (q := { q with phase := .awaitSkim, skimWait := some wait })
    (dueIn 0 (setSeq h q s)) hm
  rw [askSkimAgain, modSeq_setSeq, request]
  exact if_pos (by rw [seq_markMissed])

theorem askSkimAgain_joins {p : Span} (hm : s.skimmer.mode ≠ .outOfService)
    (hp : s.arbiter.spanOf (.hoist h) = some p) :
    askSkimAgain h wait (setSeq h q s) = checkSkimWait h (startSweep
      (skimQueued h { q with phase := .awaitSkim, skimWait := some wait }
        (insertRequest { hoist := h, first := p.first, last := p.last, due := s.link.clock % 4294967296 }
          s.skimmer.queue) s)) := by
  have request := requestSkim_joins (h := h) (q := { q with phase := .awaitSkim, skimWait := some wait })
    (s.link.clock % 4294967296) hm hp
  have hdue : dueIn 0 (setSeq h q s) = s.link.clock % 4294967296 := by cases h <;> rfl
  have hskim (queue : List SkimRequest) :
      ((startSweep (skimQueued h { q with phase := .awaitSkim, skimWait := some wait } queue s)).seq h).skim ≠
        .missed := by
    rw [seq_startSweep, skimQueued, seq_setSeq]
    simp
  rw [askSkimAgain, modSeq_setSeq, hdue, request]
  exact if_neg (hskim _)

end Ask

/-! ## The end-of-immersion decision (R15) -/

theorem clockSince_of_le {t now : Nat} (hle : t ≤ now) (hnow : now < 4294967296) : clockSince t now = now - t := by
  simp only [clockSince, Config.clockModulus]
  omega

section Decision
variable {h : Hoist} {s : State}

theorem endDecision_missed (hk : (s.seq h).skim = .missed) : endDecision h s = startWithdraw h s := by
  simp only [endDecision, hk]

/-- A skim done no more than 60 s ago is fresh (R15). -/
theorem endDecision_fresh {t : Nat} (hk : (s.seq h).skim = .done t) (hle : t ≤ s.link.clock)
    (hclock : s.link.clock < 4294967296) (hfresh : s.link.clock ≤ t + 60) : endDecision h s = startWithdraw h s := by
  have hsince : clockSince t s.clock ≤ Config.skimStale := by
    rw [State.clock, clockSince_of_le hle hclock, Config.skimStale]
    omega
  simp only [endDecision, hk, if_pos hsince]

theorem endDecision_stale {t : Nat} (hk : (s.seq h).skim = .done t) (hclock : s.link.clock < 4294967296)
    (hstale : t + 60 < s.link.clock) : endDecision h s = askSkimAgain h 0 s := by
  have hsince : ¬ clockSince t s.clock ≤ Config.skimStale := by
    rw [State.clock, clockSince_of_le (by omega) hclock, Config.skimStale]
    omega
  simp only [endDecision, hk, if_neg hsince]

theorem endDecision_none (hk : (s.seq h).skim = .none) :
    endDecision h s = askSkimAgain h ((s.seq h).skimWait.getD 0) s := by
  simp only [endDecision, hk]

theorem endDecision_waiting (hk : (s.seq h).skim = .waiting) :
    endDecision h s = checkSkimWait h
      (modSeq h (fun q => { q with phase := .awaitSkim, skimWait := some (q.skimWait.getD 0) }) s) := by
  simp only [endDecision, hk]

/-- A skim that waits is waited for while the count is below the setting (R15, R16). -/
theorem endDecision_waits {q : Sequencer} {n : Nat} (hk : q.skim = .waiting) (hw : n = q.skimWait.getD 0)
    (hn : n < s.skimWaitLimit) :
    endDecision h (setSeq h q s) = setSeq h { q with phase := .awaitSkim, skimWait := some n } s := by
  rw [endDecision_waiting (by rw [seq_setSeq, hk]), modSeq_setSeq, ← hw]
  refine checkSkimWait_below fun m hm => ?_
  rw [seq_setSeq] at hm
  cases hm
  rwa [skimWaitLimit_congr (s := s) (by simp)]

/-- At the setting it is missed at once, and the load withdraws (R16). -/
theorem endDecision_expires {q : Sequencer} {n : Nat} (hk : q.skim = .waiting) (hw : n = q.skimWait.getD 0)
    (hn : s.skimWaitLimit ≤ n) :
    endDecision h (setSeq h q s) = startWithdraw h (withdrawSkim h (markMissed h
      (setSeq h { q with phase := .awaitSkim, skimWait := some n } s))) := by
  rw [endDecision_waiting (by rw [seq_setSeq, hk]), modSeq_setSeq, ← hw]
  refine checkSkimWait_awaitSkim (n := n) (by rw [seq_setSeq]; exact hk) (by rw [seq_setSeq]) ?_ (by rw [seq_setSeq])
  rwa [skimWaitLimit_congr (s := s) (by simp)]

end Decision

end Sys2Proof.Machine
end

section
/-! PROOFS. The countdown reaches 0. -/

namespace Sys2Proof.Machine

section Zero
variable {h : Hoist} {q : Sequencer} {s : State}

/-- The hoist's items as the overdip count starts (R15, R17). -/
theorem startOverdip_setSeq :
    startOverdip h (setSeq h q s) =
      setSeq h { q with overdip := some 0, skimWait := if q.skim = .waiting then some 0 else q.skimWait } s := by
  rw [startOverdip, modSeq_setSeq]

theorem exec_countdownZero (hq : q = s.seq h) (ha : s.active = true) (hc : q.countdown = some 0)
    (ho : q.overdip = none) (him : q.immersed) :
    exec (.immersionCountdownZero h) s = .next (endEvent (countdownZero h s)) := by
  rw [exec_eventOf rfl ha, if_pos ((countdownZeroDue_iff h s).2 (hq ▸ ⟨hc, ho, him⟩))]

theorem countdownZero_immerse (hp : q.phase = .immerse) :
    countdownZero h (setSeq h q s) = endDecision h (startOverdip h (setSeq h q s)) := by
  rw [countdownZero, startOverdip_setSeq]
  exact if_pos (by rw [seq_setSeq]; exact hp)

theorem countdownZero_held (hp : q.phase ≠ .immerse) :
    countdownZero h (setSeq h q s) = checkSkimWait h (startOverdip h (setSeq h q s)) := by
  rw [countdownZero, startOverdip_setSeq]
  exact if_neg (by rw [seq_setSeq]; exact hp)

/-- The event in IMMERSE makes the decision, with the overdip count started (R15). -/
theorem exec_countdownZero_immerse {s' : State} (hq : q = s.seq h) (ha : s.active = true) (hc : q.countdown = some 0)
    (ho : q.overdip = none) (hp : q.phase = .immerse)
    (hs' : s' = setSeq h { q with overdip := some 0, skimWait := if q.skim = .waiting then some 0 else q.skimWait } s) :
    exec (.immersionCountdownZero h) s = .next (endEvent (endDecision h s')) := by
  have decides := countdownZero_immerse (h := h) (s := s) hp
  rw [startOverdip_setSeq, ← hs', hq, setSeq_seq] at decides
  rw [exec_countdownZero hq ha hc ho (Or.inl hp), decides]

/-- A hoist that is held starts the counts and waits for RESUME (R15, R23). -/
theorem exec_countdownZero_held {s' : State} (hq : q = s.seq h) (ha : s.active = true) (hc : q.countdown = some 0)
    (ho : q.overdip = none) (hp : q.phase = .held ∨ q.phase = .jogging) (hh : q.heldPhase = some .immerse)
    (hs' : s' = setSeq h { q with overdip := some 0, skimWait := if q.skim = .waiting then some 0 else q.skimWait } s) :
    exec (.immersionCountdownZero h) s = .next (endEvent (checkSkimWait h s')) := by
  have hne : q.phase ≠ .immerse := by rcases hp with hp | hp <;> simp [hp]
  have checks := countdownZero_held (h := h) (s := s) hne
  rw [startOverdip_setSeq, ← hs', hq, setSeq_seq] at checks
  rw [exec_countdownZero hq ha hc ho (Or.inr ⟨hp, hh⟩), checks]

end Zero

end Sys2Proof.Machine

open Sys2Proof Sys2Proof.Machine

/-- Settles O35: the decision by the skim state, and the new request of AWAIT_SKIM. -/
theorem countdownZeroDecides : Obligations.CountdownZeroDecides := by
  refine ⟨fun h s s' q hq ha hc ho hs' => ?_, fun h s s' q hq ha hc ho hs' => ?_, fun h wait due s s₁ hdue hs₁ => ?_⟩
  · have hclock : s'.link.clock = s.link.clock := by rw [hs']; cases h <;> rfl
    have hskim : (s'.seq h).skim = q.skim := by rw [hs', seq_setSeq]
    refine ⟨fun hp => ?_, fun hp hh hw => ?_⟩
    · rw [exec_countdownZero_immerse hq ha hc ho hp hs', ← hclock]
      refine ⟨fun t hk hle hlt hfresh => ?_, fun hk => ?_, fun hk hlimit => ?_, fun t hk _ hlt hstale => ?_⟩
      · rw [endDecision_fresh (hskim.trans hk) hle hlt hfresh]
      · rw [endDecision_missed (hskim.trans hk)]
      · rw [if_pos hk] at hs'
        have waits := endDecision_waits (h := h) (q := { q with overdip := some 0, skimWait := some 0 }) (s := s)
          (n := 0) hk rfl hlimit
        rw [hs', waits, seq_setSeq, setSeq_setSeq]
      · rw [endDecision_stale (hskim.trans hk) hlt hstale]
    · rw [exec_countdownZero_held hq ha hc ho hp hh hs']
      rcases hw with hk | hlimit
      · rw [checkSkimWait_of_not_waiting (by rw [hskim]; exact hk)]
      · by_cases hk : q.skim = .waiting
        · rw [checkSkimWait_below]
          intro n hn
          rw [hs', seq_setSeq, if_pos hk] at hn
          cases hn
          rwa [skimWaitLimit_congr (s := s) (by rw [hs']; simp)]
        · rw [checkSkimWait_of_not_waiting (by rw [hskim]; exact hk)]
  · have hskim : (s'.seq h).skim = q.skim := by rw [hs', seq_setSeq]
    refine ⟨fun hp => ⟨fun hk => ?_, fun hk hlimit => ?_⟩, fun hp hh hk hlimit => ?_⟩
    · have hwait : (s'.seq h).skimWait = q.skimWait := by rw [hs', seq_setSeq]; simp [hk]
      rw [exec_countdownZero_immerse hq ha hc ho hp hs', endDecision_none (hskim.trans hk), hwait]
    · have hexec := exec_countdownZero_immerse hq ha hc ho hp hs'
      rw [if_pos hk] at hs'
      have expires := endDecision_expires (h := h) (q := { q with overdip := some 0, skimWait := some 0 }) (s := s)
        (n := 0) hk rfl hlimit.le
      rw [hexec, hs', expires, seq_setSeq, setSeq_setSeq]
    · have hlimit' : s'.skimWaitLimit = 0 := by rw [skimWaitLimit_congr (s := s) (by rw [hs']; simp), hlimit]
      rw [exec_countdownZero_held hq ha hc ho hp hh hs', checkSkimWait_held (n := 0) (hskim.trans hk)
        (by rw [hs', seq_setSeq]; simp [hk]) hlimit'.le (by rw [hs', seq_setSeq]; exact hp)]
  · refine ⟨fun hm => ?_, fun p hm hp => ?_⟩
    · have asks := askSkimAgain_outOfService (h := h) (q := s.seq h) (s := s) (wait := wait) hm
      rw [setSeq_seq] at asks
      rw [asks, hs₁]
    · obtain ⟨before, after, hqueue, hbefore, hafter, hins⟩ := insertRequest_split
        { hoist := h, first := p.first, last := p.last, due := due } s.skimmer.queue
      have asks := askSkimAgain_joins (h := h) (q := s.seq h) (s := s) (wait := wait) hm hp
      rw [setSeq_seq, ← hdue, hins] at asks
      refine ⟨before, after, hqueue, hbefore, hafter, fun u hu => ?_⟩
      have hu' : skimQueued h { s.seq h with phase := .awaitSkim, skimWait := some wait }
          (before ++ { hoist := h, first := p.first, last := p.last, due := due } :: after) s = u := by
        rw [hu, hs₁]
        cases h <;> rfl
      have hmode : u.skimmer.mode = s.skimmer.mode := by rw [hu]
      have hlimit : u.skimWaitLimit = s.skimWaitLimit := skimWaitLimit_congr (by rw [hu, hs₁]; simp)
      have hitems : (u.seq h).skim = .waiting ∧ (u.seq h).skimWait = some wait ∧ (u.seq h).phase = .awaitSkim := by
        rw [← hu', skimQueued, seq_setSeq]
        exact ⟨rfl, rfl, rfl⟩
      obtain ⟨hk, hw, hphase⟩ := hitems
      have hstart : (startSweep u).skimWaitLimit = s.skimWaitLimit := by
        rw [skimWaitLimit_congr (s := u) (by simp), hlimit]
      rw [hu'] at asks
      rw [asks]
      refine ⟨fun hlt hm => ?_, fun hlt hm => ?_, fun hle hm => ?_, fun hle hm => ?_⟩
      · rw [startSweep_of_ne_idle (by simp [hmode, hm]), checkSkimWait_below]
        intro n hn
        rw [hw] at hn
        cases hn
        rwa [hlimit]
      · rw [checkSkimWait_below]
        intro n hn
        rw [seq_startSweep, hw] at hn
        cases hn
        rwa [hstart]
      · rw [startSweep_of_ne_idle (by simp [hmode, hm]), checkSkimWait_awaitSkim hk hw (by rwa [hlimit]) hphase]
      · rw [checkSkimWait_awaitSkim (by rwa [seq_startSweep]) (by rw [seq_startSweep, hw]) (by rwa [hstart])
          (by rw [seq_startSweep, hphase])]

end

section
/-! PROOFS. WITHDRAW, the skim wait at its limit, and the withdrawal of a skim request. -/

namespace Sys2Proof.Machine

/-- The requests of the other hoist close up in their order (R68). -/
theorem filter_hoist_split {h : Hoist} {before after : List SkimRequest} {r : SkimRequest} (hr : r.hoist = h)
    (hbefore : ∀ x ∈ before, x.hoist ≠ h) (hafter : ∀ x ∈ after, x.hoist ≠ h) :
    (before ++ r :: after).filter (fun x => !decide (x.hoist = h)) = before ++ after := by
  have hb : before.filter (fun x => !decide (x.hoist = h)) = before := by simpa using hbefore
  have ha : after.filter (fun x => !decide (x.hoist = h)) = after := by simpa using hafter
  simp [hb, ha, hr]

end Sys2Proof.Machine

open Sys2Proof Sys2Proof.Machine

/-- Settles O36: `startWithdraw` to its lift, `checkSkimWait` at its limit, and the skimmer's queue. -/
theorem withdrawalAndTheSkimWait : Obligations.WithdrawalAndTheSkimWait := by
  refine ⟨fun h id s r q x c v hq hl hr hx hc hf hv => ?_, fun h n s q hq ha hk hw => ⟨fun hlt => ?_, fun hle =>
    ⟨fun hp => ?_, fun hp => ?_⟩, fun id r hl hr hflag => ?_,
    fun w hsweep hwh hab => withdrawSkim_aborts hsweep hwh hab⟩,
    fun h s hsweep => ⟨fun before r after hqueue hrh hbefore hafter => ?_, fun hnone => ?_⟩⟩
  · have hs : setSeq h q s = s := by rw [hq, setSeq_seq]
    have hlat : s.latched h = r.latched := latched_eq (hq ▸ hl) hr
    have hspeed : s.withdrawSpeed h = v := by
      rw [State.withdrawSpeed, hlat]
      rcases hv with ⟨l, hl', rfl⟩ | ⟨hn, rfl⟩
      · rw [hl']; rfl
      · rw [hn]; rfl
    have starts := startWithdraw_setSeq (h := h) (s := s) hl
    have compared := overdipCompared_setSeq (h := h) (id := id) (q := q) (s := s)
    rw [hs] at starts compared
    rw [starts, liftOut_far (q := { q with overdip := none, overdipRaised := q.overdipRaised || overdipAbove q s })
      (by rw [seq_withdrawalWritten, ← hq]) hc hx hf, withdrawSpeed_withdrawalWritten, hspeed, compared, seq_setSeq,
      withLoad_setSeq, setSeq_setSeq]
    rfl
  · rw [exec_eventOf rfl ha, checkSkimWait_below]
    intro m hm
    rw [← hq, hw] at hm
    cases hm
    exact hlt
  · rw [exec_eventOf rfl ha, checkSkimWait_awaitSkim (hq ▸ hk) (hq ▸ hw) hle (hq ▸ hp)]
  · rw [exec_eventOf rfl ha, checkSkimWait_held (hq ▸ hk) (hq ▸ hw) hle (hq ▸ hp)]
  · rw [markMissed_eq (hq ▸ hl) hr, if_neg (by simp [hflag]), missedSkim, ← hq]
  · rw [withdrawSkim_leaves hsweep, hqueue, filter_hoist_split hrh hbefore hafter]
  · have hfilter : s.skimmer.queue.filter (fun x => !decide (x.hoist = h)) = s.skimmer.queue := by simpa using hnone
    rw [withdrawSkim_leaves hsweep, hfilter]

end

section
/-! PROOFS. The hold button's timer, the raise, and overdue motions. -/

namespace Sys2Proof.Machine

section Raise
variable {h : Hoist} {q : Sequencer} {s : State} {id : Nat}

theorem Sequencer.inBath_eq {x c : Int} (hx : q.lift = some x) (hc : q.pClr = some c) :
    q.inBath = decide (x < c) := by
  simp [Sequencer.inBath, hx, hc]

theorem Sequencer.not_inBath (hno : q.lift = none ∨ ∃ x c, q.lift = some x ∧ q.pClr = some c ∧ c ≤ x) :
    q.inBath = false := by
  rcases hno with hx | ⟨x, c, hx, hc, hle⟩
  · simp [Sequencer.inBath, hx]
  · simp [Sequencer.inBath_eq hx hc, hle]

/-- What RAISING makes of the records and notices before the lift, the count being compared and written (R17, R29). -/
def raiseWritten (h : Hoist) (id : Nat) (q : Sequencer) (s : State) : State :=
  raise .emergencyRaise (some h) (some id) q.lift none
    (withLoad id (fun l => { l with
      overdipSeconds := q.overdip.or l.overdipSeconds,
      flags := { l.flags with nonconforming := true } }) (overdipNoted h id q s))

/-- The items of a hoist as it enters RAISING, before the lift. -/
def Sequencer.raised (q : Sequencer) (s : State) : Sequencer :=
  { q with countdown := none, holdTimer := none, overdip := none,
           overdipRaised := q.overdipRaised || overdipAbove q s,
           skim := if q.skim = .waiting then .missed else q.skim }

theorem raise_setSeq (k : NoticeKind) (ho : Option Hoist) (l : Option Nat) (a b : Option Int) :
    raise k ho l a b (setSeq h q s) = setSeq h q (raise k ho l a b s) := by
  cases h <;> rfl

theorem withdrawSkim_setSeq : withdrawSkim h (setSeq h q s) = setSeq h q (withdrawSkim h s) := by
  have hsweep : (setSeq h q s).skimmer.sweep = s.skimmer.sweep := by simp
  simp only [withdrawSkim, hsweep]
  cases s.skimmer.sweep with
  | none => cases h <;> rfl
  | some w =>
    by_cases hw : w.hoist = some h ∧ w.abort = false
    · simp only [if_pos hw]
      cases h <;> rfl
    · simp only [if_neg hw]
      cases h <;> rfl

/-- The state as a hoist that waits for its skim withdraws the request, before the raise (R29, R68). -/
def skimGivenUp (h : Hoist) (q : Sequencer) (s : State) : State :=
  if q.skim = .waiting then withdrawSkim h s else s

theorem settings_skimGivenUp : (skimGivenUp h q s).settings = s.settings := by
  unfold skimGivenUp
  split
  next => simp
  next => rfl

theorem overdipLimit_skimGivenUp : (skimGivenUp h q s).overdipLimit = s.overdipLimit := by
  simp [State.overdipLimit, State.settingNat, setting_congr settings_skimGivenUp]

/-- The acts of RAISING, in their order (R29, log entries 21, 44, 53). -/
theorem enterRaising_setSeq (hl : q.load = some id) :
    enterRaising h (setSeq h q s) = withdrawClaim (.hoist h) (liftRaise h
      (setSeq h (q.raised s) (raiseWritten h id q (skimGivenUp h q s)))) := by
  have hgiven : (if ((setSeq h q s).seq h).skim = .waiting
        then modSeq h (fun q => { q with skim := .missed }) (withdrawSkim h (setSeq h q s)) else setSeq h q s) =
      setSeq h { q with skim := if q.skim = .waiting then .missed else q.skim } (skimGivenUp h q s) := by
    rw [seq_setSeq, skimGivenUp]
    split
    next hk => rw [withdrawSkim_setSeq, modSeq_setSeq]
    next hk => rfl
  have habove : overdipAbove q (skimGivenUp h q s) = overdipAbove q s := by
    rw [overdipAbove, overdipLimit_skimGivenUp, overdipAbove]
  have stops : stopOverdip h (setSeq h { q with
        skim := (if q.skim = .waiting then .missed else q.skim), countdown := none, holdTimer := none }
        (skimGivenUp h q s)) = setSeq h (q.raised s)
      (withLoad id (fun l => { l with overdipSeconds := q.overdip.or l.overdipSeconds })
        (overdipNoted h id q (skimGivenUp h q s))) := by
    rw [stopOverdip_setSeq (q := { q with
      skim := (if q.skim = .waiting then .missed else q.skim), countdown := none, holdTimer := none }) hl]
    change setSeq h { q.raised s with overdipRaised := q.overdipRaised || overdipAbove q (skimGivenUp h q s) } _ = _
    rw [habove]
    rfl
  have carries := modCarried_setSeq (h := h) (q := q.raised s) hl
    (fun r => { r with flags := { r.flags with nonconforming := true } })
    (withLoad id (fun l => { l with overdipSeconds := q.overdip.or l.overdipSeconds })
      (overdipNoted h id q (skimGivenUp h q s)))
  rw [withLoad_withLoad (by exact fun _ => rfl)] at carries
  have reports (u : State) : raiseFor h .emergencyRaise (q.raised s).lift none (setSeq h (q.raised s) u) =
      setSeq h (q.raised s) (raise .emergencyRaise (some h) (some id) q.lift none u) := by
    rw [raiseFor, raise_setSeq, seq_setSeq]
    change setSeq h _ (raise _ _ q.load _ _ _) = _
    rw [hl]
    rfl
  rw [enterRaising, hgiven, modSeq_setSeq, stops]
  simp only [carries, seq_setSeq, reports]
  rfl

theorem setting_raiseWritten (n : Nat) : (raiseWritten h id q (skimGivenUp h q s)).setting n = s.setting n := by
  have hs : (raiseWritten h id q (skimGivenUp h q s)).settings =
      (overdipNoted h id q (skimGivenUp h q s)).settings := rfl
  exact setting_congr (by rw [hs, settings_overdipNoted, settings_skimGivenUp]) n

theorem seq_skimGivenUp : (skimGivenUp h q s).seq h = s.seq h := by
  unfold skimGivenUp
  split
  next => rw [seq_withdrawSkim]
  next => rfl

end Raise

section Timing
variable {h : Hoist} {s : State}

theorem exec_fourSecondMark {n : Nat} (hpressed : (s.seq h).pressed = true) (hp : (s.seq h).phase = .held)
    (ht : (s.seq h).holdTimer = some n) (hn : 4 ≤ n) (ha : s.active = true) :
    exec (.holdButton4sMark h) s = .next (endEvent (fourSecondMark h s)) := by
  rw [exec_eventOf rfl ha, if_pos ((fourSecondsDue_iff h s).2 ⟨hpressed, hp, n, ht, hn⟩)]

theorem seq_capture (r : FaultRecord) : (capture r s).seq h = s.seq h :=
  seq_congr (by simp) (by simp) h

theorem eng_capture (r : FaultRecord) : (capture r s).eng h = s.eng h := by
  unfold capture
  split <;> cases h <;> rfl

/-- A drive fault's end of an overdue motion is the only one that the event still reports (R171). -/
theorem lateOverdue_eq_self (hno : (s.seq h).phase ≠ .held ∨ (s.seq h).motion ≠ none ∨ (s.seq h).lateAxis = none) :
    lateOverdue h s = s := by
  unfold lateOverdue
  split
  next hp hm hl => simp [hp, hm, hl] at hno
  next => rfl

theorem lateOverdue_late {axis : Axis} (hp : (s.seq h).phase = .held) (hm : (s.seq h).motion = none)
    (hl : (s.seq h).lateAxis = some axis) :
    lateOverdue h s = capture { overdueFault s h with data := (s.seq h).position axis }
      (modSeq h (fun q => { q with lateAxis := none }) s) := by
  simp only [lateOverdue, hp, hm, hl]

theorem not_overdueDue (hm : (s.seq h).motion = none) : ¬ overdueDue h s = true := by
  simp [overdueDue_iff, hm]

end Timing

end Sys2Proof.Machine

open Sys2Proof Sys2Proof.Machine

/-- Settles O33: the raise of a load in the bath by its acts, and the overdue motion by the hold that it brings. -/
theorem holdTimerAndOverdueMotions : Obligations.HoldTimerAndOverdueMotions := by
  refine ⟨fun h s q hq ha => ⟨?_, fun hno => ?_, fun n hpressed hp ht hn => ⟨fun hno => ?_,
      fun x c id s₁ s₂ q₂ leave hleave hx hc hlt hl hs₁ hs₂ hq₂ => ?_⟩⟩,
    fun h m s q hq ha hm => ⟨fun hlt => ?_, fun hle hp => ?_⟩,
    fun h s q hq ha hm => ⟨fun axis hp hlate => ?_, fun hno => ?_⟩⟩
  · have hs : setSeq h q s = s := by rw [hq, setSeq_seq]
    have release : releaseButton h s = setSeq h { q with pressed := false, holdTimer := none } s := by
      rw [← hs, releaseButton, modSeq_setSeq, setSeq_setSeq]
    change execHoldButtonRelease h s = _
    rw [execHoldButtonRelease, if_pos ha, release]
  · rw [exec_eventOf rfl ha, if_neg]
    rw [fourSecondsDue_iff, ← hq]
    rintro ⟨hpressed, hp, n, hn, hle⟩
    rcases hno with hno | hno | hno
    · simp [hpressed] at hno
    · exact hno hp
    · exact absurd (hno n hn) (not_lt.2 hle)
  · rw [exec_fourSecondMark (hq ▸ hpressed) (hq ▸ hp) (hq ▸ ht) hn ha, fourSecondMark, ← hq,
      Sequencer.not_inBath hno, modSeq, ← hq]
    rfl
  · have hs : setSeq h q s = s := by rw [hq, setSeq_seq]
    have hs₁ : s₁ = skimGivenUp h q s := hs₁
    have compared₁ := overdipCompared_setSeq (h := h) (id := id) (q := q) (s := s₁)
    have compared := overdipCompared_setSeq (h := h) (id := id) (q := q) (s := s)
    rw [hs] at compared
    have hseq₁ : q = s₁.seq h := by rw [hs₁, seq_skimGivenUp, hq]
    rw [show setSeq h q s₁ = s₁ by rw [hseq₁, setSeq_seq]] at compared₁
    have items : q₂ = { q.raised s with phase := .raising, heldPhase := none } := by
      rw [hq₂, compared, seq_setSeq]
      rfl
    have written (k : Sequencer) : setSeq h k (raiseWritten h id q (skimGivenUp h q s)) = setSeq h k s₂ := by
      rw [hs₂, compared₁, withLoad_setSeq, raise_setSeq, setSeq_setSeq, raiseWritten, hx, hs₁]
    have leaves (u : State) : withdrawClaim (.hoist h) u = leave u := by
      rw [withdrawClaim_eq, hleave]
      rfl
    have raises := enterRaising_setSeq (h := h) (s := s) hl
    rw [hs, leaves] at raises
    rw [exec_fourSecondMark (hq ▸ hpressed) (hq ▸ hp) (hq ▸ ht) hn ha, fourSecondMark, ← hq,
      Sequencer.inBath_eq hx hc, if_pos (by simpa using hlt), raises, items]
    refine ⟨fun hf => ?_, fun hle => ?_⟩
    · rw [liftRaise_far (q := q.raised s) hc hx (by rwa [abs_of_pos (by omega)]), setting_raiseWritten, written]
    · rw [liftRaise_near (q := q.raised s) hc hx (by rwa [abs_of_pos (by omega)]), written]
  · rw [exec_eventOf rfl ha, if_neg, lateOverdue_eq_self (by simp [← hq, hm])]
    rw [overdueDue_iff, ← hq]
    rintro ⟨m', hm', hle⟩
    rw [hm] at hm'
    cases hm'
    omega
  · have hne : q.phase ≠ .held := by intro hh; simp [hh, Phase.dipCycle] at hp
    have hseq : (capture (overdueFault s h) s).seq h = q := by rw [seq_capture, hq]
    have hmoving : q.motion.isSome = true := by rw [hm]; rfl
    have held := enterHeld_setSeq (h := h) (s := capture (overdueFault s h) s) hne
    rw [← hseq, setSeq_seq, hseq, stopped, if_pos hmoving, eng_capture] at held
    rw [exec_eventOf rfl ha, if_pos ((overdueDue_iff h s).2 ⟨m, hq ▸ hm, hle⟩), overdue, held, overdueFault, ← hq, hm]
    rfl
  · rw [exec_eventOf rfl ha, if_neg (not_overdueDue (hq ▸ hm)), lateOverdue_late (hq ▸ hp) (hq ▸ hm) (hq ▸ hlate),
      modSeq, overdueFault, ← hq, hp]
    rfl
  · rw [exec_eventOf rfl ha, if_neg (not_overdueDue (hq ▸ hm)), lateOverdue_eq_self]
    rw [← hq]
    exact hno.imp_right Or.inr

end

section
/-! PROOFS. The dip cycle: arrivals, travels kept back, and the outcome of recovery. -/

namespace Sys2Proof.Machine

section Arrivals
variable {h : Hoist} {q : Sequencer} {s : State} {id : Nat}

theorem skimLead_setSeq : (setSeq h q s).skimLead = s.skimLead := by cases h <;> rfl

/-! ## Arrivals by phase (R4) -/

theorem arrival_travelIn (hp : q.phase = .travelIn) :
    arrival h (setSeq h q s) = trial h (setSeq h { q with motion := none, phase := .awaitAdmit } s) := by
  simp only [arrival, modSeq_setSeq, seq_setSeq, hp, enterAwaitAdmit_setSeq]

theorem arrival_entry {l : Latched} (hp : q.phase = .entry) (hq : q.load = (s.seq h).load)
    (hl : s.latched h = some l) :
    arrival h (setSeq h q s) = sendSkimAtLead h
      (setSeq h { q with motion := none, phase := .immerse, countdown := some l.tImm } s) := by
  simp only [arrival, modSeq_setSeq, seq_setSeq, hp]
  exact enterImmerse_setSeq (q := { q with motion := none, phase := .entry }) hq hl

theorem arrival_withdraw (hp : q.phase = .withdraw) :
    arrival h (setSeq h q s) = withdrawArrival h (setSeq h { q with motion := none } s) := by
  simp only [arrival, modSeq_setSeq, seq_setSeq, hp]

theorem arrival_drain (hp : q.phase = .drain) :
    arrival h (setSeq h q s) = runDrain h (setSeq h { q with motion := none } s) := by
  simp only [arrival, modSeq_setSeq, seq_setSeq, hp]

theorem arrival_weighOut (hp : q.phase = .weighOut) :
    arrival h (setSeq h q s) = enterWeighOut h (setSeq h { q with motion := none } s) := by
  simp only [arrival, modSeq_setSeq, seq_setSeq, hp]

theorem arrival_travelOut (hp : q.phase = .travelOut) (hl : q.load = some id) :
    arrival h (setSeq h q s) = dipEnded h id (setSeq h q s) := by
  simp only [arrival, modSeq_setSeq, seq_setSeq, hp]
  rw [travelOutArrival_setSeq (q := { q with motion := none, phase := .travelOut }) hl, dipEnded_setSeq,
    dipEnded_setSeq]
  rfl

theorem arrival_raising (hp : q.phase = .raising) :
    arrival h (setSeq h q s) = setSeq h { q with motion := none, phase := .held, heldPhase := some .drain } s := by
  simp only [arrival, modSeq_setSeq, seq_setSeq, hp, raisingArrival_setSeq]

theorem arrival_jogging (hp : q.phase = .jogging) :
    arrival h (setSeq h q s) = setSeq h { q with motion := none, phase := .held } s := by
  simp only [arrival, modSeq_setSeq, seq_setSeq, hp, setPhase_setSeq]

/-- The return to p_imm in IMMERSE or AWAIT_SKIM ends there (R24). -/
theorem arrival_inBath (hp : q.phase = .immerse ∨ q.phase = .awaitSkim) :
    arrival h (setSeq h q s) = setSeq h { q with motion := none } s := by
  rcases hp with hp | hp <;> simp only [arrival, modSeq_setSeq, seq_setSeq, hp]

theorem Sequencer.arrives_iff {m : Motion} {p : Int} (hm : q.motion = some m) (hp : q.position m.axis = some p)
    (rest : Bool) : q.arrives rest = true ↔ rest = true ∧ |m.target - p| ≤ 5 := by
  simp only [Sequencer.arrives, hm, hp, Bool.and_eq_true, near_iff]

/-! ## A travel kept back (R2, log entry 10) -/

theorem issueKeptTravel_of_motion (hm : q.motion ≠ none) : issueKeptTravel h (setSeq h q s) = setSeq h q s := by
  rw [issueKeptTravel, if_neg]
  simp [hm]

theorem issueKeptTravel_of_not_clear (hc : q.clear = false) : issueKeptTravel h (setSeq h q s) = setSeq h q s := by
  rw [issueKeptTravel, if_neg]
  simp [hc]

theorem issueKeptTravel_elsewhere (hp : q.phase ∉ [Phase.travelIn, .travelOut]) :
    issueKeptTravel h (setSeq h q s) = setSeq h q s := by
  unfold issueKeptTravel
  split
  next =>
    split
    next hi => simp only [seq_setSeq] at hi; simp [hi] at hp
    next ho => simp only [seq_setSeq] at ho; simp [ho] at hp
    next => rfl
  next => rfl

theorem issueKeptTravel_travelIn (hm : q.motion = none) (hc : q.clear = true) (hp : q.phase = .travelIn) :
    issueKeptTravel h (setSeq h q s) = beginTravelIn h (setSeq h q s) := by
  simp only [issueKeptTravel, seq_setSeq, hm, hc, hp, Option.isNone_none, Bool.and_self, if_true]

theorem issueKeptTravel_travelOut (hm : q.motion = none) (hc : q.clear = true) (hp : q.phase = .travelOut) :
    issueKeptTravel h (setSeq h q s) = beginTravelOut h (setSeq h q s) := by
  simp only [issueKeptTravel, seq_setSeq, hm, hc, hp, Option.isNone_none, Bool.and_self, if_true]

/-! ## The outcome of recovery (R32) -/

theorem recoverClear_admitted (hq : q.load = (s.seq h).load) (hl : q.load = some id)
    (ha : (s.latched h).isSome = true) :
    recoverClear h (setSeq h q s) = setSeq h { q with phase := .held, heldPhase := some .weighOut, recoverWait := none }
      (withLoad id (fun l => { l with flags := { l.flags with interrupted := true } }) s) := by
  rw [recoverClear, if_pos ((admitted_setSeq hq).trans ha), modCarried_setSeq hl, recoverHeld, modSeq_setSeq]

theorem recoverClear_neverAdmitted (hq : q.load = (s.seq h).load) (ha : s.latched h = none) :
    recoverClear h (setSeq h q s) = if (s.arbiter.spanOf (.hoist h)).isSome then
      beginTravelOut h (setSeq h { q with recoverWait := none } s) else endDip h (setSeq h q s) := by
  have hadm : (setSeq h q s).admitted h = false := by rw [admitted_setSeq hq, ha]; rfl
  have harb : (setSeq h q s).arbiter = s.arbiter := by simp
  rw [recoverClear, hadm, harb, modSeq_setSeq]
  rfl

end Arrivals

/-! ## The drive's report (R4, R163) -/

section Report
variable {h : Hoist} {x y : Int} {rest : Bool} {s : State} {q q' : Sequencer}

theorem driveReport_disabled (hp : (s.seq h).phase = .disabled) : driveReport h x y rest s = s := by
  rw [driveReport, if_pos hp]

theorem driveReport_recover (hq : q = s.seq h) (hq' : q' = { q with lift := some x, travel := some y })
    (hp : q.phase = .recover) :
    driveReport h x y rest s = if rest then recoveryOutcome h (setSeq h q' s) else setSeq h q' s := by
  have hs : setSeq h q s = s := by rw [hq, setSeq_seq]
  rw [← hs]
  simp only [driveReport, modSeq_setSeq, seq_setSeq, ← hq', setSeq_setSeq]
  have hp' : q'.phase = .recover := by rw [hq', ← hp]
  simp [hp, hp']

theorem driveReport_working (hq : q = s.seq h) (hq' : q' = { q with lift := some x, travel := some y })
    (hd : q.phase ≠ .disabled) (hr : q.phase ≠ .recover) :
    driveReport h x y rest s =
      if q'.arrives rest then arrival h (setSeq h q' s) else issueKeptTravel h (setSeq h q' s) := by
  have hs : setSeq h q s = s := by rw [hq, setSeq_seq]
  have hr' : q'.phase ≠ .recover := by rw [hq']; exact hr
  rw [← hs]
  simp only [driveReport, modSeq_setSeq, seq_setSeq, ← hq', setSeq_setSeq, if_neg hd, if_neg hr']

theorem driveReport_arrives {m : Motion} {p : Int} (hq : q = s.seq h)
    (hq' : q' = { q with lift := some x, travel := some y }) (hm : q.motion = some m)
    (hpos : q'.position m.axis = some p) (hd : q.phase ≠ .disabled) (hr : q.phase ≠ .recover) (hrest : rest = true)
    (hn : |m.target - p| ≤ 5) : driveReport h x y rest s = arrival h (setSeq h q' s) := by
  have hm' : q'.motion = some m := by rw [hq', ← hm]
  rw [driveReport_working hq hq' hd hr, if_pos ((Sequencer.arrives_iff hm' hpos rest).2 ⟨hrest, hn⟩)]

theorem driveReport_inFlight {m : Motion} {p : Int} (hq : q = s.seq h)
    (hq' : q' = { q with lift := some x, travel := some y }) (hm : q.motion = some m)
    (hpos : q'.position m.axis = some p) (hd : q.phase ≠ .disabled) (hr : q.phase ≠ .recover)
    (hno : rest = false ∨ 5 < |m.target - p|) : driveReport h x y rest s = setSeq h q' s := by
  have hm' : q'.motion = some m := by rw [hq', ← hm]
  rw [driveReport_working hq hq' hd hr, if_neg, issueKeptTravel_of_motion (by simp [hm'])]
  rw [Sequencer.arrives_iff hm' hpos]
  rintro ⟨hrest, hn⟩
  rcases hno with hno | hno
  · simp [hno] at hrest
  · omega

theorem driveReport_standing (hq : q = s.seq h) (hq' : q' = { q with lift := some x, travel := some y })
    (hd : q.phase ≠ .disabled) (hr : q.phase ≠ .recover) (hm : q.motion = none) :
    driveReport h x y rest s = issueKeptTravel h (setSeq h q' s) := by
  have hm' : q'.motion = none := by rw [hq', ← hm]
  rw [driveReport_working hq hq' hd hr, if_neg (by simp [Sequencer.arrives, hm'])]

end Report

end Sys2Proof.Machine
end

section
/-! PROOFS. What a drive report brings. -/

namespace Sys2Proof.Machine

section Report
variable {s : State} {id : Nat}

/-- The end of the dip of an admitted load, whose id has one record (R21, R118, R123). -/
theorem dipRecords_admitted {r : LoadRec} (hr : r.latched ≠ none) (hone : ∀ l ∈ s.records.loads, l.id = id → l = r) :
    dipRecords id s.records = { s.records with
      loads := s.records.loads.map (fun l =>
        if l.id = id then { l with state := .complete, hoist := none, span := none } else l)
      jigs := s.records.jigs.map (fun j => if j.carriedBy = some id then { j with carriedBy := none } else j) } := by
  rw [dipRecords]
  congr 1
  refine List.map_congr_left fun l hl => ?_
  by_cases hid : l.id = id
  · have hlat : l.latched ≠ none := by rwa [hone l hl hid]
    rw [if_neg (fun hc => hlat hc.2)]
  · rw [if_neg (fun hc => hid hc.1)]

end Report

end Sys2Proof.Machine

open Sys2Proof Sys2Proof.Machine

/-- Settles O50: the report of a hoist in recovery, of one whose motion it ends, and of one that stands. -/
theorem driveReportBringsTheArrival : Obligations.DriveReportBringsTheArrival := by
  refine ⟨fun h x y rest s q q' hq hq' => ⟨fun hp => driveReport_disabled (hq ▸ hp),
      fun m p hm hpos hd hr => ⟨driveReport_inFlight hq hq' hm hpos hd hr, fun hrest hn => ?_⟩,
      fun id c hp hl hc => ?_⟩,
    fun h id x y pc rest s ended q q' hq hq' hl hc hended => ⟨fun m p hm hpos hrest hn => ?_,
      fun hp hm hle hf => ?_, fun hp hrest hle ha => ?_⟩,
    fun h x y rest s q q' hq hq' => ⟨fun hm hp => ?_, fun m p hm hpos hrest hn => ?_⟩⟩
  · have hphase : q'.phase = q.phase := by rw [hq']
    have hload : q'.load = (s.seq h).load := by rw [hq', hq]
    rw [driveReport_arrives hq hq' hm hpos hd hr hrest hn]
    refine ⟨fun hp => arrival_travelIn (hphase.trans hp), fun l hp hlat hlead => ?_, fun l hp hlat hv => ?_,
      fun hp => arrival_jogging (hphase.trans hp), fun hp => arrival_raising (hphase.trans hp),
      fun id r hp hl hr hlat hone => ?_⟩
    · rw [arrival_entry (hphase.trans hp) hload hlat, sendSkimAtLead_not_due rfl]
      refine Or.inr fun n hn => ?_
      rw [seq_setSeq] at hn
      cases hn
      rwa [skimLead_setSeq]
    · rw [arrival_withdraw (hphase.trans hp), withdrawArrival_admitted (q := { q' with motion := none }) hload hlat,
        runDrain_on (v := l.vibrate) (d := l.drain) rfl rfl (Or.inl hv)]
      simp [hv]
    · rw [arrival_travelOut (id := id) (hphase.trans hp) (by rw [hq', ← hl]), dipEnded_setSeq,
        dipRecords_admitted hlat hone]
  · have hclear : q'.clear = decide (c ≤ x) := Sequencer.clear_eq (by rw [hq']) (by rw [hq']; exact hc)
    have hload : q'.load = (s.seq h).load := by rw [hq', hq]
    have hl' : q'.load = some id := by rw [hq', ← hl]
    have hlift : q'.lift = some x := by rw [hq']
    rw [driveReport_recover hq hq' hp, recoveryOutcome, seq_setSeq, hclear]
    refine ⟨fun hrest => by rw [hrest]; rfl, fun hrest hlt => ?_, fun hrest hle ha => ?_⟩
    · rw [if_pos hrest, if_neg (by simpa using hlt), recoverInBath_setSeq hl', hlift]
    · rw [if_pos hrest, if_pos (by simpa using hle), recoverClear_admitted hload hl' ha]
  · have hphase : q'.phase = q.phase := by rw [hq']
    have hload : q'.load = (s.seq h).load := by rw [hq', hq]
    have hl' : q'.load = some id := by rw [hq', ← hl]
    have hlift : q'.lift = some x := by rw [hq']
    have htravel : q'.travel = some y := by rw [hq']
    have hc' : q'.pClr = some pc := by rw [hq', ← hc]
    have arrives (hw : q.phase ≠ .disabled ∧ q.phase ≠ .recover) :
        driveReport h x y rest s = arrival h (setSeq h q' s) :=
      driveReport_arrives hq hq' hm hpos hw.1 hw.2 hrest hn
    refine ⟨fun hp ha => ?_, fun l hp hlat hv => ?_, fun v d hp hv hd => ?_, fun hp => ?_, fun hp => ?_⟩ <;>
      rw [arrives (by rw [hp]; decide)]
    · rw [arrival_withdraw (hphase.trans hp), withdrawArrival_neverAdmitted (q := { q' with motion := none }) hload ha]
      refine ⟨fun hlt => ?_, fun hle hf => ?_⟩
      · rw [beginTravelOut_kept (q := { q' with motion := none }) (Sequencer.not_clear_of_lt hlift hc' hlt)]
      · rw [beginTravelOut_far (q := { q' with motion := none }) (Sequencer.clear_of_le hlift hc' hle) htravel hf]
    · rw [arrival_withdraw (hphase.trans hp), withdrawArrival_admitted (q := { q' with motion := none }) hload hlat, hv]
      refine ⟨fun hd => ?_, fun hd => ?_⟩
      · rw [runDrain_on (v := 0) (d := l.drain) rfl rfl (Or.inr hd)]
        rfl
      · rw [hd, runDrain_ended rfl rfl]
    · have hv' : q'.vibrate = some v := by rw [hq', ← hv]
      have hd' : q'.drain = some d := by rw [hq', ← hd]
      rw [arrival_drain (hphase.trans hp)]
      refine ⟨fun hpos => ?_, fun hv0 hd0 => ?_⟩
      · rw [runDrain_on (q := { q' with motion := none }) (v := v) (d := d) (by rw [hv']; rfl) (by rw [hd']; rfl) hpos]
      · subst hv0 hd0
        rw [runDrain_ended (q := { q' with motion := none }) (by rw [hv']; rfl) (by rw [hd']; rfl)]
    · rw [arrival_weighOut (hphase.trans hp)]
    · rw [arrival_travelOut (hphase.trans hp) hl', dipEnded_setSeq, hended]
      cases h <;> rfl
  · have hclear := Sequencer.clear_of_le (q := q') (by rw [hq']) (by rw [hq']; exact hc) hle
    have hphase : q'.phase = .travelOut := by rw [hq', ← hp]
    rw [driveReport_standing hq hq' (by simp [hp]) (by simp [hp]) hm,
      issueKeptTravel_travelOut (by rw [hq', ← hm]) hclear hphase, beginTravelOut_far hclear (by rw [hq']) hf, ← hphase]
  · have hclear := Sequencer.clear_of_le (q := q') (by rw [hq']) (by rw [hq']; exact hc) hle
    have hload : q'.load = (s.seq h).load := by rw [hq', hq]
    rw [driveReport_recover hq hq' hp, if_pos hrest, recoveryOutcome, seq_setSeq, if_pos hclear,
      recoverClear_neverAdmitted hload ha]
    refine ⟨fun hno => ?_, fun hspan hf => ?_⟩
    · rw [hno, endDip_setSeq (id := id) (by rw [hq', ← hl]), hended]
      rfl
    · rw [if_pos (Option.isSome_iff_ne_none.2 hspan),
        beginTravelOut_far (q := { q' with recoverWait := none }) hclear (by rw [hq']) hf]
  · simp only [List.mem_cons, List.not_mem_nil, or_false, not_or] at hp
    have hphase : q'.phase = q.phase := by rw [hq']
    have hm' : q'.motion = none := by rw [hq', ← hm]
    have hlift : q'.lift = some x := by rw [hq']
    have htravel : q'.travel = some y := by rw [hq']
    have hpClr : q'.pClr = q.pClr := by rw [hq']
    rw [driveReport_standing hq hq' hp.1 hp.2 hm]
    refine ⟨fun hno => ?_, fun pc c hp hc hle hcen => ?_, fun pc id hp hc hle hl hn => ?_⟩
    · rcases hno with hno | hno
      · exact issueKeptTravel_elsewhere (hphase ▸ hno)
      · refine issueKeptTravel_of_not_clear ?_
        cases hpc : q.pClr with
        | none => simp [Sequencer.clear, hlift, hpClr, hpc]
        | some pc => exact Sequencer.not_clear_of_lt hlift (hpClr.trans hpc) (hno pc hpc)
    · have hclear := Sequencer.clear_of_le hlift (hpClr.trans hc) hle
      have hcen' : q'.centre = some c := by rw [hq', ← hcen]
      rw [issueKeptTravel_travelIn hm' hclear (hphase.trans hp)]
      refine ⟨fun hf => ?_, fun hn => ?_⟩
      · rw [beginTravelIn_far hclear hcen' htravel hf, ← hp, ← hphase]
      · rw [beginTravelIn_near hclear hcen' htravel hn, ← hm']
    · have hclear := Sequencer.clear_of_le hlift (hpClr.trans hc) hle
      rw [issueKeptTravel_travelOut hm' hclear (hphase.trans hp),
        beginTravelOut_near (id := id) hclear htravel (by rw [hq', ← hl]) hn, dipEnded_setSeq]
      rfl
  · have hphase : q'.phase = q.phase := by rw [hq']
    have hload : q'.load = (s.seq h).load := by rw [hq', hq]
    have arrives (hw : q.phase ≠ .disabled ∧ q.phase ≠ .recover) :
        driveReport h x y rest s = arrival h (setSeq h q' s) :=
      driveReport_arrives hq hq' hm hpos hw.1 hw.2 hrest hn
    refine ⟨fun l hp hlat => ?_, fun hp => ?_⟩
    · rw [arrives (by rw [hp]; decide), arrival_entry (hphase.trans hp) hload hlat]
    · rw [arrives (by rcases hp with hp | hp <;> rw [hp] <;> decide), arrival_inBath (hphase ▸ hp)]

end

section
/-! PROOFS. The dip cycle: RESUME's return to p_imm and p_clr, and the targets of JOG. -/

namespace Sys2Proof.Machine

section Withdrawal
variable {h : Hoist} {s : State} {x c : Int}

theorem latched_modCarried {f : LoadRec → LoadRec} (hid : ∀ r, (f r).id = r.id) (hl : ∀ r, (f r).latched = r.latched) :
    (modCarried h f s).latched h = s.latched h := by
  cases hload : (s.seq h).load with
  | none => simp only [modCarried, hload]
  | some id => rw [modCarried_eq hload, latched_withLoad hid hl]

/-- The end of the overdip count changes the count and its mark alone (R17). -/
theorem seq_stopOverdip (h : Hoist) (s : State) :
    ∃ o b, (stopOverdip h s).seq h = { s.seq h with overdip := o, overdipRaised := b } := by
  obtain ⟨b, compared⟩ : ∃ b, (compareOverdip h s).seq h = { s.seq h with overdipRaised := b } := by
    unfold compareOverdip exceedOverdip
    split
    next => exact ⟨true, by simp [raiseFor, modSeq, seq_modCarried]⟩
    next => exact ⟨_, rfl⟩
  rw [stopOverdip, writeOverdip]
  split
  next => exact ⟨none, b, by simp [modSeq, seq_modCarried, compared]⟩
  next => exact ⟨_, b, compared⟩

theorem seq_moving (axis : Axis) (t v p : Int) :
    ∃ m, (moving h axis t v p s).seq h = { s.seq h with motion := some m } := by
  unfold moving
  exact ⟨_, seq_setSeq _ _ _⟩

theorem phase_liftOut (hc : (s.seq h).pClr = some c) (hx : (s.seq h).lift = some x) (hf : 5 < |c - x|) :
    ((liftOut h s).seq h).phase = .withdraw := by
  have lifts := liftOut_far (q := s.seq h) rfl hc hx hf
  rw [setSeq_seq] at lifts
  obtain ⟨m, hm⟩ := seq_moving (h := h) (s := setSeq h { s.seq h with phase := .withdraw } s) .lift c
    (s.withdrawSpeed h) x
  rw [lifts, hm, seq_setSeq]

/-- A withdrawal from below p_clr is under way (R18). -/
theorem phase_startWithdraw (hc : (s.seq h).pClr = some c) (hx : (s.seq h).lift = some x) (hf : 5 < |c - x|) :
    ((startWithdraw h s).seq h).phase = .withdraw := by
  obtain ⟨o, b, hseq⟩ := seq_stopOverdip h s
  refine phase_liftOut (x := x) (c := c) ?_ ?_ hf
  · rw [seq_modCarried, hseq]
    exact hc
  · rw [seq_modCarried, hseq]
    exact hx

end Withdrawal

/-! ## Back to p_imm (R24) -/

section Return
variable {h : Hoist} {s : State} {x t : Int}

theorem Sequencer.standsAt_eq {q : Sequencer} (hx : q.lift = some x) :
    q.standsAt (some t) = decide (|t - x| ≤ 5) := by
  rw [Bool.eq_iff_iff, decide_eq_true_eq, ← near_iff]
  simp only [Sequencer.standsAt, hx]

theorem returnToImm_elsewhere (hp : (s.seq h).phase = .withdraw) : returnToImm h s = s := by
  rw [returnToImm, if_neg]
  simp [hp]

theorem returnToImm_near (hi : (s.seq h).pImm = some t) (hx : (s.seq h).lift = some x) (hn : |t - x| ≤ 5) :
    returnToImm h s = s := by
  rw [returnToImm, hi, Sequencer.standsAt_eq hx, if_neg]
  simp [hn]

theorem returnToImm_far (hp : (s.seq h).phase = .immerse ∨ (s.seq h).phase = .awaitSkim)
    (hi : (s.seq h).pImm = some t) (hx : (s.seq h).lift = some x) (hf : 5 < |t - x|) :
    returnToImm h s = moving h .lift t (s.entrySpeed h) x s := by
  have far := issueLift_far (h := h) (s := s) hx hf (s.entrySpeed h)
  rw [setSeq_seq] at far
  rw [returnToImm, hi, Sequencer.standsAt_eq hx, if_pos ⟨hp, by simpa using hf⟩, far]

theorem entrySpeed_congr {u : State} (hload : (u.seq h).load = (s.seq h).load) (hrec : u.records = s.records)
    (hset : u.settings = s.settings) : u.entrySpeed h = s.entrySpeed h := by
  rw [State.entrySpeed, State.entrySpeed, latched_congr hload hrec, State.raiseSpeed, State.raiseSpeed,
    setting_congr hset]

end Return

/-! ## The decision of RESUME (R15, R16, R24) -/

section Decision
variable {h : Hoist} {s : State} {q : Sequencer} {x c t : Int} {wait : Nat}

theorem skimmer_setSeq (k : Skimmer) : { setSeq h q s with skimmer := k } = setSeq h q { s with skimmer := k } := by
  cases h <;> rfl

theorem requestSkim_waits (due : Nat) (hm : s.skimmer.mode ≠ .outOfService) :
    ∃ queue, requestSkim h due (setSeq h q s) = startSweep (skimQueued h q queue s) := by
  simp only [requestSkim, modSeq_setSeq]
  split
  next hmode => exact absurd (by simpa using hmode) hm
  next =>
    have hskimmer : (setSeq h { q with skim := .waiting } s).skimmer = s.skimmer := by simp
    rw [skimmer_setSeq, hskimmer]
    exact ⟨_, rfl⟩

theorem askSkimAgain_waits (hm : s.skimmer.mode ≠ .outOfService) :
    ∃ queue, askSkimAgain h wait (setSeq h q s) = checkSkimWait h (startSweep
      (skimQueued h { q with phase := .awaitSkim, skimWait := some wait } queue s)) := by
  obtain ⟨queue, request⟩ := requestSkim_waits (h := h) (q := { q with phase := .awaitSkim, skimWait := some wait })
    (dueIn 0 (setSeq h q s)) hm
  refine ⟨queue, ?_⟩
  rw [askSkimAgain, modSeq_setSeq, request]
  exact if_neg (by rw [seq_startSweep, skimQueued, seq_setSeq]; simp)

/-- The new request of AWAIT_SKIM ends in the withdrawal, or the hoist waits, the records and settings as before. -/
theorem askSkimAgain_outcome (hc : (s.seq h).pClr = some c) (hx : (s.seq h).lift = some x) (hf : 5 < |c - x|) :
    ((askSkimAgain h wait s).seq h).phase = .withdraw ∨
      ((askSkimAgain h wait s).seq h = { s.seq h with phase := .awaitSkim, skimWait := some wait, skim := .waiting } ∧
        (askSkimAgain h wait s).records = s.records ∧ (askSkimAgain h wait s).settings = s.settings) := by
  by_cases hm : s.skimmer.mode = .outOfService
  · have asks := askSkimAgain_outOfService (h := h) (q := s.seq h) (wait := wait) hm
    rw [setSeq_seq] at asks
    refine Or.inl ?_
    rw [asks]
    exact phase_startWithdraw (by rw [seq_markMissed, seq_setSeq]; exact hc)
      (by rw [seq_markMissed, seq_setSeq]; exact hx) hf
  · obtain ⟨queue, asks⟩ := askSkimAgain_waits (h := h) (q := s.seq h) (wait := wait) hm
    rw [setSeq_seq] at asks
    rw [asks]
    generalize hu : startSweep (skimQueued h { s.seq h with phase := .awaitSkim, skimWait := some wait } queue s) = u
    have hseq : u.seq h = { s.seq h with phase := .awaitSkim, skimWait := some wait, skim := .waiting } := by
      rw [← hu, seq_startSweep, skimQueued, seq_setSeq]
    have hrec : u.records = s.records := by rw [← hu]; simp [skimQueued]
    have hset : u.settings = s.settings := by rw [← hu]; simp [skimQueued]
    by_cases hle : u.skimWaitLimit ≤ wait
    · refine Or.inl ?_
      rw [checkSkimWait_awaitSkim (n := wait) (by rw [hseq]) (by rw [hseq]) hle (by rw [hseq])]
      refine phase_startWithdraw (x := x) (c := c) ?_ ?_ hf
      · rw [seq_withdrawSkim, seq_markMissed, hseq]
        exact hc
      · rw [seq_withdrawSkim, seq_markMissed, hseq]
        exact hx
    · refine Or.inr ?_
      rw [checkSkimWait_below]
      · exact ⟨hseq, hrec, hset⟩
      · intro n hn
        rw [hseq] at hn
        cases hn
        omega

/-- A hoist that waits with its lift off p_imm goes back there (R24). -/
theorem returnToImm_askSkimAgain (hc : (s.seq h).pClr = some c) (hx : (s.seq h).lift = some x) (hf : 5 < |c - x|)
    (hi : (s.seq h).pImm = some t) :
    (|t - x| ≤ 5 ∨ ((askSkimAgain h wait s).seq h).phase = .withdraw →
      returnToImm h (askSkimAgain h wait s) = askSkimAgain h wait s) ∧
    (5 < |t - x| → ((askSkimAgain h wait s).seq h).phase = .awaitSkim →
      returnToImm h (askSkimAgain h wait s) = moving h .lift t (s.entrySpeed h) x (askSkimAgain h wait s)) := by
  rcases askSkimAgain_outcome (wait := wait) hc hx hf with hp | ⟨hseq, hrec, hset⟩
  · refine ⟨fun _ => returnToImm_elsewhere hp, fun _ hp' => ?_⟩
    rw [hp] at hp'
    cases hp'
  · have hi' : ((askSkimAgain h wait s).seq h).pImm = some t := by rw [hseq]; exact hi
    have hx' : ((askSkimAgain h wait s).seq h).lift = some x := by rw [hseq]; exact hx
    refine ⟨fun hn => ?_, fun hfar hp => ?_⟩
    · rcases hn with hn | hp
      · exact returnToImm_near hi' hx' hn
      · exact returnToImm_elsewhere hp
    · rw [returnToImm_far (Or.inr hp) hi' hx' hfar, entrySpeed_congr (s := s) (by rw [hseq]) hrec hset]

theorem returnToImm_startWithdraw (hc : (s.seq h).pClr = some c) (hx : (s.seq h).lift = some x) (hf : 5 < |c - x|) :
    returnToImm h (startWithdraw h s) = startWithdraw h s :=
  returnToImm_elsewhere (phase_startWithdraw hc hx hf)

end Decision

/-! ## RESUME and JOG at their owner (R24, R25) -/

section Requests
variable {h : Hoist} {s : State} {q : Sequencer} {p : Phase} {x y d lo c : Int}

theorem resume_held (hq : q = s.seq h) (hp : q.phase = .held) (hh : q.heldPhase = some p) (hx : q.lift = some x)
    (hy : q.travel = some y) : resume h.byte s = taken (endEvent (takeUp h p s)) := by
  simp [resume, onHoist, ← hq, hp, hh, hx, hy]

/-- RESUME of a hoist in whose held phase the work is `t`. -/
theorem taken_resume {t : State} (hl : s.listening = true) (hq : q = s.seq h) (hp : q.phase = .held)
    (hh : q.heldPhase = some p) (hx : q.lift = some x) (hy : q.travel = some y) (ht : takeUp h p s = t) :
    Taken (.resume h.byte) 0x22 .empty s (endEvent t) :=
  taken_of rfl hl (by rw [resume_held hq hp hh hx hy, ht])

theorem resume_unknown (hp : (s.seq h).phase = .held) (hno : (s.seq h).lift = none ∨ (s.seq h).travel = none) :
    resume h.byte s = refuse .state s := by
  rcases hno with hno | hno <;> simp [resume, onHoist, hp, hno]

theorem jog_range {n : Nat} (hd : d = 0 ∨ d < -500 ∨ 500 < d) : jog n d s = refuse .range s := by
  have hbad : d = 0 ∨ inRange (-500) 500 d = false := by
    refine hd.imp_right fun hd => ?_
    simp only [inRange, Bool.and_eq_false_iff, decide_eq_false_iff_not]
    omega
  rw [jog]
  cases hn : hoistOf n with
  | none => simp [onHoist, hn]
  | some h => simp [hbad]

theorem jog_held (hp : (s.seq h).phase = .held) (h0 : d ≠ 0) (hlo : -500 ≤ d) (hhi : d ≤ 500)
    (hx : (s.seq h).lift = some x) : jog h.byte d s = taken (endEvent (jogTo h (jogTarget h x d s) s)) := by
  simp [jog, onHoist, hp, h0, inRange_jog hlo hhi, hx]

theorem jog_unknown (hp : (s.seq h).phase = .held) (h0 : d ≠ 0) (hlo : -500 ≤ d) (hhi : d ≤ 500)
    (hx : (s.seq h).lift = none) : jog h.byte d s = refuse .state s := by
  simp [jog, onHoist, hp, h0, inRange_jog hlo hhi, hx]

/-- The lower bound of a jog: p_imm for an admitted load with its span, else p_clr (R25). -/
theorem jogLow_eq (hc : (s.seq h).pClr = some c)
    (hlo : (s.admitted h = true ∧ (s.arbiter.spanOf (.hoist h)).isSome = true ∧ (s.seq h).pImm = some lo) ∨
      ((s.admitted h = false ∨ s.arbiter.spanOf (.hoist h) = none) ∧ lo = c)) : jogLow h s = lo := by
  rcases hlo with ⟨ha, hspan, hi⟩ | ⟨ha | hspan, rfl⟩
  · simp [jogLow, ha, hspan, hi]
  · simp [jogLow, ha, hc]
  · simp [jogLow, hspan, hc]

theorem jogTo_near {t : Int} (hx : q.lift = some x) (hn : |t - x| ≤ 5) :
    jogTo h t (setSeq h q s) = setSeq h { q with holdTimer := none } s := by
  rw [jogTo, modSeq_setSeq]
  exact if_pos (by rw [seq_setSeq, Sequencer.standsAt_eq (q := { q with holdTimer := none }) hx]; simpa using hn)

theorem jogTo_far {t : Int} (hx : q.lift = some x) (hf : 5 < |t - x|) :
    jogTo h t (setSeq h q s) =
      moving h .lift t (s.setting 15) x (setSeq h { q with holdTimer := none, phase := .jogging } s) := by
  have hspeed : (setSeq h { q with holdTimer := none } s).jogSpeed = s.setting 15 := by cases h <;> rfl
  have far := issueMotion_far (h := h) (s := s) (q := { q with holdTimer := none, phase := .jogging }) (axis := .lift)
    hx hf (s.setting 15)
  have hno : ¬ (((setSeq h { q with holdTimer := none } s).seq h).standsAt (some t)) = true := by
    rw [seq_setSeq, Sequencer.standsAt_eq (q := { q with holdTimer := none }) hx]
    simpa using hf
  rw [jogTo, modSeq_setSeq]
  change (if _ then _ else _) = _
  rw [if_neg hno, hspeed, setPhase_setSeq, far]

end Requests

end Sys2Proof.Machine
end

section
/-! PROOFS. RESUME and JOG. -/

namespace Sys2Proof.Machine

/-- The items of a hoist whose held phase is taken up again (R24, R28). -/
def Sequencer.takenUp (q : Sequencer) (p : Phase) : Sequencer :=
  { q with phase := p, heldPhase := none, holdTimer := none }

section TakeUp
variable {h : Hoist} {p : Phase} {s s' : State} {q : Sequencer} {x y c t pc pi : Int} {id : Nat}

theorem takenUp_state (hq : q = s.seq h) :
    modSeq h (fun q => { q with phase := p, heldPhase := none, holdTimer := none }) s = setSeq h (q.takenUp p) s := by
  rw [hq]
  rfl

/-- RESUME into TRAVEL_IN, or into AWAIT_SPAN where the span has been granted (R10, R24). -/
theorem takeUp_travelIn (hmod : modSeq h (fun q => { q with phase := p, heldPhase := none, holdTimer := none }) s = s')
    (hp : p = .travelIn ∨ (p = .awaitSpan ∧ (s.arbiter.spanOf (.hoist h)).isSome = true)) :
    takeUp h p s = beginTravelIn h s' := by
  rcases hp with hp | ⟨hp, hspan⟩
  · subst hp
    simp only [takeUp, hmod]
  · subst hp
    have hspan' : (s'.arbiter.spanOf (.hoist h)).isSome = true := by rw [← hmod]; simpa [modSeq] using hspan
    simp only [takeUp, hmod, hspan', if_true]

/-! ## WITHDRAW (R18) -/

/-- A withdraw time already written is kept (R18, R32). -/
theorem resumeWithdraw_far (hp : q.phase = .withdraw) (hq : q.load = (s.seq h).load) (hc : q.pClr = some c)
    (hx : q.lift = some x) (hf : 5 < |c - x|) :
    resumeWithdraw h (setSeq h q s) = moving h .lift c (s.withdrawSpeed h) x
      (modCarried h (fun r => { r with withdrawTime := some (r.withdrawTime.getD s.link.clock) }) (setSeq h q s)) := by
  have hclock : (setSeq h q s).clock = s.link.clock := by cases h <;> rfl
  rw [resumeWithdraw, hclock]
  generalize hu : modCarried h (fun r => { r with withdrawTime := some (r.withdrawTime.getD s.link.clock) })
    (setSeq h q s) = u
  have hseq : u.seq h = q := by rw [← hu, seq_modCarried, seq_setSeq]
  have hspeed : u.withdrawSpeed h = s.withdrawSpeed h := by
    have hset : u.settings = s.settings := by rw [← hu]; simp
    have hlat : u.latched h = s.latched h := by
      rw [← hu, latched_modCarried, latched_setSeq hq]
      · exact fun _ => rfl
      · exact fun _ => rfl
    rw [State.withdrawSpeed, hlat, State.withdrawSpeed, State.raiseSpeed, State.raiseSpeed, setting_congr hset]
  have lifts := liftOut_far (h := h) (q := q) (s := u) (by rw [hseq]) hc hx hf
  have hsame : setSeq h { q with phase := .withdraw } u = u := by rw [← hp, ← hseq, setSeq_seq]
  rw [show setSeq h q u = u by rw [← hseq, setSeq_seq], hsame, hspeed] at lifts
  exact lifts

/-- At p_clr it has arrived (R4, R18). -/
theorem resumeWithdraw_near (hl : q.load = some id) (hq : q.load = (s.seq h).load) (hc : q.pClr = some c)
    (hx : q.lift = some x) (hn : |c - x| ≤ 5) :
    resumeWithdraw h (setSeq h q s) = withdrawArrival h (setSeq h { q with phase := .withdraw, motion := none }
      (withLoad id (fun r => { r with withdrawTime := some (r.withdrawTime.getD s.link.clock) }) s)) := by
  have hclock : (setSeq h q s).clock = s.link.clock := by cases h <;> rfl
  rw [resumeWithdraw, hclock, modCarried_setSeq hl, liftOut_near (by rw [seq_withLoad, hq]) hc hx hn]

/-! ## IMMERSE and AWAIT_SKIM (R15, R24) -/

theorem resumeImmerse_counting {n : Nat} (hn : (s.seq h).countdown = some (n + 1)) : resumeImmerse h s = s := by
  simp [resumeImmerse, hn]

/-- With the countdown at 0 the overdip count starts where it has not yet, and the decision is made (R15, R17). -/
theorem resumeImmerse_zero (hq : q.countdown = some 0) :
    resumeImmerse h (setSeq h q s) = endDecision h (setSeq h
      { q with overdip := some (q.overdip.getD 0),
               skimWait := if q.overdip = none ∧ q.skim = .waiting then some 0 else q.skimWait } s) := by
  rw [resumeImmerse, if_pos (by rw [seq_setSeq, hq]), seq_setSeq]
  rcases ho : q.overdip with _ | n
  · change endDecision h (startOverdip h (setSeq h q s)) = _
    rw [startOverdip_setSeq]
    simp
  · have hitems : { q with overdip := some n } = q := by rw [← ho]
    change endDecision h (setSeq h q s) = endDecision h (setSeq h { q with overdip := some n } s)
    rw [hitems]

/-- RESUME into the decision, of a hoist that waits for a skim or whose countdown stands at 0. -/
theorem takeUp_decides {u : State}
    (hmod : modSeq h (fun q => { q with phase := p, heldPhase := none, holdTimer := none }) s = s')
    (hs' : s' = setSeq h (q.takenUp p) s)
    (hp : (p = .awaitSkim ∧ u = s') ∨ (p = .immerse ∧ q.countdown = some 0 ∧ u = setSeq h { s'.seq h with
      overdip := some (q.overdip.getD 0)
      skimWait := if q.overdip = none ∧ q.skim = .waiting then some 0 else q.skimWait } s)) :
    ∃ o w, u = setSeq h { q.takenUp p with overdip := o, skimWait := w } s ∧ (q.skim = .none → w = q.skimWait) ∧
      takeUp h p s = returnToImm h (endDecision h u) := by
  rcases hp with ⟨hp, hu⟩ | ⟨hp, hc, hu⟩
  · subst hp
    refine ⟨q.overdip, q.skimWait, by rw [hu, hs']; rfl, fun _ => rfl, ?_⟩
    simp only [takeUp, hmod, hu]
  · subst hp
    rw [hs', seq_setSeq] at hu
    refine ⟨_, _, hu, fun hk => by simp [hk], ?_⟩
    simp only [takeUp, hmod]
    rw [hs', resumeImmerse_zero (q := q.takenUp .immerse) hc, hu]
    rfl

/-- A missed skim, or one done no more than 60 s ago, withdraws the load (R15). -/
theorem resumeDecision_withdraws (hk : (s.seq h).skim = .missed ∨
      ∃ t, (s.seq h).skim = .done t ∧ t ≤ s.link.clock ∧ s.link.clock < 4294967296 ∧ s.link.clock ≤ t + 60)
    (hc : (s.seq h).pClr = some c) (hx : (s.seq h).lift = some x) (hf : 5 < |c - x|) :
    returnToImm h (endDecision h s) = startWithdraw h s := by
  rcases hk with hk | ⟨t, hk, hle, hlt, hfresh⟩
  · rw [endDecision_missed hk, returnToImm_startWithdraw hc hx hf]
  · rw [endDecision_fresh hk hle hlt hfresh, returnToImm_startWithdraw hc hx hf]

/-- A skim that is waited for: the hoist waits at p_imm, going first back there (R15, R24). -/
theorem resumeDecision_waits {n : Nat} (hq : q.load = (s.seq h).load) (hk : q.skim = .waiting)
    (hn : n = q.skimWait.getD 0) (hlt : n < s.skimWaitLimit) (hi : q.pImm = some t) (hx : q.lift = some x) :
    (|t - x| ≤ 5 → returnToImm h (endDecision h (setSeq h q s)) =
      setSeq h { q with phase := .awaitSkim, skimWait := some n } s) ∧
    (5 < |t - x| → returnToImm h (endDecision h (setSeq h q s)) =
      moving h .lift t (s.entrySpeed h) x (setSeq h { q with phase := .awaitSkim, skimWait := some n } s)) := by
  have hi' : ((setSeq h { q with phase := .awaitSkim, skimWait := some n } s).seq h).pImm = some t := by
    rw [seq_setSeq]; exact hi
  have hx' : ((setSeq h { q with phase := .awaitSkim, skimWait := some n } s).seq h).lift = some x := by
    rw [seq_setSeq]; exact hx
  rw [endDecision_waits hk hn hlt]
  refine ⟨fun hnear => returnToImm_near hi' hx' hnear, fun hfar => ?_⟩
  rw [returnToImm_far (Or.inr (by rw [seq_setSeq])) hi' hx' hfar,
    entrySpeed_setSeq (q := { q with phase := .awaitSkim, skimWait := some n }) hq]

/-- A wait at its limit is missed, and the load withdraws (R16). -/
theorem resumeDecision_expires {n : Nat} (hk : q.skim = .waiting) (hn : n = q.skimWait.getD 0)
    (hle : s.skimWaitLimit ≤ n) (hc : q.pClr = some c) (hx : q.lift = some x) (hf : 5 < |c - x|) :
    returnToImm h (endDecision h (setSeq h q s)) = startWithdraw h (withdrawSkim h (markMissed h
      (setSeq h { q with phase := .awaitSkim, skimWait := some n } s))) := by
  rw [endDecision_expires hk hn hle, returnToImm_startWithdraw (x := x) (c := c) ?_ ?_ hf]
  · rw [seq_withdrawSkim, seq_markMissed, seq_setSeq]
    exact hc
  · rw [seq_withdrawSkim, seq_markMissed, seq_setSeq]
    exact hx

/-- No skim, or one done more than 60 s ago, is asked for again (R15). -/
theorem endDecision_asks {wait : Nat} (hk : ((s.seq h).skim = .none ∧ wait = (s.seq h).skimWait.getD 0) ∨
      ∃ t, (s.seq h).skim = .done t ∧ t + 60 < s.link.clock ∧ s.link.clock < 4294967296 ∧ wait = 0) :
    endDecision h s = askSkimAgain h wait s := by
  rcases hk with ⟨hk, hw⟩ | ⟨t, hk, hstale, hlt, hw⟩
  · rw [endDecision_none hk, hw]
  · rw [endDecision_stale hk hlt hstale, hw]

/-! ## DRAIN and WEIGH_OUT (R19, R20) -/

theorem resumeWeighOut_near (hc : q.pClr = some c) (hx : q.lift = some x) (hn : |c - x| ≤ 5) :
    resumeWeighOut h (setSeq h q s) = enterWeighOut h (setSeq h q s) := by
  rw [resumeWeighOut, seq_setSeq, hc, Sequencer.standsAt_eq hx, if_pos (by simpa using hn)]

theorem resumeWeighOut_far (hq : q.load = (s.seq h).load) (hc : q.pClr = some c) (hx : q.lift = some x)
    (hf : 5 < |c - x|) :
    resumeWeighOut h (setSeq h q s) = moving h .lift c (s.withdrawSpeed h) x (setSeq h q s) := by
  rw [resumeWeighOut, seq_setSeq, hc, Sequencer.standsAt_eq hx, if_neg (by simpa using hf), withdrawSpeed_setSeq hq,
    issueLift_far hx hf]

/-- The countdowns go on from where they stood, or from the latched seconds (R19, log entry 43). -/
def Sequencer.draining (q : Sequencer) (l : Latched) : Sequencer :=
  { q with vibrate := some (q.vibrate.getD l.vibrate), drain := some (q.drain.getD l.drain) }

theorem resumeDrain_admitted {l : Latched} (hq : q.load = (s.seq h).load) (hl : s.latched h = some l)
    (hc : q.pClr = some c) (hx : q.lift = some x) :
    resumeDrain h (setSeq h q s) =
      if |c - x| ≤ 5 then runDrain h (setSeq h (q.draining l) s)
      else moving h .lift c (l.withdrawSpeed : Int) x (setSeq h (q.draining l) s) := by
  have hspeed : (setSeq h (q.draining l) s).withdrawSpeed h = l.withdrawSpeed := by
    rw [withdrawSpeed_setSeq (q := q.draining l) hq, State.withdrawSpeed, hl]
    rfl
  have hstands : ((setSeq h (q.draining l) s).seq h).standsAt ((setSeq h (q.draining l) s).seq h).pClr =
      decide (|c - x| ≤ 5) := by
    rw [seq_setSeq, show (q.draining l).pClr = some c from hc, Sequencer.standsAt_eq (q := q.draining l) hx]
  rw [resumeDrain, if_pos ((admitted_setSeq hq).trans (by rw [hl]; rfl)), latched_setSeq hq, hl, modSeq_setSeq]
  change (if ((setSeq h (q.draining l) s).seq h).standsAt ((setSeq h (q.draining l) s).seq h).pClr = true then _
    else (issueLift h ((setSeq h (q.draining l) s).seq h).pClr ((setSeq h (q.draining l) s).withdrawSpeed h) _).1) = _
  rw [hstands, hspeed]
  simp only [decide_eq_true_eq]
  split
  next => rfl
  next hno =>
    have far := issueLift_far (h := h) (q := q.draining l) (s := s) hx (not_le.1 hno) (l.withdrawSpeed : Int)
    have hc' : ((setSeq h (q.draining l) s).seq h).pClr = some c := by rw [seq_setSeq]; exact hc
    rw [hc']
    exact congrArg Prod.fst far

theorem resumeDrain_neverAdmitted (hq : q.load = (s.seq h).load) (hl : s.latched h = none) :
    resumeDrain h (setSeq h q s) = beginTravelOut h (setSeq h q s) := by
  have hadm : (setSeq h q s).admitted h = false := by rw [admitted_setSeq hq, hl]; rfl
  rw [resumeDrain, hadm]
  rfl

end TakeUp

end Sys2Proof.Machine

open Sys2Proof Sys2Proof.Machine

/-- Settles O30: RESUME by the held phase, at a distance and at hand, and the bounds of a jog. -/
theorem resumeAndJogOfAHeldHoist : Obligations.ResumeAndJogOfAHeldHoist := by
  refine ⟨fun h p s s' x y q hq hl hp hh hx hy hs' => ?_, fun h p s s' x y pc id q hq hl hp hh hx hy hc hload hs' => ?_,
    fun h s q hq hl => ⟨fun n d hd _ => refused_of rfl hl (jog_range hd),
      fun hp hno => refused_of rfl hl (resume_unknown (hq ▸ hp) (hq ▸ hno)),
      fun d hp hx h0 hlo hhi => refused_of rfl hl (jog_unknown (hq ▸ hp) h0 hlo hhi (hq ▸ hx)),
      fun d x c lo t hp hx hc h0 hlo hhi hlow ht => ?_⟩,
    fun h p s s' x y pc pi q hq hl hp hh hx hy hc hi hs' => ?_⟩
  · have hs' : s' = setSeq h (q.takenUp p) s := hs'
    have hmod := (takenUp_state (p := p) hq).trans hs'.symm
    have hload : (q.takenUp p).load = (s.seq h).load := by rw [hq]; rfl
    have takes {t : State} (ht : takeUp h p s = t) : Taken (.resume h.byte) 0x22 .empty s (endEvent t) :=
      taken_resume hl hq hp hh hx hy ht
    refine ⟨fun hk => ?_, fun hk hspan => ?_, fun c pc hk hcen hc hle hf => ?_, fun hk => ?_, fun t hk hi hf => ?_,
      fun n t hk hcount hi => ?_, fun t hk hc hf => ?_, fun t hk hc hn => ?_,
      fun pc hk hc hle hf => ?_, fun t hk hc hf => ?_⟩
    · subst hk
      exact takes (by simp only [takeUp, hmod])
    · subst hk
      have hspan' : s'.arbiter.spanOf (.hoist h) = none := by rw [hs']; simpa using hspan
      refine takes ?_
      simp only [takeUp, hmod, hspan', Option.isSome_none, Bool.false_eq_true, if_false]
    · refine takes ?_
      rw [takeUp_travelIn hmod hk, hs', seq_setSeq,
        beginTravelIn_far (q := q.takenUp p) (Sequencer.clear_of_le hx hc hle) hcen hy hf]
    · subst hk
      exact takes (by simp only [takeUp, hmod])
    · subst hk
      refine takes ?_
      simp only [takeUp, hmod]
      rw [hs', beginEntry_far (q := q.takenUp .entry) hload hi hx hf]
      rfl
    · subst hk
      have hup : takeUp h .immerse s = returnToImm h s' := by
        simp only [takeUp, hmod]
        rw [resumeImmerse_counting (n := n) (by rw [hs', seq_setSeq]; exact hcount)]
      have hi' : (s'.seq h).pImm = some t := by rw [hs', seq_setSeq]; exact hi
      have hx' : (s'.seq h).lift = some x := by rw [hs', seq_setSeq]; exact hx
      refine ⟨fun hn => takes ?_, fun hf => takes ?_⟩
      · rw [hup, returnToImm_near hi' hx' hn]
      · rw [hup, returnToImm_far (Or.inl (by rw [hs', seq_setSeq]; rfl)) hi' hx' hf, hs',
          entrySpeed_setSeq (q := q.takenUp .immerse) hload]
    · subst hk
      refine takes ?_
      simp only [takeUp, hmod]
      rw [hs', resumeWithdraw_far (q := q.takenUp .withdraw) rfl hload hc hx hf]
    · subst hk
      refine takes ?_
      simp only [takeUp, hmod]
      rw [hs', resumeWeighOut_near (q := q.takenUp .weighOut) hc hx hn]
    · subst hk
      refine takes ?_
      simp only [takeUp, hmod]
      rw [hs', beginTravelOut_far (q := q.takenUp .travelOut) (Sequencer.clear_of_le hx hc hle) hy hf]
      rfl
    · subst hk
      refine takes ?_
      simp only [takeUp, hmod]
      rw [hs', liftRaise_far (q := q.takenUp .raising) hc hx hf]
      rfl
  · have hs' : s' = setSeq h (q.takenUp p) s := hs'
    have hmod := (takenUp_state (p := p) hq).trans hs'.symm
    have hload' : (q.takenUp p).load = (s.seq h).load := by rw [hq]; rfl
    have takes {t : State} (ht : takeUp h p s = t) : Taken (.resume h.byte) 0x22 .empty s (endEvent t) :=
      taken_resume hl hq hp hh hx hy ht
    refine ⟨fun c hk hcen hle hn => ?_, fun l t hk hi hn hlat => ?_, fun u hk hn hu => ?_, fun hk hle hn => ?_,
      fun hk hn => ?_⟩
    · refine takes ?_
      rw [takeUp_travelIn hmod hk, hs', seq_setSeq,
        beginTravelIn_near (q := q.takenUp p) (Sequencer.clear_of_le hx hc hle) hcen hy hn]
    · subst hk
      refine takes ?_
      simp only [takeUp, hmod]
      rw [hs', seq_setSeq, beginEntry_near (q := q.takenUp .entry) hload' hi hx hlat hn]
    · subst hk
      have hup : takeUp h .withdraw s = withdrawArrival h (setSeq h { s'.seq h with motion := none } u) := by
        simp only [takeUp, hmod]
        rw [hs', seq_setSeq, hu, resumeWithdraw_near (q := q.takenUp .withdraw) hload hload' hc hx hn]
        rfl
      have hseq : s'.seq h = q.takenUp .withdraw := by rw [hs', seq_setSeq]
      have huload : (q.takenUp .withdraw).load = (u.seq h).load := by rw [hu, seq_withLoad]; exact hload'
      have hulat : u.latched h = s.latched h := by
        rw [hu, latched_withLoad]
        · exact fun _ => rfl
        · exact fun _ => rfl
      have hustation : u.stationPosition h = s.stationPosition h := by rw [hu]; cases h <;> rfl
      have huspeed : u.setting 13 = s.setting 13 := by rw [hu]; rfl
      rw [hseq] at hup ⊢
      refine ⟨fun l w hlat hw => ?_, fun hlat hle hf => ?_, fun hlat hlt => ?_⟩
      · have drains : takeUp h .withdraw s = runDrain h w := by
          rw [hup, withdrawArrival_admitted (q := { q.takenUp .withdraw with motion := none }) huload
            (hulat.trans hlat), hw]
        refine ⟨fun hpos => takes ?_, fun hv hd => takes ?_⟩
        · rw [drains, hw, runDrain_on (v := l.vibrate) (d := l.drain) rfl rfl hpos, seq_setSeq, setSeq_setSeq]
        · rw [drains, hw, runDrain_ended (by rw [hv]; rfl) (by rw [hd]; rfl)]
      · refine takes ?_
        rw [hup, withdrawArrival_neverAdmitted (q := { q.takenUp .withdraw with motion := none }) huload
            (hulat.trans hlat),
          beginTravelOut_far (q := { q.takenUp .withdraw with motion := none }) (Sequencer.clear_of_le hx hc hle) hy
            (hustation ▸ hf), hustation, huspeed]
      · refine takes ?_
        rw [hup, withdrawArrival_neverAdmitted (q := { q.takenUp .withdraw with motion := none }) huload
            (hulat.trans hlat),
          beginTravelOut_kept (q := { q.takenUp .withdraw with motion := none }) (Sequencer.not_clear_of_lt hx hc hlt)]
    · subst hk
      refine takes ?_
      simp only [takeUp, hmod]
      rw [hs', beginTravelOut_near (q := q.takenUp .travelOut) (Sequencer.clear_of_le hx hc hle) hy hload hn,
        dipEnded_setSeq]
      rfl
    · subst hk
      refine takes ?_
      simp only [takeUp, hmod]
      rw [hs', seq_setSeq, liftRaise_near (q := q.takenUp .raising) hc hx hn]
  · have hs : setSeq h q s = s := by rw [hq, setSeq_seq]
    have target : jogTarget h x d s = t := by
      rw [jogTarget, jogLow_eq (hq ▸ hc) (hq ▸ hlow), ← hq, hc, ht]
      rfl
    have jogs : jog h.byte d s = taken (endEvent (jogTo h t s)) := by
      rw [jog_held (hq ▸ hp) h0 hlo hhi (hq ▸ hx), target]
    refine ⟨fun hn => taken_of rfl hl ?_, fun hf => taken_of rfl hl ?_⟩
    · have near := jogTo_near (h := h) (s := s) hx hn
      rw [hs] at near
      rw [jogs, near]
    · have far := jogTo_far (h := h) (s := s) hx hf
      rw [hs] at far
      rw [jogs, far]
  · have hs' : s' = setSeq h (q.takenUp p) s := hs'
    have hmod := (takenUp_state (p := p) hq).trans hs'.symm
    have hload : (q.takenUp p).load = (s.seq h).load := by rw [hq]; rfl
    have takes {t : State} (ht : takeUp h p s = t) : Taken (.resume h.byte) 0x22 .empty s (endEvent t) :=
      taken_resume hl hq hp hh hx hy ht
    refine ⟨fun l v d u hk hlat hv hd hu => ?_, fun hk hlat hle hf => ?_, fun hk hf => ?_, fun u hf hu => ?_⟩
    · subst hk
      have hu : u = setSeq h ((q.takenUp .drain).draining l) s := by
        rw [hu, hs', seq_setSeq, hv, hd]
        rfl
      have drains : takeUp h .drain s =
          if |pc - x| ≤ 5 then runDrain h u else moving h .lift pc (l.withdrawSpeed : Int) x u := by
        simp only [takeUp, hmod]
        rw [hs', resumeDrain_admitted (q := q.takenUp .drain) hload hlat hc hx, hu]
      have hv' : ((q.takenUp .drain).draining l).vibrate.getD 0 = v := hv.symm
      have hd' : ((q.takenUp .drain).draining l).drain.getD 0 = d := hd.symm
      refine ⟨fun hn hpos => takes ?_, fun hn hv0 hd0 => takes ?_, fun hf => takes ?_⟩
      · rw [drains, if_pos hn, hu, runDrain_on hv' hd' hpos, seq_setSeq]
      · rw [drains, if_pos hn, hu, runDrain_ended (hv'.trans hv0) (hd'.trans hd0)]
      · rw [drains, if_neg (not_le.2 hf)]
    · subst hk
      refine takes ?_
      simp only [takeUp, hmod]
      rw [hs', seq_setSeq, resumeDrain_neverAdmitted (q := q.takenUp .drain) hload hlat,
        beginTravelOut_far (q := q.takenUp .drain) (Sequencer.clear_of_le hx hc hle) hy hf]
    · subst hk
      refine takes ?_
      simp only [takeUp, hmod]
      rw [hs', resumeWeighOut_far (q := q.takenUp .weighOut) hload hc hx hf]
    · obtain ⟨o, w, hu, hwait, decides⟩ := takeUp_decides hmod hs' hu
      have hseq : u.seq h = { q.takenUp p with overdip := o, skimWait := w } := by rw [hu, seq_setSeq]
      have hclock : u.link.clock = s.link.clock := by rw [hu]; cases h <;> rfl
      have hskim : (u.seq h).skim = q.skim := by rw [hseq]; rfl
      have hux : (u.seq h).lift = some x := by rw [hseq]; exact hx
      have huc : (u.seq h).pClr = some pc := by rw [hseq]; exact hc
      have hui : (u.seq h).pImm = some pi := by rw [hseq]; exact hi
      have huspeed : u.entrySpeed h = s.entrySpeed h := by
        rw [hu, entrySpeed_setSeq (q := { q.takenUp p with overdip := o, skimWait := w }) hload]
      have waitOf (hk : q.skim = .none) : (u.seq h).skimWait = q.skimWait := by rw [hseq]; exact hwait hk
      refine ⟨fun hk => takes ?_, fun n hk hn hlt => ?_, fun n hk hn hle => takes ?_, fun hk hn => takes ?_,
        fun wait v hk hv => ?_⟩
      · rw [← hskim, ← hclock] at hk
        rw [decides, resumeDecision_withdraws hk huc hux hf]
      · rw [hseq] at hn ⊢
        obtain ⟨near, far⟩ := resumeDecision_waits (h := h) (s := s)
          (q := { q.takenUp p with overdip := o, skimWait := w }) hload hk hn hlt hi hx
        rw [← hu] at near far
        exact ⟨fun hn => takes (by rw [decides, near hn]), fun hfar => takes (by rw [decides, far hfar])⟩
      · rw [hseq] at hn ⊢
        have expires := resumeDecision_expires (h := h) (s := s)
          (q := { q.takenUp p with overdip := o, skimWait := w }) hk hn hle hc hx hf
        rw [← hu] at expires
        rw [decides, expires]
      · obtain ⟨stays, -⟩ := returnToImm_askSkimAgain (wait := q.skimWait.getD 0) huc hux hf hui
        rw [decides, endDecision_asks (Or.inl ⟨hskim.trans hk, by rw [waitOf hk]⟩), stays (Or.inl hn)]
      · have asks : endDecision h u = v := by
          rw [hv]
          refine endDecision_asks (hk.imp (fun ⟨hk, hw⟩ => ⟨hskim.trans hk, by rw [waitOf hk, hw]⟩) ?_)
          rw [hskim, hclock]
          exact id
        obtain ⟨stays, returns⟩ := returnToImm_askSkimAgain (wait := wait) huc hux hf hui
        rw [← hv] at stays returns
        exact ⟨fun hn => takes (by rw [decides, asks, stays hn]),
          fun hfar hp => takes (by rw [decides, asks, returns hfar hp, huspeed])⟩

end

section
/-! PROOFS. The settings and class records: which commands write them, and that every write keeps their ranges (R34,
R35, R159, R190, R191). -/

namespace Sys2Proof.Machine

/-! ## Requests and events that leave the Settings Store as it is -/

@[simp] theorem refuse_fst (st : Status) (s : State) : (refuse st s).1 = s := rfl

@[simp] theorem taken_fst (s : State) : (taken s).1 = s := rfl

@[simp] theorem takenWith_fst (b : ReplyBody) (s : State) : (takenWith b s).1 = s := rfl

@[simp] theorem withDepthTrials_settings {f : State → State} {s : State} (hf : (f s).settings = s.settings) :
    (withDepthTrials f s).settings = s.settings := by
  unfold withDepthTrials
  split
  · exact hf
  · simpa using hf

@[simp] theorem lateOverdue_settings (h : Hoist) (s : State) : (lateOverdue h s).settings = s.settings := by
  unfold lateOverdue
  split <;> simp

@[simp] theorem emptyAccumulators_settings (s : State) : (emptyAccumulators s).settings = s.settings := by
  simp [emptyAccumulators, Station.all]

@[simp] theorem bookChange_settings (f : Balance → Balance) (s : State) : (bookChange f s).1.settings = s.settings := by
  simp [bookChange]

theorem onHoist_settings {f : Hoist → State → State × Answer} {s : State}
    (hf : ∀ h, (f h s).1.settings = s.settings) (n : Nat) : (onHoist n f s).1.settings = s.settings := by
  unfold onHoist
  (repeat' split) <;> simp [hf]

/-- No event of the blocks' work writes a setting or a class record. -/
theorem effect_settings {i : Instr} {e : State → State} (he : eventOf i = some e) (s : State) :
    (e s).settings = s.settings := by
  cases i <;> simp only [eventOf, Option.some.injEq, reduceCtorEq] at he <;> subst he <;>
    simp [apply_ite State.settings]

/-- Of the requests only WRITE_SETTING, WRITE_CLASS and LOCK_CALIBRATION write to the Settings Store. -/
theorem owner_settings {i : Instr} {f : State → State × Answer} (ho : ownerOf i = some f) (s : State)
    (hw : ∀ id v, i ≠ .writeSetting id v) (hc : ∀ t n a b c d e g, i ≠ .writeClass t n a b c d e g)
    (hl : i ≠ .lockCalibration) : (f s).1.settings = s.settings := by
  cases i <;> simp only [ownerOf, Option.some.injEq, reduceCtorEq] at ho <;> subst ho
  case writeSetting id v => exact absurd rfl (hw id v)
  case writeClass t n a b c d e g => exact absurd rfl (hc t n a b c d e g)
  case lockCalibration => exact absurd rfl hl
  case hold | resume | cancel | acceptUnweighed | finishUnweighed =>
    refine onHoist_settings (fun h => ?_) _
    (repeat' split) <;> simp
  case jog =>
    unfold jog
    split
    · rfl
    · refine onHoist_settings (fun h => ?_) _
      (repeat' split) <;> simp
  case identify | setClock | restart | readZones | readBalance | readFault | ackFault => rfl
  case readStatus | readSetting | readClass | readOrder | readLoad | readJig | readPeriod =>
    simp only [readStatus, readSetting, readClass, readOrder, readLoad, readJig, readPeriod]
    (repeat' split) <;> rfl
  case openOrder | closeOrder | removeOrder | registerLoad | removeLoad | addJig | stripJig | removeJig =>
    simp only [openOrder, closeOrder, removeOrder, registerLoad, removeLoad, addJig, stripJig, removeJig]
    (repeat' split) <;> simp
  case present | enableHoist | disableHoist | setZoneService | claimZones | releaseZones | restoreSkimmer =>
    simp only [present, enableHoist, disableHoist, setZoneService, setService, claimZones, releaseZones, restoreSkimmer]
    (repeat' split) <;> simp
  case chargeZinc | reportDross | reportAsh | reconcile | closePeriod | discardPeriod =>
    simp only [chargeZinc, reportDross, reportAsh, reconcile, closePeriod, discardPeriod]
    (repeat' split) <;> simp
  case fetchNotice | setNoticeMask | readFieldStatus =>
    simp only [fetchNotice, setNoticeMask, readFieldStatus]
    (repeat' split) <;> simp

/-! ## Resets -/

@[simp] theorem stage_settings (k : ResetKind) (n : Nat) (s : State) : (stage k n s).settings = s.settings := by
  have start (h : Hoist) (s : State) : (startHoist h s).settings = s.settings := by
    unfold startHoist
    split <;> simp
  have stop (h : Hoist) (s : State) : (recoverStop h s).settings = s.settings := by
    simp [recoverStop, apply_ite State.settings]
  have poll (h : Hoist) (s : State) : (firstPoll h s).settings = s.settings := by
    simp [firstPoll, apply_ite State.settings]
  unfold stage
  split
  · simp [stageLink]
  · simp [stageStore, apply_ite State.settings]
  · simp
  · simp [stageRecords, dropOrphan, apply_ite State.settings]
  · simp [stageBath]
  · simp [stagePhases, startSkimmer, apply_ite State.settings, start]
  · simp [stageField, apply_ite State.settings, stop, poll]
  · rfl

@[simp] theorem stagesTo_settings (k : ResetKind) (n : Nat) (s : State) : (stagesTo k n s).settings = s.settings := by
  unfold stagesTo
  induction List.range' 2 (n - 1) generalizing s with
  | nil => rfl
  | cons i l ih => rw [List.foldl_cons, ih, stage_settings]

@[simp] theorem startUp_settings (k : ResetKind) (s : State) : (startUp k s).settings = s.settings := by
  unfold startUp
  split <;> simp [drawOvertaken, overtakenAt]

/-- What SUPPLY_ON makes of the Settings Store: the defaults where the check fails, and the lock cleared by the key. -/
theorem powerUp_settings (fast single key : Bool) (s : State) :
    (powerUp fast single key s).settings =
      { (if s.unit.checkGood then s.settings else Settings.fresh) with
        lock := if key then false else (if s.unit.checkGood then s.settings else Settings.fresh).lock } := by
  cases key <;> cases hc : s.unit.checkGood <;>
    simp [powerUp, stageSupply, readKey, endWork, checkStore, supplyReset, hc, loseStore]

/-! ## A setting written -/

theorem settingsLawful_congr {s t : State} (he : t.settings = s.settings) : t.settingsLawful ↔ s.settingsLawful := by
  have hset : t.setting = s.setting := funext (setting_congr he)
  have hrange : t.settingRange = s.settingRange := by
    funext id
    simp only [State.settingRange, State.kettleLength, hset]
  have hmask : t.masked = s.masked := by
    funext st code
    simp only [State.masked, State.maskOf, hset]
  simp only [State.settingsLawful, he, hset, hrange, hmask]

theorem setting_putSetting_same {id : Nat} {s : State} (h1 : 1 ≤ id) (h2 : id ≤ 37)
    (hlen : s.settings.values.length = 37) (v : Int) : (putSetting id v s).setting id = v := by
  have : id - 1 < s.settings.values.length := by omega
  simp [State.setting, putSetting, Settings.put, this]

theorem setting_putSetting_other {id k : Nat} (h1 : 1 ≤ id) (hk : 1 ≤ k) (hne : k ≠ id) (v : Int) (s : State) :
    (putSetting id v s).setting k = s.setting k := by
  have : id - 1 ≠ k - 1 := by omega
  simp [State.setting, putSetting, Settings.put, List.getD_eq_getElem?_getD, List.getElem?_set_ne this]

/-- Only the range of station position B rests on another setting, the kettle length. -/
theorem settingRange_congr {s t : State} {k : Nat} (h : k = 12 → t.setting 1 = s.setting 1) :
    t.settingRange k = s.settingRange k := by
  by_cases h12 : k = 12
  · subst h12
    simp only [State.settingRange, State.kettleLength, h rfl]
  · unfold State.settingRange
    split <;> simp_all

/-- The setting `id` can take `v`: it lies in the range, and a drive mask leaves codes 3, 4 and 5 clear (R159, R191). -/
structure SettingWritable (s : State) (id : Nat) (v : Int) : Prop where
  known : 1 ≤ id ∧ id ≤ 37
  range : id ≠ 25 → (s.settingRange id).1 ≤ v ∧ v ≤ (s.settingRange id).2
  kettle : id = 1 → 2000 + v ≤ s.setting 12
  window : id = 25 → v ∈ ([8, 16, 32] : List Int)
  mask : id = 30 ∨ id = 31 → ∀ code ∈ [3, 4, 5], v.toNat.testBit (code - 2) = false

theorem putSetting_lawful {id : Nat} {v : Int} {s : State} (hw : SettingWritable s id v) (hs : s.settingsLawful) :
    (putSetting id v s).settingsLawful := by
  obtain ⟨hlen, hrange, hwin, hmask, hrest⟩ := hs
  have ⟨h1, h2⟩ := hw.known
  have same := setting_putSetting_same h1 h2 hlen v
  have other {k : Nat} (hk : 1 ≤ k) (hne : k ≠ id) := setting_putSetting_other h1 hk hne v s
  refine ⟨by simpa [putSetting, Settings.put] using hlen, fun k hk h25 => ?_, ?_, fun st hst code hcode => ?_, hrest⟩
  · have hk' : 1 ≤ k ∧ k < 38 := by simpa [List.mem_range'_1] using hk
    by_cases hkid : k = id
    · subst hkid
      rw [same, settingRange_congr (s := s) (fun h12 => other le_rfl (by omega))]
      exact hw.range h25
    · rw [other hk'.1 hkid]
      by_cases hlast : k = 12 ∧ id = 1
      · obtain ⟨rfl, rfl⟩ := hlast
        exact ⟨by simpa [State.settingRange, State.kettleLength, same] using hw.kettle rfl, (hrange 12 hk h25).2⟩
      · rw [settingRange_congr (s := s) (fun h12 => other le_rfl (by tauto))]
        exact hrange k hk h25
  · by_cases h25 : 25 = id
    · subst h25
      rw [same]
      exact hw.window rfl
    · rw [other (by decide) h25]
      exact hwin
  · have hnumber : 29 + st.number = 30 ∨ 29 + st.number = 31 := by
      revert st
      decide
    have hold := hmask st hst code hcode
    unfold State.masked State.maskOf at hold ⊢
    by_cases hm : 29 + st.number = id
    · rw [hm, same, hw.mask (hm ▸ hnumber) code hcode, Bool.and_false]
    · rw [other (by omega) hm]
      exact hold

/-- What WRITE_SETTING stores of a value in its range is writable: 49 keeps only the bits of codes 2, 6 and 7. -/
theorem storedValue_settingWritable {id : Nat} {v : Int} {s : State} (hid : 1 ≤ id ∧ id ≤ 37) (h25 : id ≠ 25)
    (hv : s.valueOk id v = true) : SettingWritable s id (storedValue id v) := by
  simp only [State.valueOk, inRange, Bool.and_eq_true, Bool.or_eq_true, decide_eq_true_eq] at hv
  obtain ⟨⟨hlo, hhi⟩, hkettle⟩ := hv
  by_cases hm : id = 30 ∨ id = 31
  · have hstored : storedValue id v = ((v.toNat &&& 49 : Nat) : Int) := if_pos hm
    have hbound : v.toNat &&& 49 ≤ 49 := Nat.and_le_right
    have hrange : s.settingRange id = (0, 63) := by rcases hm with rfl | rfl <;> rfl
    refine ⟨hid, fun _ => ?_, fun h => by omega, fun h => absurd h h25, fun _ code hcode => ?_⟩
    · rw [hstored, hrange]
      constructor <;> dsimp only <;> omega
    · rw [hstored, Int.toNat_natCast, Nat.testBit_and]
      have hclear : ∀ code ∈ [3, 4, 5], Nat.testBit 49 (code - 2) = false := by decide
      rw [hclear code hcode, Bool.and_false]
  · have hstored : storedValue id v = v := if_neg hm
    rw [hstored]
    exact ⟨hid, fun _ => ⟨hlo, hhi⟩, fun h1 => hkettle.resolve_left (not_not.2 h1), fun h => absurd h h25,
      fun h => absurd h hm⟩

/-! ## The requests of the Settings Store -/

theorem writeSetting_lawful {s : State} (hs : s.settingsLawful) (id : Nat) (v : Int) :
    (writeSetting id v s).1.settingsLawful := by
  unfold writeSetting
  split
  next => exact hs
  next hid =>
    have hid : 1 ≤ id ∧ id ≤ 37 := by simpa [settingOk] using hid
    split
    next => exact hs
    next =>
      split
      next h25 =>
        split
        next hv =>
          refine putSetting_lawful ⟨hid, fun h => absurd h25 h, fun h => by omega, fun _ => ?_, fun h => by omega⟩ hs
          simpa [windowSizes] using hv
        next => exact hs
      next h25 =>
        split
        next => exact hs
        next hv =>
          have hput := putSetting_lawful (storedValue_settingWritable hid h25 (by simpa using hv)) hs
          rw [takenWith_fst]
          split
          · exact (settingsLawful_congr (by simp)).2 hput
          · exact hput

theorem writeClass_lawful {s : State} (hs : s.settingsLawful) (table number f1 f2 f3 f4 f5 f6 : Nat) :
    (writeClass table number f1 f2 f3 f4 f5 f6 s).1.settingsLawful := by
  obtain ⟨hlen, hrange, hwin, hmask, hsec, hok, hsil, hm⟩ := hs
  unfold writeClass
  split
  · dsimp only
    split
    next hc =>
      refine ⟨hlen, hrange, hwin, hmask, by simpa using hsec, fun c hmem => ?_, hsil, hm⟩
      rcases List.mem_or_eq_of_mem_set hmem with hold | rfl
      · exact hok c hold
      · exact hc.2
    next => exact ⟨hlen, hrange, hwin, hmask, hsec, hok, hsil, hm⟩
  · split
    next hc =>
      refine ⟨hlen, hrange, hwin, hmask, hsec, hok, by simpa using hsil, fun m hmem => ?_⟩
      rcases List.mem_or_eq_of_mem_set hmem with hold | rfl
      · exact hm m hold
      · exact hc.2
    next => exact ⟨hlen, hrange, hwin, hmask, hsec, hok, hsil, hm⟩
  · exact ⟨hlen, hrange, hwin, hmask, hsec, hok, hsil, hm⟩

/-- The lock is no setting: a change of it alone keeps the ranges. -/
theorem setLock_lawful {s : State} (hs : s.settingsLawful) (b : Bool) :
    { s with settings := { s.settings with lock := b } }.settingsLawful := hs

theorem owner_settingsLawful {i : Instr} {f : State → State × Answer} {s : State} (ho : ownerOf i = some f)
    (hs : s.settingsLawful) : (f s).1.settingsLawful := by
  by_cases hw : ∃ id v, i = .writeSetting id v
  · obtain ⟨id, v, rfl⟩ := hw
    cases ho
    exact writeSetting_lawful hs id v
  by_cases hc : ∃ t n a b c d e g, i = .writeClass t n a b c d e g
  · obtain ⟨t, n, a, b, c, d, e, g, rfl⟩ := hc
    cases ho
    exact writeClass_lawful hs t n a b c d e g
  by_cases hl : i = .lockCalibration
  · subst hl
    cases ho
    exact setLock_lawful hs true
  push Not at hw hc
  exact (settingsLawful_congr (owner_settings ho s hw hc hl)).2 hs

theorem reset_settingsLawful : State.reset.settingsLawful := by
  unfold State.settingsLawful
  decide

theorem powerUp_settingsLawful {s : State} (hs : s.settingsLawful) (fast single key : Bool) :
    (powerUp fast single key s).settingsLawful := by
  have he := powerUp_settings fast single key s
  cases hc : s.unit.checkGood with
  | true => exact (settingsLawful_congr (by rw [he, hc]; rfl)).2 (setLock_lawful hs _)
  | false => exact (settingsLawful_congr (by rw [he, hc]; rfl)).2 (setLock_lawful reset_settingsLawful _)

end Sys2Proof.Machine

open Sys2Proof Sys2Proof.Machine

/-- Settles O58: only the requests of the Settings Store and a failed check of the store at SUPPLY_ON write to it. -/
theorem settingsStayInTheirRanges : Obligations.SettingsStayInTheirRanges := by
  intro s t hs hstep
  have same {u v : State} (he : v.settings = u.settings) (hu : u.settingsLawful) : v.settingsLawful :=
    (settingsLawful_congr he).2 hu
  refine step_keeps State.settingsLawful (queue := fun s q => same rfl) (link := fun s _ _ _ _ => same rfl)
    (owner := fun i f s ho _ => owner_settingsLawful ho) (effect := fun i e s he _ => same (effect_settings he s))
    (ends := fun s => same (by simp)) (press := fun h s _ => same (by simp)) (release := fun h s _ => same (by simp))
    (level := fun h b s _ => same (by simp [holdLevel])) (work := fun s => same rfl)
    (start := fun k s _ => same (by simp)) (down := fun x s => same rfl)
    (up := fun f l k s hu => powerUp_settingsLawful hu f l k) (second := fun s _ => same rfl) hs hstep

end

section
/-! PROOFS. WRITE_CLASS and REGISTER_LOAD (R34, R35, R37, R39, R117, R119). -/

namespace Sys2Proof.Machine

theorem SectionClass.ok_iff (c : SectionClass) :
    c.ok = true ↔ c.base ≤ 900 ∧ c.perMm ≤ 60 ∧ (10 ≤ c.entrySpeed ∧ c.entrySpeed ≤ 200) ∧
      (5 ≤ c.withdrawSpeed ∧ c.withdrawSpeed ≤ 60) ∧ c.vibrate ≤ 60 ∧ c.drain ≤ 600 := by
  simp only [SectionClass.ok, inRange, Bool.and_eq_true, decide_eq_true_eq]
  omega

theorem writeClass_unknownTable {table : Nat} (ht : 1 < table) (number f1 f2 f3 f4 f5 f6 : Nat) (s : State) :
    writeClass table number f1 f2 f3 f4 f5 f6 s = refuse .range s := by
  match table with
  | n + 2 => rfl

theorem writeClass_section {number f1 f2 f3 f4 f5 f6 : Nat} {c : SectionClass}
    (hc : c = { base := f1, perMm := f2, entrySpeed := f3, withdrawSpeed := f4, vibrate := f5, drain := f6 })
    (s : State) :
    writeClass 0 number f1 f2 f3 f4 f5 f6 s =
      if number ≤ 15 ∧ c.ok = true then
        taken { s with settings := { s.settings with sections := s.settings.sections.set number c } }
      else refuse .range s := by
  subst hc
  rfl

theorem writeClass_silicon (number f1 f2 f3 f4 f5 f6 : Nat) (s : State) :
    writeClass 1 number f1 f2 f3 f4 f5 f6 s =
      if number ≤ 3 ∧ 40 ≤ f1 ∧ f1 ≤ 150 then
        taken { s with settings := { s.settings with silicons := s.settings.silicons.set number f1 } }
      else refuse .range s := rfl

/-- The first row of the checks of REGISTER_LOAD (R119). -/
theorem loadValuesOk_iff (id order jig sect silicon thick zones : Nat) (hang height : Int) (declared : Option Nat) :
    loadValuesOk id order jig sect silicon thick zones hang height declared = true ↔
      (1 ≤ id ∧ id ≤ 65535) ∧ (1 ≤ order ∧ order ≤ 4294967295) ∧ (1 ≤ jig ∧ jig ≤ 255) ∧ sect ≤ 15 ∧ silicon ≤ 3 ∧
        1 ≤ thick ∧ 1 ≤ zones ∧ zones ≤ 12 ∧ (200 ≤ hang ∧ hang ≤ 4000) ∧ (100 ≤ height ∧ height ≤ 3500) ∧
        ∀ w, declared = some w → 1 ≤ w ∧ w ≤ 200000 := by
  cases declared <;> simp [loadValuesOk, loadOk, orderOk, jigOk, inRange, and_assoc]

theorem order?_eq_none_iff {s : State} {n : Nat} : s.order? n = none ↔ ∀ o ∈ s.records.orders, o.number ≠ n := by
  simp [State.order?]

theorem jig?_eq_none_iff {s : State} {n : Nat} : s.jig? n = none ↔ ∀ j ∈ s.records.jigs, j.number ≠ n := by
  simp [State.jig?]

theorem load?_eq_none_iff {s : State} {n : Nat} : s.load? n = none ↔ ∀ r ∈ s.records.loads, r.id ≠ n := by
  simp [State.load?]

/-- With values in range, REGISTER_LOAD is refused for an order or a jig that does not exist, and else goes by the state
of the order, the load number and the room of the table. -/
theorem registerLoad_checked {id order jig sect silicon thick zones : Nat} {hang height : Int} {declared : Option Nat}
    (hok : loadValuesOk id order jig sect silicon thick zones hang height declared = true) (s : State) :
    (s.order? order = none → registerLoad id order jig sect silicon thick zones hang height declared s =
      refuse .notFound s) ∧
    (s.jig? jig = none → registerLoad id order jig sect silicon thick zones hang height declared s =
      refuse .notFound s) ∧
    ∀ o, s.order? order = some o → s.jig? jig ≠ none →
      registerLoad id order jig sect silicon thick zones hang height declared s =
        if o.isOpen = false then refuse .state s
        else if (s.load? id).isSome then refuse .exists s
        else if 48 ≤ s.records.loads.length then refuse .full s
        else taken { s with records := { s.records with loads := s.records.loads ++
          [LoadRec.made id order jig sect silicon thick zones hang height declared] } } := by
  refine ⟨fun ho => ?_, fun hj => ?_, fun o ho hj => ?_⟩
  · simp [registerLoad, hok, ho]
  · cases ho : s.order? order <;> simp [registerLoad, hok, ho, hj]
  · simp only [registerLoad, hok, ho, Option.isNone_iff_eq_none, hj, Config.loadRoom, if_false, reduceCtorEq]
    rfl

end Sys2Proof.Machine

open Sys2Proof Sys2Proof.Machine

/-- Settles O16: the table, the number and the fields decide between the one record replaced and RANGE. -/
theorem writeClassReplacesAWholeRecord : Obligations.WriteClassReplacesAWholeRecord := by
  intro table number f1 f2 f3 f4 f5 f6 s hl
  refine ⟨fun ht => refused_of rfl hl (writeClass_unknownTable ht ..), fun ht hbad => ?_, fun ht hbad => ?_,
    fun ht hn h1 h2 h3 h3' h4 h4' h5 h6 => ?_, fun ht hn h1 h1' => ?_⟩ <;> subst ht
  · refine refused_of rfl hl ?_
    rw [writeClass_section rfl, if_neg]
    rintro ⟨hn, hok⟩
    have hranges := (SectionClass.ok_iff _).1 hok
    dsimp only at hranges
    omega
  · refine refused_of rfl hl ?_
    rw [writeClass_silicon, if_neg (by omega)]
  · refine taken_of rfl hl ?_
    rw [writeClass_section rfl, if_pos ⟨hn, (SectionClass.ok_iff _).2 ⟨h1, h2, ⟨h3, h3'⟩, ⟨h4, h4'⟩, h5, h6⟩⟩]
  · refine taken_of rfl hl ?_
    rw [writeClass_silicon, if_pos ⟨hn, h1, h1'⟩]

/-- Settles O19: the values, the order and the jig, the order's state, the load number and the room, in this order. -/
theorem registerLoadByItsTable : Obligations.RegisterLoadByItsTable := by
  intro id order jig sect silicon thick zones hang height declared s c hc hl
  subst hc
  refine ⟨fun hbad => refused_of rfl hl ?_, fun hid hid' hord hord' hjig hjig' hsect hsil hthick hz hz' hhang hhang'
    hheight hheight' hdecl => ?_⟩
  · have hno : loadValuesOk id order jig sect silicon thick zones hang height declared = false := by
      rw [← Bool.not_eq_true, loadValuesOk_iff]
      rintro ⟨hid, hord, hjig, hsect, hsil, hthick, hz, hz', hhang, hheight, hdecl⟩
      have hdecl' : ¬ ∃ w, declared = some w ∧ (w = 0 ∨ 200000 < w) := fun ⟨w, hw, h⟩ => by
        have := hdecl w hw
        omega
      simp only [hdecl', or_false] at hbad
      omega
    rw [registerLoad, if_pos hno]
  · obtain ⟨noOrder, noJig, checks⟩ := registerLoad_checked
      ((loadValuesOk_iff ..).2 ⟨⟨hid, hid'⟩, ⟨hord, hord'⟩, ⟨hjig, hjig'⟩, hsect, hsil, hthick, hz, hz',
        ⟨hhang, hhang'⟩, ⟨hheight, hheight'⟩, hdecl⟩) s
    refine ⟨fun h => refused_of rfl hl (noOrder (order?_eq_none_iff.2 h)),
      fun h => refused_of rfl hl (noJig (jig?_eq_none_iff.2 h)), fun o ho ⟨j, hj, hjn⟩ => ?_⟩
    have found := checks o ho (fun h => jig?_eq_none_iff.1 h j hj hjn)
    refine ⟨fun hclosed => refused_of rfl hl ?_, fun hopen ⟨r, hr, hrid⟩ => refused_of rfl hl ?_,
      fun hopen hnew hfull => refused_of rfl hl ?_, fun hopen hnew hroom => taken_of rfl hl ?_⟩
    · rw [found, if_pos hclosed]
    · have hsome : (s.load? id).isSome := by
        rw [← Option.ne_none_iff_isSome]
        exact fun h => load?_eq_none_iff.1 h r hr hrid
      rw [found, if_neg (by simp [hopen]), if_pos hsome]
    · rw [found, if_neg (by simp [hopen]), if_neg (by simp [load?_eq_none_iff.2 hnew]), if_pos hfull]
    · rw [found, if_neg (by simp [hopen]), if_neg (by simp [load?_eq_none_iff.2 hnew]), if_neg (not_le.2 hroom)]
      rfl

end

section
/-! PROOFS. The requests of the Settings Store that read, and what the names used in the statements read (R38, R192,
R193, R195, R196). -/

namespace Sys2Proof.Machine

/-- A request whose owner takes it with a record is `Taken`. -/
theorem takenWith_of {c : Instr} {k : Nat} {b : ReplyBody} {owner : State → State × Answer} {s t : State}
    (hx : exec c s = .next (request k 0 owner s)) (hl : s.listening = true) (ho : owner s = takenWith b t) :
    Taken c k b s t := by
  rw [Taken, hx, request, if_pos hl, ho]
  rfl

theorem settingOk_iff (id : Nat) : settingOk id = true ↔ 1 ≤ id ∧ id ≤ 37 := by simp [settingOk]

theorem readSetting_range {id : Nat} (h : id = 0 ∨ 37 < id) (s : State) : readSetting id s = refuse .range s := by
  rw [readSetting, if_neg]
  rw [settingOk_iff]
  omega

theorem readClass_section {n : Nat} {c : SectionClass} {s : State} (hc : s.settings.sections[n]? = some c)
    (hn : n ≤ 15) : readClass 0 n s = takenWith (.sectionClass c) s := by
  simp [readClass, hn, State.sectionClass, hc]

theorem readClass_silicon {n m : Nat} {s : State} (hm : s.settings.silicons[n]? = some m) (hn : n ≤ 3) :
    readClass 1 n s = takenWith (.siliconClass m) s := by
  simp [readClass, hn, State.siliconClass, hm]

theorem readClass_range {t n : Nat} (h : 1 < t ∨ (t = 0 ∧ 15 < n) ∨ (t = 1 ∧ 3 < n)) (s : State) :
    readClass t n s = refuse .range s := by
  match t with
  | 0 => exact if_neg (by omega)
  | 1 => exact if_neg (by omega)
  | t + 2 => rfl

theorem readStatus_range {part : Nat} (h : 4 < part) (s : State) : readStatus part s = refuse .range s := by
  match part with
  | n + 5 => rfl

theorem speeds_of_latched {h : Hoist} {l : Latched} {s : State} (hl : s.latched h = some l) :
    s.entrySpeed h = (l.entrySpeed : Int) ∧ s.withdrawSpeed h = (l.withdrawSpeed : Int) := by
  simp [State.entrySpeed, State.withdrawSpeed, hl]

end Sys2Proof.Machine

open Sys2Proof Sys2Proof.Machine

/-- Settles O17: the requests by their owners, and the names by what they unfold to. -/
theorem settingsStoreReadsAndLock : Obligations.SettingsStoreReadsAndLock := by
  refine ⟨fun s hl => ?_, fun s id => rfl, fun s => ?_, fun s q e x => ?_, fun h s f => ?_, fun a o => ?_⟩
  · refine ⟨takenWith_of rfl hl rfl, taken_of rfl hl rfl, fun id h1 h2 => takenWith_of rfl hl ?_,
      fun id h => refused_of rfl hl (readSetting_range h s),
      fun n c hc hn => takenWith_of rfl hl (readClass_section hc hn),
      fun n m hm hn => takenWith_of rfl hl (readClass_silicon hm hn),
      fun t n h => refused_of rfl hl (readClass_range h s), takenWith_of rfl hl rfl, takenWith_of rfl hl rfl,
      takenWith_of rfl hl rfl, takenWith_of rfl hl rfl, takenWith_of rfl hl ?_,
      fun part h => refused_of rfl hl (readStatus_range h s)⟩
    · rw [readSetting, if_pos ((settingOk_iff id).2 ⟨h1, h2⟩)]
    · simp only [readStatus, State.moduleStatus, List.countP_eq_length_filter]
      rfl
  · exact ⟨rfl, rfl, rfl, rfl, rfl, rfl, rfl, rfl, rfl, rfl, rfl, rfl, rfl, rfl, rfl, rfl, rfl, rfl⟩
  · exact ⟨rfl, rfl, rfl, rfl, rfl, rfl, rfl, rfl, rfl, rfl, rfl, rfl, rfl, rfl⟩
  · refine ⟨rfl, rfl, ?_, fun l => speeds_of_latched, fun hl => ?_, fun id hid => modCarried_eq hid f⟩
    · rw [admitted_eq, Option.isSome_iff_exists]
    · simp [State.withdrawSpeed, State.raiseSpeed, hl]
  · refine ⟨rfl, rfl, ?_⟩
    simp only [SpanArbiter.entries, SpanArbiter.inService, SpanArbiter.ownerOf, Span.covers, ← Bool.decide_and]
    rfl

end

section
/-! PROOFS. Immersion times, hook weights and the throughput window: every operation of the dip cycle keeps them in
range (R42, R87, R103). -/

namespace Sys2Proof.Machine

/-! ## The law, record by record -/

/-- The latched immersion time and the recorded hook weights of a load lie in their ranges (R42, R103). -/
def LoadRec.inRange (r : LoadRec) : Prop :=
  (∀ l ∈ r.latched.toList, 30 ≤ l.tImm ∧ l.tImm ≤ 1200) ∧
    (∀ w ∈ r.wIn.toList, w ≤ 200000) ∧ (∀ w ∈ r.wOut.toList, w ≤ 200000)

/-- The laws of the load records and of the throughput window together. -/
def State.dipsInRange (s : State) : Prop := s.loadsLawful ∧ s.windowLawful

theorem loadsLawful_iff (s : State) : s.loadsLawful ↔ ∀ r ∈ s.records.loads, r.inRange := Iff.rfl

theorem dipsInRange_congr {s t : State} (hl : t.records.loads = s.records.loads) (hw : t.window = s.window) :
    t.dipsInRange ↔ s.dipsInRange := by
  simp only [State.dipsInRange, State.loadsLawful, State.windowLawful, hl, hw]

theorem LoadRec.inRange_latch {r : LoadRec} (hr : r.inRange) {l : Latched} (hl : 30 ≤ l.tImm ∧ l.tImm ≤ 1200) :
    LoadRec.inRange { r with latched := some l } := by
  obtain ⟨-, hin, hout⟩ := hr
  exact ⟨by simpa using hl, hin, hout⟩

theorem LoadRec.inRange_weighIn {r : LoadRec} (hr : r.inRange) {w : Nat} (hw : w ≤ 200000) (f : LoadFlags) :
    LoadRec.inRange { r with wIn := some w, flags := f } := by
  obtain ⟨hlat, -, hout⟩ := hr
  exact ⟨hlat, by simpa using hw, hout⟩

theorem LoadRec.inRange_weighOut {r : LoadRec} (hr : r.inRange) {w : Option Nat} (hw : ∀ x ∈ w, x ≤ 200000)
    (f : LoadFlags) : LoadRec.inRange { r with wOut := w, flags := f } := by
  obtain ⟨hlat, hin, -⟩ := hr
  exact ⟨hlat, hin, by simpa using hw⟩

theorem LoadRec.inRange_returned {r : LoadRec} (hr : r.inRange) : r.returned.inRange := by
  obtain ⟨hlat, -, hout⟩ := hr
  exact ⟨hlat, by simp [LoadRec.returned], hout⟩

theorem LoadRec.inRange_agree {r : LoadRec} (hr : r.inRange) (a : SpanArbiter) : (r.agree a).inRange := by
  unfold LoadRec.agree
  split <;> exact hr

theorem LoadRec.inRange_made (id order jig sect silicon thick zones : Nat) (hang height : Int) (declared : Option Nat) :
    (LoadRec.made id order jig sect silicon thick zones hang height declared).inRange := by
  simp [LoadRec.inRange, LoadRec.made]

/-- R42: the clamp of the immersion time. -/
theorem recipe_inRange (s : State) (r : LoadRec) (theta : Int) :
    30 ≤ (recipe s r theta).tImm ∧ (recipe s r theta).tImm ≤ 1200 := by
  simp only [recipe, immersionTime, clampImmersion]
  (repeat' split) <;> omega

/-- R103: the clamp of a hook weight. -/
theorem convert_le (s : State) (h : Hoist) (mean : Int) : (s.convert h mean).1 ≤ 200000 := by
  simp only [State.convert, clampWeight]
  (repeat' split) <;> dsimp only <;> omega

theorem goodSample_weight_le {h : Hoist} {x : Int} {s s' : State} {k : WeighKind} {w : Nat} {r : Option RangeFlag}
    (hg : goodSample h x s = (s', some (k, w, r))) : w ≤ 200000 := by
  unfold goodSample at hg
  dsimp only at hg
  split at hg
  · simp at hg
  · split at hg
    · simp at hg
    · split at hg
      · simp only [Prod.mk.injEq, Option.some.injEq] at hg
        obtain ⟨-, -, rfl, -⟩ := hg
        exact convert_le ..
      · simp at hg

theorem timeoutWeight_le {h : Hoist} {s : State} {w : Nat} {r : Option RangeFlag}
    (ht : timeoutWeight h s = some (w, r)) : w ≤ 200000 := by
  obtain ⟨b, -, hb⟩ := Option.map_eq_some_iff.1 ht
  rw [show w = (s.convert h b.mean).1 by rw [hb]]
  exact convert_le ..

/-- A load without a failing cause finds room in the window. -/
theorem window_room {h : Hoist} {r : LoadRec} {s : State} (hno : s.failedCauses h r = []) : s.window.length < 64 := by
  have hok : s.throughputOk (s.admissionWeight r) = true := by
    by_contra hfull
    simp [State.failedCauses, hfull] at hno
  simp only [State.throughputOk, Bool.or_eq_true, List.isEmpty_iff, Bool.and_eq_true, decide_eq_true_eq] at hok
  rcases hok with hempty | ⟨hroom, -⟩
  · simp [hempty]
  · exact hroom

/-! ## Operations that leave the load records and the window -/

/-- The operations of other blocks' items; the records of orders and jigs are not the loads'. -/
@[simp] theorem dipsInRange_leaves (s : State) :
    (∀ k ho l a b, (raise k ho l a b s).dipsInRange ↔ s.dipsInRange) ∧
    (∀ st c, (sendCommand st c s).dipsInRange ↔ s.dipsInRange) ∧
    (∀ st f, (modStation st f s).dipsInRange ↔ s.dipsInRange) ∧ ((startSweep s).dipsInRange ↔ s.dipsInRange) ∧
    (∀ id, (freeJig id s).dipsInRange ↔ s.dipsInRange) ∧ (∀ n f, (modOrder n f s).dipsInRange ↔ s.dipsInRange) ∧
    (∀ n f, (modJig n f s).dipsInRange ↔ s.dipsInRange) ∧
    (∀ k n a b, (noteSaturation k n a b s).dipsInRange ↔ s.dipsInRange) ∧
    (∀ f, (changeBalance f s).dipsInRange ↔ s.dipsInRange) ∧ ((refreshDepth s).dipsInRange ↔ s.dipsInRange) ∧
    (∀ r, (capture r s).dipsInRange ↔ s.dipsInRange) ∧ ((endEvent s).dipsInRange ↔ s.dipsInRange) := by
  and_intros <;> intros <;> refine dipsInRange_congr ?_ ?_ <;> simp [freeJig, modOrder, modJig]

/-- The operations of a hoist that write no load record and do not enter the bath. -/
@[simp] theorem dipsInRange_hoistLeaves (h : Hoist) (s : State) :
    (∀ q, (setSeq h q s).dipsInRange ↔ s.dipsInRange) ∧ (∀ f, (modSeq h f s).dipsInRange ↔ s.dipsInRange) ∧
    (∀ p, (setPhase h p s).dipsInRange ↔ s.dipsInRange) ∧
    (∀ k a b, (raiseFor h k a b s).dipsInRange ↔ s.dipsInRange) ∧
    (∀ k, (startWeigh h k s).dipsInRange ↔ s.dipsInRange) ∧ ((stopWeigh h s).dipsInRange ↔ s.dipsInRange) ∧
    ((withdrawSkim h s).dipsInRange ↔ s.dipsInRange) ∧ (∀ t v, (issueLift h t v s).1.dipsInRange ↔ s.dipsInRange) ∧
    (∀ t, (issueTravel h t s).1.dipsInRange ↔ s.dipsInRange) ∧
    (∀ l : List AdmitCause, (l.foldl (notifyCause h) s).dipsInRange ↔ s.dipsInRange) ∧
    ((enterWeighOut h s).dipsInRange ↔ s.dipsInRange) ∧ ((runDrain h s).dipsInRange ↔ s.dipsInRange) ∧
    ((enterDrain h s).dipsInRange ↔ s.dipsInRange) ∧ ((startOverdip h s).dipsInRange ↔ s.dipsInRange) ∧
    ((enterHeld h s).dipsInRange ↔ s.dipsInRange) ∧ ((raisingArrival h s).dipsInRange ↔ s.dipsInRange) ∧
    ((liftRaise h s).dipsInRange ↔ s.dipsInRange) ∧ ((returnToImm h s).dipsInRange ↔ s.dipsInRange) ∧
    ((resumeWeighOut h s).dipsInRange ↔ s.dipsInRange) ∧ (∀ p, (recoverHeld h p s).dipsInRange ↔ s.dipsInRange) ∧
    (∀ t, (jogTo h t s).dipsInRange ↔ s.dipsInRange) ∧ ((markLate h s).dipsInRange ↔ s.dipsInRange) := by
  and_intros <;> intros <;> refine dipsInRange_congr ?_ ?_ <;> simp

/-! ## Operations on the record of a carried load -/

section Work

variable {h : Hoist} {s : State} (hs : s.dipsInRange)

include hs

theorem dipsInRange_modLoad {f : LoadRec → LoadRec} (hf : ∀ r, r.inRange → (f r).inRange) (id : Nat) :
    (modLoad id f s).dipsInRange := by
  refine ⟨fun r hr => ?_, hs.2⟩
  obtain ⟨x, hx, rfl⟩ := List.mem_map.1 hr
  split
  · exact hf x (hs.1 x hx)
  · exact hs.1 x hx

theorem dipsInRange_modCarried {f : LoadRec → LoadRec} (hf : ∀ r, r.inRange → (f r).inRange) :
    (modCarried h f s).dipsInRange := by
  unfold modCarried
  split
  · exact dipsInRange_modLoad hs hf _
  · exact hs

theorem dipsInRange_recordOut {f : LoadRec → LoadRec} (hf : ∀ r, r.inRange → (f r).inRange) :
    (recordOut h f s).dipsInRange := by
  refine dipsInRange_modCarried hs fun r hr => ?_
  split
  · exact hr
  · exact hf r hr

/-! ## Skims and the immersion -/

theorem dipsInRange_markMissed : (markMissed h s).dipsInRange := by
  have marked : (modCarried h (fun r => { r with flags := { r.flags with skimMissed := true } })
      (modSeq h (fun q => { q with skim := .missed }) s)).dipsInRange :=
    dipsInRange_modCarried (by simpa using hs) fun _ hr => hr
  unfold markMissed
  dsimp only
  split
  · exact marked
  · simpa using marked

theorem dipsInRange_requestSkim (due : Nat) : (requestSkim h due s).dipsInRange := by
  have waiting : (modSeq h (fun q => { q with skim := .waiting }) s).dipsInRange := by simpa using hs
  unfold requestSkim
  dsimp only
  split
  · exact dipsInRange_markMissed waiting
  · simp only [dipsInRange_leaves]
    exact waiting

theorem dipsInRange_enterImmerse : (enterImmerse h s).dipsInRange := by
  unfold enterImmerse sendSkimAtLead
  split
  · exact dipsInRange_requestSkim (by simpa using hs) _
  · simpa using hs

theorem dipsInRange_beginEntry : (beginEntry h s).dipsInRange := by
  unfold beginEntry
  dsimp only
  split
  · exact dipsInRange_enterImmerse (by simpa using hs)
  · simpa using hs

/-! ## Admission (R42, R87, R88) -/

theorem dipsInRange_admitLoad {r : LoadRec} (hroom : s.window.length < 64) (theta : Int) :
    (admitLoad h r theta s).dipsInRange := by
  have entered : State.dipsInRange
      { s with window := s.window ++ [{ weight := s.admissionWeight r, age := 0 }] } := by
    refine ⟨hs.1, ?_⟩
    simpa [State.windowLawful] using hroom
  refine dipsInRange_beginEntry ?_
  simp only [dipsInRange_hoistLeaves]
  exact dipsInRange_modLoad entered (fun x hx => LoadRec.inRange_latch hx (recipe_inRange s r theta)) _

theorem dipsInRange_trial : (trial h s).dipsInRange := by
  unfold trial
  split
  · split
    · exact hs
    · split
      next hno _ => exact dipsInRange_admitLoad hs (window_room hno) _
      next => simpa using hs
  · exact hs

theorem dipsInRange_tryWaiting : (tryWaiting s).dipsInRange := by
  unfold tryWaiting
  split
  · dsimp only
    have drawn : State.dipsInRange { s with free := s.free + 1 } := hs
    split
    · exact dipsInRange_trial (dipsInRange_trial drawn)
    · exact dipsInRange_trial (dipsInRange_trial drawn)
  · exact dipsInRange_trial (dipsInRange_trial hs)

theorem dipsInRange_enterAwaitAdmit : (enterAwaitAdmit h s).dipsInRange :=
  dipsInRange_trial (by simpa using hs)

theorem dipsInRange_beginTravelIn : (beginTravelIn h s).dipsInRange := by
  unfold beginTravelIn
  dsimp only
  split
  · exact dipsInRange_enterAwaitAdmit (by simpa using hs)
  · simpa using hs

/-! ## Spans -/

theorem dipsInRange_grant (o : Owner) (first last : Nat) : (grant o first last s).dipsInRange := by
  unfold grant
  dsimp only
  split
  · exact hs
  next h =>
    have placed (a : SpanArbiter) (f : Sequencer → Sequencer) :
        (modSeq h f (modCarried h (fun r => { r with span := some (first, last) })
          { s with arbiter := a })).dipsInRange := by
      simp only [dipsInRange_hoistLeaves]
      exact dipsInRange_modCarried (s := { s with arbiter := a }) hs fun _ hr => hr
    split
    · exact dipsInRange_beginTravelIn (placed _ _)
    · exact placed _ _

theorem dipsInRange_tryPlacement (n : Nat) : (tryPlacement n s).dipsInRange := by
  induction n generalizing s with
  | zero => exact hs
  | succ n ih =>
    unfold tryPlacement
    split
    · exact hs
    · split
      · exact hs
      next c rest _ _ f l _ =>
        exact ih (dipsInRange_grant (s := { s with arbiter := { s.arbiter with queue := rest } }) hs c.claimant f l)

theorem dipsInRange_placeClaims : (placeClaims s).dipsInRange := dipsInRange_tryPlacement hs _

theorem dipsInRange_joinClaim (c : Claim) : (joinClaim c s).dipsInRange := by
  unfold joinClaim
  dsimp only
  split
  · exact dipsInRange_placeClaims hs
  · exact hs

theorem dipsInRange_withdrawClaim (o : Owner) : (withdrawClaim o s).dipsInRange := by
  unfold withdrawClaim
  dsimp only
  split
  · exact dipsInRange_placeClaims hs
  · exact hs

theorem dipsInRange_releaseSpan (o : Owner) : (releaseSpan o s).dipsInRange :=
  dipsInRange_placeClaims (s := { s with arbiter := s.arbiter.release o }) hs

theorem dipsInRange_enterAwaitSpan : (enterAwaitSpan h s).dipsInRange :=
  dipsInRange_joinClaim (by simpa using hs) _

/-! ## The end of a dip -/

theorem dipsInRange_endDip : (endDip h s).dipsInRange := by
  have ended : (modCarried h (fun r => if r.admitted then r.completed else r.returned) s).dipsInRange := by
    refine dipsInRange_modCarried hs fun r hr => ?_
    split
    · exact hr
    · exact LoadRec.inRange_returned hr
  unfold endDip
  dsimp only
  split <;> simpa using ended

theorem dipsInRange_travelOutArrival : (travelOutArrival h s).dipsInRange :=
  dipsInRange_releaseSpan (dipsInRange_endDip hs) _

theorem dipsInRange_beginTravelOut : (beginTravelOut h s).dipsInRange := by
  unfold beginTravelOut
  dsimp only
  split
  · exact dipsInRange_travelOutArrival (by simpa using hs)
  · simpa using hs

/-! ## Withdrawal -/

theorem dipsInRange_withdrawArrival : (withdrawArrival h s).dipsInRange := by
  unfold withdrawArrival
  split
  · simpa using hs
  · exact dipsInRange_beginTravelOut hs

theorem dipsInRange_compareOverdip : (compareOverdip h s).dipsInRange := by
  unfold compareOverdip exceedOverdip
  split
  · simp only [dipsInRange_hoistLeaves]
    exact dipsInRange_modCarried hs fun _ hr => hr
  · exact hs

theorem dipsInRange_stopOverdip : (stopOverdip h s).dipsInRange := by
  unfold stopOverdip writeOverdip
  split
  · simp only [dipsInRange_hoistLeaves]
    exact dipsInRange_modCarried (dipsInRange_compareOverdip hs) fun _ hr => hr
  · exact dipsInRange_compareOverdip hs

theorem dipsInRange_liftOut : (liftOut h s).dipsInRange := by
  unfold liftOut
  dsimp only
  split
  · exact dipsInRange_withdrawArrival (by simpa using hs)
  · simpa using hs

theorem dipsInRange_startWithdraw : (startWithdraw h s).dipsInRange :=
  dipsInRange_liftOut (dipsInRange_modCarried (dipsInRange_stopOverdip hs) fun _ hr => hr)

/-! ## The end-of-immersion decision -/

theorem dipsInRange_checkSkimWait : (checkSkimWait h s).dipsInRange := by
  have missed : (withdrawSkim h (markMissed h s)).dipsInRange := by
    simpa using dipsInRange_markMissed hs
  unfold checkSkimWait expireSkimWait
  dsimp only
  split
  · split
    · exact dipsInRange_startWithdraw missed
    · exact missed
  · exact hs

theorem dipsInRange_askSkimAgain (wait : Nat) : (askSkimAgain h wait s).dipsInRange := by
  have asked : (requestSkim h (dueIn 0 s)
      (modSeq h (fun q => { q with phase := .awaitSkim, skimWait := some wait }) s)).dipsInRange :=
    dipsInRange_requestSkim (by simpa using hs) _
  unfold askSkimAgain
  dsimp only
  split
  · exact dipsInRange_startWithdraw asked
  · exact dipsInRange_checkSkimWait asked

theorem dipsInRange_endDecision : (endDecision h s).dipsInRange := by
  unfold endDecision
  split
  · split
    · exact dipsInRange_startWithdraw hs
    · exact dipsInRange_askSkimAgain hs _
  · exact dipsInRange_startWithdraw hs
  · exact dipsInRange_checkSkimWait (by simpa using hs)
  · exact dipsInRange_askSkimAgain hs _

theorem dipsInRange_countdownZero : (countdownZero h s).dipsInRange := by
  have started : (startOverdip h s).dipsInRange := by simpa using hs
  unfold countdownZero
  dsimp only
  split
  · exact dipsInRange_endDecision started
  · exact dipsInRange_checkSkimWait started

theorem dipsInRange_skimDone : (skimDone h s).dipsInRange := by
  have done : (modSeq h (fun q => { q with skim := .done s.clock }) s).dipsInRange := by simpa using hs
  unfold skimDone
  dsimp only
  split
  · split
    · exact dipsInRange_startWithdraw done
    · exact done
  · exact hs

theorem dipsInRange_skimMissedAnswer : (skimMissedAnswer h s).dipsInRange := by
  unfold skimMissedAnswer
  dsimp only
  split
  · split
    · exact dipsInRange_startWithdraw (dipsInRange_markMissed hs)
    · exact dipsInRange_markMissed hs
  · exact hs

/-! ## Weights taken (R8, R20, R103, R130) -/

theorem dipsInRange_weighInStable {w : Nat} (hw : w ≤ 200000) (r : Option RangeFlag) :
    (weighInStable h w r s).dipsInRange := by
  unfold weighInStable
  split
  · exact dipsInRange_enterAwaitSpan (dipsInRange_modCarried hs fun l hl => LoadRec.inRange_weighIn hl hw _)
  · exact hs

theorem dipsInRange_post : (post h s).dipsInRange := by
  unfold post
  dsimp only
  split
  · exact hs
  next r _ =>
    split
    · exact hs
    · have posted (f : Figures) : (modLoad r.id (fun x => x.post f s.clock) s).dipsInRange :=
        dipsInRange_modLoad (f := fun x => x.post f s.clock) hs (fun _ hx => hx) _
      split <;> simpa using posted _

theorem dipsInRange_finishDip : (finishDip h s).dipsInRange :=
  dipsInRange_beginTravelOut (by simpa using dipsInRange_post hs)

theorem dipsInRange_weighOutWith {w : Nat} (hw : w ≤ 200000) (r : Option RangeFlag) (unsettled : Bool) :
    (weighOutWith h w r unsettled s).dipsInRange := by
  unfold weighOutWith
  split
  · exact dipsInRange_finishDip (dipsInRange_recordOut hs fun l hl => LoadRec.inRange_weighOut hl (by simpa using hw) _)
  · exact hs

theorem dipsInRange_weighOutNone : (weighOutNone h s).dipsInRange :=
  dipsInRange_finishDip (dipsInRange_recordOut hs fun l hl => LoadRec.inRange_weighOut hl (by simp) _)

theorem dipsInRange_weighOutPasses : (weighOutPasses h s).dipsInRange := by
  have ended : (stopWeigh h s).dipsInRange := by simpa using hs
  unfold weighOutPasses
  split
  next ht => exact dipsInRange_weighOutWith ended (timeoutWeight_le ht) _ _
  next =>
    split
    · exact dipsInRange_weighOutNone ended
    · exact ended

theorem dipsInRange_scaleReading (x : Int) : (scaleReading h x s).dipsInRange := by
  have sampled : (goodSample h x s).1.dipsInRange := (dipsInRange_congr (by simp) (by simp)).2 hs
  unfold scaleReading
  split
  next hg => rwa [hg] at sampled
  next hg =>
    rw [hg] at sampled
    exact dipsInRange_weighInStable sampled (goodSample_weight_le hg) _
  next hg =>
    rw [hg] at sampled
    exact dipsInRange_weighOutWith sampled (goodSample_weight_le hg) _ _

/-! ## Raising, arrivals and recovery -/

theorem dipsInRange_enterRaising : (enterRaising h s).dipsInRange := by
  have stopped {t : State} (ht : t.dipsInRange) : (stopOverdip h
      (modSeq h (fun q => { q with countdown := none, holdTimer := none }) t)).dipsInRange :=
    dipsInRange_stopOverdip (by simpa using ht)
  unfold enterRaising
  refine dipsInRange_withdrawClaim ?_ _
  simp only [dipsInRange_hoistLeaves]
  refine dipsInRange_modCarried (stopped ?_) fun _ hr => hr
  split <;> simpa using hs

theorem dipsInRange_arrival : (arrival h s).dipsInRange := by
  have arrived : (modSeq h (fun q => { q with motion := none }) s).dipsInRange := by simpa using hs
  unfold arrival
  dsimp only
  split
  · exact dipsInRange_enterAwaitAdmit arrived
  · exact dipsInRange_enterImmerse arrived
  · exact dipsInRange_withdrawArrival arrived
  · simpa using arrived
  · simpa using arrived
  · exact dipsInRange_travelOutArrival arrived
  · simpa using arrived
  · simpa using arrived
  · exact arrived

theorem dipsInRange_issueKeptTravel : (issueKeptTravel h s).dipsInRange := by
  unfold issueKeptTravel
  split
  · split
    · exact dipsInRange_beginTravelIn hs
    · exact dipsInRange_beginTravelOut hs
    · exact hs
  · exact hs

theorem dipsInRange_recoverInBath : (recoverInBath h s).dipsInRange := by
  simp only [recoverInBath, dipsInRange_hoistLeaves]
  exact dipsInRange_modCarried hs fun _ hr => hr

theorem dipsInRange_recoverClear : (recoverClear h s).dipsInRange := by
  unfold recoverClear
  split
  · simp only [dipsInRange_hoistLeaves]
    exact dipsInRange_modCarried hs fun _ hr => hr
  · split
    · exact dipsInRange_beginTravelOut (by simpa using hs)
    · exact dipsInRange_endDip hs

theorem dipsInRange_driveReport (lift travel : Int) (atRest : Bool) :
    (driveReport h lift travel atRest s).dipsInRange := by
  have reported : (modSeq h (fun q => { q with lift := some lift, travel := some travel }) s).dipsInRange := by
    simpa using hs
  unfold driveReport recoveryOutcome
  dsimp only
  split
  · exact hs
  · split
    · split
      · split
        · exact dipsInRange_recoverClear reported
        · exact dipsInRange_recoverInBath reported
      · exact reported
    · split
      · exact dipsInRange_arrival reported
      · exact dipsInRange_issueKeptTravel reported

theorem dipsInRange_driveFault : (driveFault h s).dipsInRange := by
  unfold driveFault
  split
  · exact hs
  · exact hs
  · exact hs
  · exact dipsInRange_recoverInBath hs
  · simpa using hs

/-! ## The skimmer and the stations -/

theorem dipsInRange_skimmerAtRest : (skimmerAtRest s).dipsInRange := by
  unfold skimmerAtRest
  split
  · have idle (k : Skimmer) : State.dipsInRange { s with skimmer := k } := hs
    simp only [dipsInRange_leaves]
    split
    · exact idle _
    · split
      · exact dipsInRange_skimDone (idle _)
      · exact idle _
  · exact hs

theorem dipsInRange_skimMissedAnswers (l : List Hoist) :
    (l.foldl (fun s h => skimMissedAnswer h s) s).dipsInRange := by
  induction l generalizing s with
  | nil => exact hs
  | cons h l ih => exact ih (dipsInRange_skimMissedAnswer hs)

theorem dipsInRange_skimmerFault (code : Nat) : (skimmerFault code s).dipsInRange := by
  unfold skimmerFault
  dsimp only
  split
  · exact hs
  · simp only [dipsInRange_leaves]
    refine dipsInRange_skimMissedAnswers ?_ _
    have aborted : (if s.skimmer.mode = .sweeping then sendCommand .skimmer .abort s else s).dipsInRange := by
      split <;> simpa using hs
    exact aborted

theorem dipsInRange_withDepthTrials {f : State → State} (hf : s.dipsInRange → (f s).dipsInRange) :
    (withDepthTrials f s).dipsInRange := by
  unfold withDepthTrials
  split
  · exact hf hs
  · exact dipsInRange_tryWaiting (hf hs)

theorem dipsInRange_thermoEnd (cs : List ChannelView) : (thermoEnd cs s).dipsInRange := by
  refine dipsInRange_tryWaiting ?_
  exact (dipsInRange_congr (by simp) (by simp)).2 hs

theorem dipsInRange_levelAnswer (d : Int) : (levelAnswer d s).dipsInRange :=
  (dipsInRange_congr (by simp) (by simp)).2 hs

theorem dipsInRange_deliverReport (st : Station) (r : FieldReport) : (deliverReport st r s).dipsInRange := by
  unfold deliverReport
  split
  · exact dipsInRange_driveReport hs ..
  · exact dipsInRange_driveReport hs ..
  · exact dipsInRange_withDepthTrials hs (dipsInRange_scaleReading · _)
  · exact dipsInRange_withDepthTrials hs (dipsInRange_scaleReading · _)
  · split
    · exact dipsInRange_skimmerAtRest hs
    · exact hs
  · exact dipsInRange_thermoEnd hs _
  · exact dipsInRange_withDepthTrials hs (dipsInRange_levelAnswer · _)
  · exact hs

theorem dipsInRange_badSample : (badSample h s).dipsInRange := (dipsInRange_congr (by simp) (by simp)).2 hs

theorem dipsInRange_deliverMasked (st : Station) (k : TransKind) : (deliverMasked st k s).dipsInRange := by
  unfold deliverMasked
  split
  · exact dipsInRange_badSample hs
  · exact dipsInRange_badSample hs
  · exact dipsInRange_thermoEnd hs _
  · exact (dipsInRange_congr (by simp) (by simp)).2 hs
  · exact hs

theorem dipsInRange_deliverFault (st : Station) (code : Nat) : (deliverFault st code s).dipsInRange := by
  unfold deliverFault
  split
  · exact dipsInRange_driveFault hs
  · exact dipsInRange_driveFault hs
  · exact dipsInRange_badSample hs
  · exact dipsInRange_badSample hs
  · exact dipsInRange_skimmerFault hs _
  · exact dipsInRange_thermoEnd hs _
  · exact hs

theorem dipsInRange_transactionEnd (st : Station) (code : Nat) (k : TransKind) (attempts : Nat) (r : FieldReport) :
    (transactionEnd st code k attempts r s).dipsInRange := by
  unfold transactionEnd
  split
  · split
    · exact dipsInRange_deliverReport hs ..
    · exact dipsInRange_deliverMasked hs ..
  · exact dipsInRange_deliverFault (by simpa using hs) ..

theorem dipsInRange_attemptEnds (st : Station) (code : Nat) (r : FieldReport) (t : Transaction) :
    (attemptEnds st code r t s).dipsInRange := by
  unfold attemptEnds
  split
  · split <;> simpa using hs
  · exact dipsInRange_transactionEnd (by simpa using hs) ..

theorem dipsInRange_attempt (st : Station) (code : Nat) (r : FieldReport) :
    (answer st code r s).dipsInRange ∧ (noAnswer st s).dipsInRange := by
  unfold answer noAnswer
  split
  · exact ⟨dipsInRange_attemptEnds hs .., dipsInRange_attemptEnds hs ..⟩
  · exact ⟨hs, hs⟩

end Work

end Sys2Proof.Machine
end

section
/-! PROOFS. Immersion times, hook weights and the throughput window: requests, events, resets and every step. -/

namespace Sys2Proof.Machine

section Commands

variable {h : Hoist} {s : State} (hs : s.dipsInRange)

include hs

theorem dipsInRange_registerLoad (id order jig sect silicon thick zones : Nat) (hang height : Int)
    (declared : Option Nat) :
    (registerLoad id order jig sect silicon thick zones hang height declared s).1.dipsInRange := by
  unfold registerLoad
  (repeat' split) <;> try exact hs
  refine ⟨fun r hr => ?_, hs.2⟩
  rcases List.mem_append.1 hr with hold | hnew
  · exact hs.1 r hold
  · rw [List.mem_singleton.1 hnew]
    exact LoadRec.inRange_made ..

theorem dipsInRange_removeLoad (id : Nat) : (removeLoad id s).1.dipsInRange := by
  unfold removeLoad
  (repeat' split) <;> try exact hs
  exact ⟨fun r hr => hs.1 r (List.mem_of_mem_filter hr), hs.2⟩

theorem dipsInRange_present (hoist load : Nat) : (present hoist load s).1.dipsInRange := by
  unfold present
  (repeat' split) <;> try exact hs
  simp only [taken_fst, dipsInRange_leaves, startDip, dipsInRange_hoistLeaves]
  refine dipsInRange_modLoad hs (fun r hr => ?_) _
  exact hr

theorem dipsInRange_onHoist {f : Hoist → State → State × Answer} (hf : ∀ h, (f h s).1.dipsInRange) (n : Nat) :
    (onHoist n f s).1.dipsInRange := by
  unfold onHoist
  split
  · exact hs
  · split
    · exact hs
    · split
      · exact hs
      · exact hf _

theorem dipsInRange_resumeImmerse : (resumeImmerse h s).dipsInRange := by
  unfold resumeImmerse
  split
  · refine dipsInRange_endDecision ?_
    split <;> simpa using hs
  · exact hs

theorem dipsInRange_resumeDrain : (resumeDrain h s).dipsInRange := by
  unfold resumeDrain
  dsimp only
  split
  · split <;> simpa using hs
  · exact dipsInRange_beginTravelOut hs

theorem dipsInRange_takeUp (p : Phase) : (takeUp h p s).dipsInRange := by
  have taken : (modSeq h (fun q => { q with phase := p, heldPhase := none, holdTimer := none }) s).dipsInRange := by
    simpa using hs
  unfold takeUp
  dsimp only
  split
  · simpa using taken
  · split
    · exact dipsInRange_beginTravelIn taken
    · exact taken
  · exact dipsInRange_beginTravelIn taken
  · exact dipsInRange_trial taken
  · exact dipsInRange_beginEntry taken
  · simpa using dipsInRange_resumeImmerse taken
  · simpa using dipsInRange_endDecision taken
  · exact dipsInRange_liftOut (dipsInRange_modCarried taken fun _ hr => hr)
  · exact dipsInRange_resumeDrain taken
  · simpa using taken
  · exact dipsInRange_beginTravelOut taken
  · simpa using taken
  · exact taken

theorem dipsInRange_finishWithout : (finishWithout h s).dipsInRange := by
  have freed : (modSeq h (fun q =>
      { q with heldPhase := none, holdTimer := none, vibrate := none, drain := none }) s).dipsInRange := by
    simpa using hs
  unfold finishWithout
  dsimp only
  split
  · exact dipsInRange_weighOutNone freed
  · exact dipsInRange_beginTravelOut
      (dipsInRange_recordOut freed fun l hl => LoadRec.inRange_weighOut hl (by simp) _)

theorem dipsInRange_bookChange (f : Balance → Balance) : (bookChange f s).1.dipsInRange := by
  simp only [bookChange, takenWith_fst, dipsInRange_leaves]
  exact dipsInRange_withDepthTrials hs (by simp)

/-- Every request keeps the laws of the load records and of the window. -/
theorem owner_dipsInRange {i : Instr} {f : State → State × Answer} (ho : ownerOf i = some f) :
    (f s).1.dipsInRange := by
  cases i <;> simp only [ownerOf, Option.some.injEq, reduceCtorEq] at ho <;> subst ho
  case registerLoad => exact dipsInRange_registerLoad hs ..
  case removeLoad => exact dipsInRange_removeLoad hs _
  case present => exact dipsInRange_present hs ..
  case hold =>
    refine dipsInRange_onHoist hs (fun h => ?_) _
    split <;> simpa using hs
  case resume =>
    refine dipsInRange_onHoist hs (fun h => ?_) _
    (repeat' split) <;> try exact hs
    simpa using dipsInRange_takeUp hs _
  case jog =>
    unfold jog
    split
    · exact hs
    · refine dipsInRange_onHoist hs (fun h => ?_) _
      (repeat' split) <;> simpa using hs
  case cancel =>
    refine dipsInRange_onHoist hs (fun h => ?_) _
    have unweighed : (stopWeigh h s).dipsInRange := by simpa using hs
    split
    · simpa using dipsInRange_withdrawClaim (dipsInRange_endDip unweighed) _
    · simpa using dipsInRange_withdrawClaim (dipsInRange_endDip unweighed) _
    · simpa using dipsInRange_beginTravelOut hs
    · simpa using dipsInRange_beginTravelOut hs
    · exact hs
  case acceptUnweighed =>
    refine dipsInRange_onHoist hs (fun h => ?_) _
    have unweighed : (stopWeigh h s).dipsInRange := by simpa using hs
    split
    · simpa using dipsInRange_enterAwaitSpan
        (dipsInRange_modCarried (f := fun r => { r with flags := { r.flags with unweighedIn := true } }) unweighed
          fun _ hr => hr)
    · exact hs
  case finishUnweighed =>
    refine dipsInRange_onHoist hs (fun h => ?_) _
    split
    · exact hs
    · split
      · simpa using dipsInRange_withDepthTrials hs dipsInRange_finishWithout
      · exact hs
  case setZoneService zone state =>
    unfold setZoneService
    (repeat' split) <;> try exact hs
    simpa using dipsInRange_placeClaims (s := setService zone true s) hs
  case claimZones =>
    unfold claimZones
    (repeat' split) <;> try exact hs
    simpa using dipsInRange_joinClaim hs _
  case releaseZones =>
    unfold releaseZones
    (repeat' split) <;> try exact hs
    · simpa using dipsInRange_releaseSpan hs _
    · simpa using dipsInRange_withdrawClaim hs _
  case chargeZinc | reportDross | reportAsh =>
    simp only [chargeZinc, reportDross, reportAsh]
    split
    · exact hs
    · exact dipsInRange_bookChange hs _
  case enableHoist | disableHoist =>
    simp only [enableHoist, disableHoist]
    (repeat' split) <;> refine (dipsInRange_congr ?_ ?_).2 hs <;> simp
  case identify | setClock | restart | lockCalibration | readZones | readBalance | readFault | ackFault => exact hs
  case readStatus | readSetting | readClass | readOrder | readLoad | readJig | readPeriod =>
    simp only [readStatus, readSetting, readClass, readOrder, readLoad, readJig, readPeriod]
    (repeat' split) <;> exact hs
  case writeClass | restoreSkimmer | reconcile | discardPeriod | setNoticeMask | fetchNotice =>
    simp only [writeClass, restoreSkimmer, reconcile, discardPeriod, setNoticeMask, fetchNotice]
    (repeat' split) <;> exact hs
  case writeSetting | closePeriod | readFieldStatus =>
    simp only [writeSetting, closePeriod, readFieldStatus]
    (repeat' split) <;> refine (dipsInRange_congr ?_ ?_).2 hs <;> simp [putSetting, emptyAccumulators, Station.all]
  case openOrder | closeOrder | removeOrder | addJig | stripJig | removeJig =>
    simp only [openOrder, closeOrder, removeOrder, addJig, stripJig, removeJig]
    (repeat' split) <;> refine (dipsInRange_congr ?_ ?_).2 hs <;> simp [modOrder, modJig]

/-- Every event of the blocks' work keeps the laws of the load records and of the window. -/
theorem effect_dipsInRange {i : Instr} {e : State → State} (he : eventOf i = some e) : (e s).dipsInRange := by
  have whenDue {b : Bool} {t : State} (ht : t.dipsInRange) : (if b = true then t else s).dipsInRange := by
    split
    · exact ht
    · exact hs
  cases i <;> simp only [eventOf, Option.some.injEq, reduceCtorEq] at he <;> subst he
  case holdButton4sMark =>
    refine whenDue ?_
    unfold fourSecondMark
    split
    · exact dipsInRange_enterRaising hs
    · simpa using hs
  case motionOverdue =>
    dsimp only
    split
    · simpa [overdue] using hs
    · unfold lateOverdue
      split <;> simpa using hs
  case skimLeadReached =>
    exact whenDue (dipsInRange_requestSkim hs _)
  case immersionCountdownZero => exact whenDue (dipsInRange_countdownZero hs)
  case skimWaitExpired => exact dipsInRange_checkSkimWait hs
  case overdipLimitExceeded => exact dipsInRange_compareOverdip hs
  case vibrateEnd => exact whenDue (by simpa using hs)
  case drainEnd => exact whenDue (by simpa using hs)
  case recoveryTimeout => exact whenDue (dipsInRange_recoverInBath hs)
  case weighInTimeout => exact whenDue ((dipsInRange_congr (by simp) (by simp)).2 hs)
  case weighOutTimeout => exact whenDue (dipsInRange_withDepthTrials hs dipsInRange_weighOutPasses)
  case gateTrialTick => exact dipsInRange_trial hs
  case windowEntryExpiry =>
    refine whenDue (dipsInRange_tryWaiting ⟨hs.1, ?_⟩)
    have := hs.2
    simp only [State.windowLawful, List.length_tail] at this ⊢
    omega
  case kettleQuiet => exact whenDue ((dipsInRange_congr (by simp) (by simp)).2 hs)
  case reconcileTimeout => exact whenDue ((dipsInRange_congr (by simp) (by simp)).2 hs)
  case fieldPollDue | fieldRetryDue => exact (dipsInRange_congr (by simp) (by simp)).2 hs
  case fieldNoAnswer st => exact (dipsInRange_attempt hs st 0 .codeOnly).2
  case fieldAnswerReceived st code r => exact (dipsInRange_attempt hs st code r).1

/-! ## Resets and seconds -/

theorem dipsInRange_stage (k : ResetKind) (n : Nat) : (stage k n s).dipsInRange := by
  have start {h : Hoist} {s : State} (hs : s.dipsInRange) : (startHoist h s).dipsInRange := by
    unfold startHoist
    dsimp only
    split <;> simpa using hs
  have drop {h : Hoist} {s : State} (hs : s.dipsInRange) : (dropOrphan h s).dipsInRange := by
    unfold dropOrphan
    split <;> exact hs
  have stop {h : Hoist} {s : State} (hs : s.dipsInRange) : (recoverStop h s).dipsInRange := by
    unfold recoverStop
    split <;> simpa using hs
  have poll {h : Hoist} {s : State} (hs : s.dipsInRange) : (firstPoll h s).dipsInRange := by
    unfold firstPoll
    split
    · exact hs
    · simpa [pollFallsDue] using hs
  unfold stage
  split
  · simp only [stageLink, dipsInRange_leaves]
    exact hs
  · unfold stageStore
    split <;> simpa using hs
  · exact (dipsInRange_congr (by simp) (by simp)).2 hs
  · obtain ⟨hloads, hwindow⟩ := drop (h := .B) (drop (h := .A) hs)
    refine ⟨fun r hr => ?_, hwindow⟩
    obtain ⟨x, hx, rfl⟩ := List.mem_map.1 hr
    exact LoadRec.inRange_agree (hloads x hx) _
  · simp only [stageBath, dipsInRange_leaves]
    exact hs
  · have hoists := start (h := .B) (start (h := .A) hs)
    simp only [stagePhases, startSkimmer]
    split <;> exact hoists
  · have stops := stop (h := .B) (stop (h := .A) hs)
    simp only [stageField, pollFallsDue, dipsInRange_leaves]
    refine poll (poll ?_)
    split <;> simpa using stops
  · exact hs

theorem dipsInRange_stagesTo (k : ResetKind) (n : Nat) : (stagesTo k n s).dipsInRange := by
  unfold stagesTo
  induction List.range' 2 (n - 1) generalizing s with
  | nil => exact hs
  | cons i l ih => exact ih (dipsInRange_stage hs k i)

theorem dipsInRange_startUp (k : ResetKind) : (startUp k s).dipsInRange := by
  have drawn : (drawOvertaken s).dipsInRange := hs
  unfold startUp
  split
  · simpa using dipsInRange_stagesTo drawn k 8
  next i _ => exact dipsInRange_stagesTo drawn k (i.val + 1)

theorem dipsInRange_powerUp (fast single key : Bool) : (powerUp fast single key s).dipsInRange := by
  have emptied : (supplyReset fast single s).dipsInRange := ⟨hs.1, by simp [State.windowLawful, supplyReset]⟩
  have checked : (checkStore (supplyReset fast single s)).dipsInRange := by
    unfold checkStore
    split
    · exact emptied
    · exact ⟨by simp [loadsLawful_iff, loseStore], emptied.2⟩
  refine dipsInRange_startUp ?_ _
  cases key <;> exact checked

theorem dipsInRange_pressButton : (pressButton h s).dipsInRange := by
  unfold pressButton
  dsimp only
  (repeat' split) <;> simpa using hs

theorem dipsInRange_countSecond : (countSecond s).dipsInRange :=
  ⟨hs.1, by simpa [State.windowLawful, countSecond] using hs.2⟩

end Commands

end Sys2Proof.Machine

open Sys2Proof Sys2Proof.Machine

/-- Settles O57: the two laws are kept together, since what admits a load both latches its immersion time and enters it
in the window. -/
theorem immersionTimesAndWeightsStayInRange : Obligations.ImmersionTimesAndWeightsStayInRange := by
  intro s t hloads hwindow hstep
  refine step_keeps State.dipsInRange (queue := fun s q hs => hs) (link := fun s _ _ _ _ hs => hs)
    (owner := fun i f s ho _ hs => owner_dipsInRange hs ho) (effect := fun i e s he _ hs => effect_dipsInRange hs he)
    (ends := fun s hs => by simpa using hs) (press := fun h s _ hs => dipsInRange_pressButton hs)
    (release := fun h s _ hs => by simpa [releaseButton] using hs)
    (level := fun h b s _ hs => by simpa [holdLevel] using hs) (work := fun s hs => hs)
    (start := fun k s _ hs => dipsInRange_startUp hs k) (down := fun x s hs => hs)
    (up := fun f l k s hs => dipsInRange_powerUp hs f l k) (second := fun s _ hs => dipsInRange_countSecond hs)
    ⟨hloads, hwindow⟩ hstep

end

section
/-! PROOFS. Spans and claims: what their laws read of a state, and which operations leave it as it is (R47 to R56). -/

namespace Sys2Proof.Machine

/-! ## What the laws of spans and claims read -/

/-- What they read of a hoist: its phase, its held phase and its load. -/
structure HoistStage where
  phase : Phase
  held : Option Phase
  load : Option Nat

def Sequencer.stage (q : Sequencer) : HoistStage := { phase := q.phase, held := q.heldPhase, load := q.load }

/-- What they read of a load record: its id and its span field. -/
def LoadRec.spanField (r : LoadRec) : Nat × Option (Nat × Nat) := (r.id, r.span)

/-- What they read of a state. -/
structure SpanView where
  arbiter : SpanArbiter
  stage : Hoist → HoistStage
  fields : List (Nat × Option (Nat × Nat))
  working : Bool

def State.spanView (s : State) : SpanView :=
  { arbiter := s.arbiter, stage := fun h => (s.seq h).stage, fields := s.records.loads.map LoadRec.spanField,
    working := s.active }

@[simp] theorem spanView_arbiter (s : State) : s.spanView.arbiter = s.arbiter := rfl

theorem spanView_stage (s : State) (h : Hoist) : s.spanView.stage h = (s.seq h).stage := rfl

theorem spanView_congr {s t : State} (hu : t.unit = s.unit) (ha : t.arbiter = s.arbiter)
    (hA : t.seqA.stage = s.seqA.stage) (hB : t.seqB.stage = s.seqB.stage)
    (hl : t.records.loads.map LoadRec.spanField = s.records.loads.map LoadRec.spanField) :
    t.spanView = s.spanView := by
  have hstage : (fun h => (t.seq h).stage) = fun h => (s.seq h).stage := by
    funext h
    cases h <;> assumption
  simp only [State.spanView, State.active, hu, ha, hstage, hl]

/-! ## A view written -/

/-- The map and the queue are others. -/
def SpanView.onMap (v : SpanView) (a : SpanArbiter) : SpanView := { v with arbiter := a }

/-- Hoist `h` stands at another stage. -/
def SpanView.put (v : SpanView) (h : Hoist) (x : HoistStage) : SpanView :=
  { v with stage := Function.update v.stage h x }

/-- The span field of the load, where there is one, is written. -/
def SpanView.mark (v : SpanView) (load : Option Nat) (x : Option (Nat × Nat)) : SpanView :=
  { v with fields := v.fields.map (fun e => if some e.1 = load then (e.1, x) else e) }

@[simp] theorem SpanView.put_stage (v : SpanView) (h : Hoist) (x : HoistStage) : (v.put h x).stage h = x :=
  Function.update_self ..

@[simp] theorem SpanView.put_stage_of_ne (v : SpanView) {h k : Hoist} (hk : k ≠ h) (x : HoistStage) :
    (v.put h x).stage k = v.stage k :=
  Function.update_of_ne hk ..

@[simp] theorem SpanView.put_frame (v : SpanView) (h : Hoist) (x : HoistStage) :
    (v.put h x).arbiter = v.arbiter ∧ (v.put h x).fields = v.fields :=
  ⟨rfl, rfl⟩

@[simp] theorem SpanView.put_put (v : SpanView) (h : Hoist) (x y : HoistStage) : (v.put h x).put h y = v.put h y := by
  simp [SpanView.put]

@[simp] theorem SpanView.put_self (v : SpanView) (h : Hoist) : v.put h (v.stage h) = v := by
  simp [SpanView.put]

@[simp] theorem SpanView.onMap_frame (v : SpanView) (a : SpanArbiter) :
    (v.onMap a).arbiter = a ∧ (v.onMap a).stage = v.stage ∧ (v.onMap a).fields = v.fields :=
  ⟨rfl, rfl, rfl⟩

@[simp] theorem SpanView.mark_frame (v : SpanView) (load : Option Nat) (x : Option (Nat × Nat)) :
    (v.mark load x).arbiter = v.arbiter ∧ (v.mark load x).stage = v.stage :=
  ⟨rfl, rfl⟩

theorem spanView_setSeq (h : Hoist) (q : Sequencer) (s : State) :
    (setSeq h q s).spanView = s.spanView.put h q.stage := by
  have hstage : (fun k => ((setSeq h q s).seq k).stage) = Function.update (fun k => (s.seq k).stage) h q.stage := by
    funext k
    by_cases hk : k = h
    · subst hk
      simp
    · obtain rfl : k = h.other := by cases h <;> cases k <;> simp_all [Hoist.other]
      rw [Function.update_of_ne hk, seq_setSeq_other]
  simp only [State.spanView, SpanView.put, hstage, State.active, setSeq_frame]

theorem spanView_modSeq (h : Hoist) (f : Sequencer → Sequencer) (s : State) :
    (modSeq h f s).spanView = s.spanView.put h (f (s.seq h)).stage :=
  spanView_setSeq h _ s

theorem spanView_setPhase (h : Hoist) (p : Phase) (s : State) :
    (setPhase h p s).spanView = s.spanView.put h { s.spanView.stage h with phase := p } :=
  spanView_modSeq h _ s

/-- A change of other items of a hoist. -/
@[simp] theorem spanView_modSeq_of {f : Sequencer → Sequencer} (hp : ∀ q, (f q).phase = q.phase)
    (hh : ∀ q, (f q).heldPhase = q.heldPhase) (hl : ∀ q, (f q).load = q.load) (h : Hoist) (s : State) :
    (modSeq h f s).spanView = s.spanView := by
  rw [spanView_modSeq, Sequencer.stage, hp, hh, hl]
  exact s.spanView.put_self h

@[simp] theorem spanView_modLoad_of {f : LoadRec → LoadRec} (hi : ∀ r, (f r).id = r.id) (hs : ∀ r, (f r).span = r.span)
    (id : Nat) (s : State) : (modLoad id f s).spanView = s.spanView := by
  refine spanView_congr (by simp) (by simp) (by simp) (by simp) ?_
  simp only [modLoad, List.map_map]
  refine List.map_congr_left fun r _ => ?_
  by_cases hr : r.id = id <;> simp [hr, LoadRec.spanField, hi, hs]

@[simp] theorem spanView_modCarried_of {f : LoadRec → LoadRec} (hi : ∀ r, (f r).id = r.id)
    (hs : ∀ r, (f r).span = r.span) (h : Hoist) (s : State) : (modCarried h f s).spanView = s.spanView := by
  unfold modCarried
  split
  · exact spanView_modLoad_of hi hs _ s
  · rfl

/-- A change of the carried load's record that writes its span field. -/
theorem spanView_modCarried {f : LoadRec → LoadRec} {x : Option (Nat × Nat)} (hi : ∀ r, (f r).id = r.id)
    (hs : ∀ r, (f r).span = x) (h : Hoist) (s : State) :
    (modCarried h f s).spanView = s.spanView.mark (s.spanView.stage h).load x := by
  rw [show (s.spanView.stage h).load = (s.seq h).load from rfl]
  unfold modCarried
  split
  next id hid =>
    have hfields : (modLoad id f s).records.loads.map LoadRec.spanField =
        (s.records.loads.map LoadRec.spanField).map (fun e => if some e.1 = some id then (e.1, x) else e) := by
      simp only [modLoad, List.map_map]
      refine List.map_congr_left fun r _ => ?_
      by_cases hr : r.id = id <;> simp [hr, hi, hs, LoadRec.spanField]
    have hstage : (fun k => ((modLoad id f s).seq k).stage) = fun k => (s.seq k).stage := by
      funext k
      cases k <;> rfl
    simp only [State.spanView, SpanView.mark, hfields, hstage, hid]
    rfl
  next hid =>
    simp only [SpanView.mark, hid, reduceCtorEq, if_false, List.map_id']

/-! ## Operations that leave the view as it is -/

/-- The operations that write neither the map nor a hoist's items nor a load record. -/
@[simp] theorem spanView_leaves (s : State) :
    (∀ k ho l a b, (raise k ho l a b s).spanView = s.spanView) ∧
    (∀ h k a b, (raiseFor h k a b s).spanView = s.spanView) ∧
    (∀ st c, (sendCommand st c s).spanView = s.spanView) ∧ (∀ st f, (modStation st f s).spanView = s.spanView) ∧
    (∀ st, (pollFallsDue st s).spanView = s.spanView) ∧ ((startSweep s).spanView = s.spanView) ∧
    (∀ h k, (startWeigh h k s).spanView = s.spanView) ∧ (∀ h, (stopWeigh h s).spanView = s.spanView) ∧
    (∀ h, (badSample h s).spanView = s.spanView) ∧ (∀ h x, (goodSample h x s).1.spanView = s.spanView) ∧
    (∀ h, (withdrawSkim h s).spanView = s.spanView) ∧ (∀ id, (freeJig id s).spanView = s.spanView) ∧
    (∀ n f, (modOrder n f s).spanView = s.spanView) ∧ (∀ n f, (modJig n f s).spanView = s.spanView) ∧
    (∀ k n a b, (noteSaturation k n a b s).spanView = s.spanView) ∧
    (∀ f, (changeBalance f s).spanView = s.spanView) ∧ ((refreshDepth s).spanView = s.spanView) ∧
    ((compareLevel s).spanView = s.spanView) ∧ (∀ o, (endRecon o s).spanView = s.spanView) ∧
    (∀ r, (capture r s).spanView = s.spanView) ∧ (∀ h, (weighInPasses h s).spanView = s.spanView) ∧
    (∀ d, (levelAnswer d s).spanView = s.spanView) ∧ ((fallQuiet s).spanView = s.spanView) ∧
    (∀ c, (skimmerTook c s).spanView = s.spanView) ∧ (∀ st, (duePoll st s).spanView = s.spanView) ∧
    (∀ st, (dueRetry st s).spanView = s.spanView) ∧ ((endEvent s).spanView = s.spanView) := by
  and_intros <;> intros <;> refine spanView_congr ?_ ?_ ?_ ?_ ?_ <;> simp [freeJig, modOrder, modJig]

theorem spanView_raise (k : NoticeKind) (ho : Option Hoist) (l : Option Nat) (a b : Option Int) (s : State) :
    (raise k ho l a b s).spanView = s.spanView := by simp

theorem spanView_startSweep (s : State) : (startSweep s).spanView = s.spanView := by simp

theorem spanView_endEvent (s : State) : (endEvent s).spanView = s.spanView := by simp

section Hoists
variable (h : Hoist) (s : State)

theorem spanView_startWeigh (k : WeighKind) : (startWeigh h k s).spanView = s.spanView := by simp

theorem spanView_stopWeigh : (stopWeigh h s).spanView = s.spanView := by simp

theorem spanView_freeJig (id : Nat) : (freeJig id s).spanView = s.spanView := by simp

@[simp] theorem spanView_skimmer (k : Skimmer) : State.spanView { s with skimmer := k } = s.spanView := rfl

@[simp] theorem spanView_window (w : List WindowEntry) : State.spanView { s with window := w } = s.spanView := rfl

@[simp] theorem spanView_free (n : Nat) : State.spanView { s with free := n } = s.spanView := rfl

@[simp] theorem spanView_bath (b : Bath) : State.spanView { s with bath := b } = s.spanView := rfl

@[simp] theorem spanView_onMap (a : SpanArbiter) : State.spanView { s with arbiter := a } = s.spanView.onMap a := rfl

@[simp] theorem spanView_issueMotion (axis : Axis) (target speed : Int) :
    (issueMotion h axis target speed s).1.spanView = s.spanView := by
  unfold issueMotion
  (repeat' split) <;> simp

@[simp] theorem spanView_issueLift (target : Option Int) (speed : Int) :
    (issueLift h target speed s).1.spanView = s.spanView := by
  unfold issueLift
  split <;> simp

@[simp] theorem spanView_issueTravel (target : Int) : (issueTravel h target s).1.spanView = s.spanView := by
  unfold issueTravel
  split <;> simp

@[simp] theorem spanView_markMissed : (markMissed h s).spanView = s.spanView := by
  unfold markMissed
  dsimp only
  split <;> simp

@[simp] theorem spanView_requestSkim (due : Nat) : (requestSkim h due s).spanView = s.spanView := by
  unfold requestSkim
  dsimp only
  split
  · simp
  · rw [spanView_startSweep, spanView_skimmer]
    simp

@[simp] theorem spanView_sendSkimAtLead : (sendSkimAtLead h s).spanView = s.spanView := by
  unfold sendSkimAtLead
  split <;> simp

@[simp] theorem spanView_notifyCauses (l : List AdmitCause) : (l.foldl (notifyCause h) s).spanView = s.spanView := by
  induction l generalizing s with
  | nil => rfl
  | cons c l ih =>
    rw [List.foldl_cons, ih]
    unfold notifyCause
    split <;> simp

@[simp] theorem spanView_compareOverdip : (compareOverdip h s).spanView = s.spanView := by
  unfold compareOverdip exceedOverdip
  split <;> simp

@[simp] theorem spanView_stopOverdip : (stopOverdip h s).spanView = s.spanView := by
  unfold stopOverdip writeOverdip
  split <;> simp

@[simp] theorem spanView_startOverdip : (startOverdip h s).spanView = s.spanView := by
  simp [startOverdip]

@[simp] theorem spanView_releaseButton : (releaseButton h s).spanView = s.spanView := by
  simp [releaseButton]

@[simp] theorem spanView_holdLevel (b : Bool) : (holdLevel h b s).spanView = s.spanView := by
  simp [holdLevel]

@[simp] theorem spanView_markLate : (markLate h s).spanView = s.spanView := by
  unfold markLate
  split <;> simp

@[simp] theorem spanView_lateOverdue : (lateOverdue h s).spanView = s.spanView := by
  unfold lateOverdue
  split <;> simp

@[simp] theorem spanView_returnToImm : (returnToImm h s).spanView = s.spanView := by
  unfold returnToImm
  split <;> simp

@[simp] theorem spanView_post : (post h s).spanView = s.spanView := by
  unfold post
  dsimp only
  (repeat' split) <;> simp [LoadRec.post]

@[simp] theorem spanView_recordOut {f : LoadRec → LoadRec} (hi : ∀ r, (f r).id = r.id) (hs : ∀ r, (f r).span = r.span) :
    (recordOut h f s).spanView = s.spanView := by
  refine spanView_modCarried_of (fun r => ?_) (fun r => ?_) h s
  · split
    · rfl
    · exact hi r
  · split
    · rfl
    · exact hs r

@[simp] theorem spanView_countSecond : (countSecond s).spanView = s.spanView :=
  spanView_congr rfl rfl rfl rfl rfl

end Hoists

end Sys2Proof.Machine
end

section
/-! PROOFS. Spans and claims: the moves that the work of the blocks makes of them (R47 to R59). -/

namespace Sys2Proof.Machine

/-! ## The stages of a hoist -/

/-- The hoist waits for its grant, as `Sequencer.awaitsGrant` says it. -/
def HoistStage.awaits (x : HoistStage) : Prop :=
  x.phase = .awaitSpan ∨ ((x.phase = .held ∨ x.phase = .jogging) ∧ x.held = some .awaitSpan)

/-- The hoist has its weigh-in still to end, as `Sequencer.weighsIn` says it. -/
def HoistStage.weighs (x : HoistStage) : Prop :=
  x.phase = .weighIn ∨ ((x.phase = .held ∨ x.phase = .jogging) ∧ x.held = some .weighIn)

theorem awaitsGrant_iff (q : Sequencer) : q.awaitsGrant ↔ q.stage.awaits := Iff.rfl

theorem weighsIn_iff (q : Sequencer) : q.weighsIn ↔ q.stage.weighs := Iff.rfl

/-- The hoist is past both, or before both. -/
def HoistStage.settled (x : HoistStage) : Prop := ¬ x.awaits ∧ ¬ x.weighs

/-- A hoist without a load in its cycle. -/
def HoistStage.empty : HoistStage := { phase := .idle, held := none, load := none }

theorem HoistStage.settled_of_phase {x : HoistStage} (hp : x.phase ∉ [Phase.awaitSpan, .weighIn, .held, .jogging]) :
    x.settled := by
  simp only [List.mem_cons, List.not_mem_nil, or_false, not_or] at hp
  simp [HoistStage.settled, HoistStage.awaits, HoistStage.weighs, hp]

theorem HoistStage.settled_of_held {x : HoistStage} (hp : x.phase = .held)
    (hh : x.held ≠ some .awaitSpan ∧ x.held ≠ some .weighIn) : x.settled := by
  simp [HoistStage.settled, HoistStage.awaits, HoistStage.weighs, hp, hh]

theorem HoistStage.not_awaits_of_phase {x : HoistStage} (hp : x.phase ∉ [Phase.awaitSpan, .held, .jogging]) :
    ¬ x.awaits := by
  simp only [List.mem_cons, List.not_mem_nil, or_false, not_or] at hp
  simp [HoistStage.awaits, hp]

/-! ## The moves of the map, the queue and the hoists -/

/-- A placed claim has left the head of the queue, and its claimant holds the zones (R56). -/
def SpanArbiter.granted (a : SpanArbiter) (o : Owner) (first last now : Nat) (rest : List Claim) : SpanArbiter :=
  { a with queue := rest, spans := a.spans ++ [{ owner := o, first := first, last := last, granted := now }] }

/-- A claim has joined the tail of the queue (R49). -/
def SpanArbiter.joined (a : SpanArbiter) (c : Claim) : SpanArbiter := { a with queue := a.queue ++ [c] }

/-- The service state of a zone is set (R59). -/
def SpanArbiter.served (a : SpanArbiter) (zone : Nat) (inService : Bool) : SpanArbiter :=
  { a with service := a.service.set (zone - 1) inService }

/-- One move of the map, the queue or a hoist's stage by the work of a block. -/
inductive SpanStep : SpanView → SpanView → Prop
  /-- The hoist passes to another stage, its claim, where one may wait, waiting on. -/
  | turn {v : SpanView} {h : Hoist} {x : HoistStage} (load : x.load = (v.stage h).load)
      (waits : (v.stage h).awaits → x.awaits ∨ ∃ p ∈ v.arbiter.spans, p.owner = .hoist h)
      (awaits : x.awaits → (v.stage h).awaits) (weighs : x.weighs → (v.stage h).weighs)
      (spanless : x.phase = .awaitSpan → ∀ p ∈ v.arbiter.spans, p.owner ≠ .hoist h) : SpanStep v (v.put h x)
  | grantMaint {v : SpanView} {c : Claim} {rest : List Claim} {n f l : Nat} (now : Nat)
      (head : v.arbiter.queue = c :: rest) (placed : v.arbiter.place c = some (f, l))
      (claimant : c.claimant = .maint n) : SpanStep v (v.onMap (v.arbiter.granted c.claimant f l now rest))
  /-- R10, R56: a hoist in AWAIT_SPAN goes on with its grant; one held there stays as it is. -/
  | grantHoist {v : SpanView} {c : Claim} {rest : List Claim} {h : Hoist} {f l : Nat} {x : HoistStage} (now : Nat)
      (head : v.arbiter.queue = c :: rest) (placed : v.arbiter.place c = some (f, l))
      (claimant : c.claimant = .hoist h) (load : x.load = (v.stage h).load)
      (goes : (v.stage h).phase = .awaitSpan → x.settled) (stays : (v.stage h).phase ≠ .awaitSpan → x = v.stage h) :
      SpanStep v (((v.onMap (v.arbiter.granted c.claimant f l now rest)).mark (v.stage h).load (some (f, l))).put h x)
  | joinMaint {v : SpanView} {c : Claim} {n : Nat} (claimant : c.claimant = .maint n)
      (spanless : ∀ p ∈ v.arbiter.spans, p.owner ≠ .maint n)
      (claimless : ∀ d ∈ v.arbiter.queue, d.claimant ≠ .maint n) : SpanStep v (v.onMap (v.arbiter.joined c))
  /-- R8, R9: the claim of a hoist that has ended its weigh-in. -/
  | joinHoist {v : SpanView} {c : Claim} {h : Hoist} (claimant : c.claimant = .hoist h)
      (weighed : (v.stage h).phase = .weighIn) :
      SpanStep v ((v.put h { v.stage h with phase := .awaitSpan }).onMap (v.arbiter.joined c))
  | releaseMaint {v : SpanView} (n : Nat) : SpanStep v (v.onMap (v.arbiter.release (.maint n)))
  | withdrawMaint {v : SpanView} (n : Nat) : SpanStep v (v.onMap (v.arbiter.withdraw (.maint n)))
  /-- R29: the raise withdraws the hoist's claim (log entry 44). -/
  | raise {v : SpanView} {h : Hoist} {x : HoistStage} (load : x.load = (v.stage h).load) (raised : x.settled) :
      SpanStep v ((v.put h x).onMap (v.arbiter.withdraw (.hoist h)))
  /-- R27: CANCEL before the grant. -/
  | cancel {v : SpanView} {h : Hoist} (before : (v.stage h).phase = .weighIn ∨ (v.stage h).phase = .awaitSpan) :
      SpanStep v (((v.mark (v.stage h).load none).put h .empty).onMap (v.arbiter.withdraw (.hoist h)))
  /-- R21, R57: the dip ends and the span is released. -/
  | out {v : SpanView} {h : Hoist} (after : ¬ (v.stage h).awaits) :
      SpanStep v (((v.mark (v.stage h).load none).put h .empty).onMap (v.arbiter.release (.hoist h)))
  | serve {v : SpanView} {z : Nat} {b : Bool} (zone : 1 ≤ z)
      (free : b = true ∨ ∀ p ∈ v.arbiter.spans, p.covers z = false) : SpanStep v (v.onMap (v.arbiter.served z b))

/-- What the work of an event makes of the map, the queue and the hoists: any number of moves. -/
def SpanMoves (s t : State) : Prop := Relation.ReflTransGen SpanStep s.spanView t.spanView

section Moves
variable {s t u : State} {h : Hoist}

theorem SpanMoves.trans (ha : SpanMoves s t) (hb : SpanMoves t u) : SpanMoves s u :=
  Relation.ReflTransGen.trans ha hb

theorem SpanMoves.of_view (ht : t.spanView = s.spanView) : SpanMoves s t := by
  rw [SpanMoves, ht]

@[refl] theorem SpanMoves.refl (s : State) : SpanMoves s s := .of_view rfl

theorem SpanMoves.of_step (ht : SpanStep s.spanView t.spanView) : SpanMoves s t := Relation.ReflTransGen.single ht

/-- Operations before the moves that leave the view as it is. -/
theorem SpanMoves.after (hu : u.spanView = s.spanView) (ht : SpanMoves u t) : SpanMoves s t :=
  (SpanMoves.of_view hu).trans ht

/-- Operations after the moves that leave the view as it is. -/
theorem SpanMoves.still (ht : SpanMoves s t) (hu : u.spanView = t.spanView) : SpanMoves s u :=
  ht.trans (.of_view hu)

theorem SpanMoves.ite {p : Prop} [Decidable p] (ht : p → SpanMoves s t) (hu : ¬ p → SpanMoves s u) :
    SpanMoves s (if p then t else u) := by
  split
  · exact ht ‹_›
  · exact hu ‹_›

/-! ## A hoist past its wait -/

/-- The hoist is at a settled stage in `t`, and nothing else that the laws read has changed. -/
def Turns (h : Hoist) (s t : State) : Prop :=
  ∃ x : HoistStage, x.settled ∧ x.load = (s.spanView.stage h).load ∧ t.spanView = s.spanView.put h x

theorem Turns.trans (ha : Turns h s t) (hb : Turns h t u) : Turns h s u := by
  obtain ⟨x, -, hxl, ht⟩ := ha
  obtain ⟨y, hy, hyl, hu⟩ := hb
  rw [ht, SpanView.put_stage] at hyl
  exact ⟨y, hy, hyl.trans hxl, by rw [hu, ht, SpanView.put_put]⟩

theorem Turns.still (ht : Turns h s t) (hu : u.spanView = t.spanView) : Turns h s u := by
  obtain ⟨x, hx, hxl, ht⟩ := ht
  exact ⟨x, hx, hxl, hu.trans ht⟩

theorem Turns.after (hu : u.spanView = s.spanView) (ht : Turns h u t) : Turns h s t := by
  rwa [Turns, hu] at ht

theorem Turns.of_settled (hs : (s.spanView.stage h).settled) (ht : t.spanView = s.spanView) : Turns h s t :=
  ⟨_, hs, rfl, by rw [ht, SpanView.put_self]⟩

theorem turns_of_stage {f : Sequencer → Sequencer} (hf : (f (s.seq h)).stage.settled)
    (hl : (f (s.seq h)).load = (s.seq h).load) : Turns h s (modSeq h f s) :=
  ⟨_, hf, hl, spanView_modSeq h f s⟩

theorem turns_modSeq {f : Sequencer → Sequencer}
    (hp : (f (s.seq h)).phase ∉ [Phase.awaitSpan, .weighIn, .held, .jogging])
    (hl : (f (s.seq h)).load = (s.seq h).load) : Turns h s (modSeq h f s) :=
  turns_of_stage (HoistStage.settled_of_phase hp) hl

theorem turns_setPhase {p : Phase} (hp : p ∉ [Phase.awaitSpan, .weighIn, .held, .jogging]) :
    Turns h s (setPhase h p s) :=
  turns_modSeq hp rfl

theorem Turns.settled (ht : Turns h s t) : (t.spanView.stage h).settled := by
  obtain ⟨x, hx, -, ht⟩ := ht
  rw [ht, SpanView.put_stage]
  exact hx

theorem Turns.not_awaits (ht : Turns h s t) : ¬ (t.spanView.stage h).awaits := ht.settled.1

/-- A hoist that waits for no grant may pass to a settled stage. -/
theorem Turns.moves (ht : Turns h s t) (g : ¬ (s.spanView.stage h).awaits) : SpanMoves s t := by
  obtain ⟨x, hx, hxl, ht⟩ := ht
  refine .of_step (ht ▸ .turn hxl (fun hw => absurd hw g) (fun hw => absurd hw hx.1) (fun hw => absurd hw hx.2)
    fun hp => absurd (Or.inl hp) hx.1)

/-- A hoist may pass between AWAIT_SPAN and HELD or JOGGING in it, its claim waiting on, and the same in WEIGH_IN. -/
theorem SpanMoves.of_turn {x : HoistStage} (ht : t.spanView = s.spanView.put h x)
    (load : x.load = (s.spanView.stage h).load) (awaits : x.awaits ↔ (s.spanView.stage h).awaits)
    (weighs : x.weighs → (s.spanView.stage h).weighs) (phase : x.phase ≠ .awaitSpan) : SpanMoves s t :=
  .of_step (ht ▸ .turn load (fun hw => .inl (awaits.2 hw)) awaits.1 weighs fun hp => absurd hp phase)

theorem settled_of_phase (hp : (s.seq h).phase ∉ [Phase.awaitSpan, .weighIn, .held, .jogging]) :
    (s.spanView.stage h).settled :=
  HoistStage.settled_of_phase hp

theorem not_awaits_of_phase (hp : (s.seq h).phase ∉ [Phase.awaitSpan, .held, .jogging]) :
    ¬ (s.spanView.stage h).awaits :=
  HoistStage.not_awaits_of_phase hp

end Moves

/-! ## Travel in, the gate and the entry (R10 to R13) -/

section TravelIn
variable (h : Hoist) (s : State)

theorem enterImmerse_turns : Turns h s (enterImmerse h s) :=
  Turns.still (turns_modSeq (by simp) rfl) (spanView_sendSkimAtLead h _)

theorem beginEntry_turns : Turns h s (beginEntry h s) := by
  have entered : Turns h s (issueLift h (s.seq h).pImm (s.entrySpeed h) (setPhase h .entry s)).1 :=
    Turns.still (turns_setPhase (by decide)) (spanView_issueLift ..)
  unfold beginEntry
  dsimp only
  split
  · exact entered.trans (enterImmerse_turns h _)
  · exact entered

theorem admitLoad_turns (r : LoadRec) (theta : Int) : Turns h s (admitLoad h r theta s) :=
  Turns.after (by simp) (beginEntry_turns h _)

variable {h s}

theorem trial_turns (hs : (s.spanView.stage h).settled) : Turns h s (trial h s) := by
  unfold trial
  split
  · split
    · exact .of_settled hs rfl
    · split
      · exact admitLoad_turns ..
      · exact .of_settled hs (by simp)
  · exact .of_settled hs rfl

variable (h s)

theorem trial_moves : SpanMoves s (trial h s) := by
  by_cases hp : (s.seq h).phase = .awaitAdmit
  · have hs : (s.spanView.stage h).settled := settled_of_phase (by simp [hp])
    exact (trial_turns hs).moves hs.1
  · rw [trial, if_neg hp]

theorem tryWaiting_moves : SpanMoves s (tryWaiting s) := by
  have both (h k : Hoist) (u : State) : SpanMoves u (trial h (trial k u)) := (trial_moves k u).trans (trial_moves h _)
  unfold tryWaiting
  dsimp only
  split
  · split
    · exact .after (by simp) (both .B .A _)
    · exact .after (by simp) (both .A .B _)
  · exact both .B .A s

theorem withDepthTrials_moves {f : State → State} (hf : SpanMoves s (f s)) : SpanMoves s (withDepthTrials f s) := by
  unfold withDepthTrials
  split
  · exact hf
  · exact hf.trans (tryWaiting_moves _)

theorem enterAwaitAdmit_turns : Turns h s (enterAwaitAdmit h s) := by
  have entered : Turns h s (modSeq h (fun q => { q with phase := .awaitAdmit, motion := none }) s) :=
    turns_modSeq (by simp) rfl
  exact entered.trans (trial_turns entered.settled)

theorem beginTravelIn_turns : Turns h s (beginTravelIn h s) := by
  have travels : Turns h s (issueTravel h ((s.seq h).centre.getD 0) (setPhase h .travelIn s)).1 :=
    Turns.still (turns_setPhase (by decide)) (spanView_issueTravel ..)
  unfold beginTravelIn
  dsimp only
  split
  · exact travels.trans (enterAwaitAdmit_turns h _)
  · exact travels

end TravelIn

/-! ## Claims and spans (R49 to R58) -/

section Claims
variable {s : State} {c : Claim} {rest : List Claim} {f l : Nat}

/-- A grant to a hoist writes the map and the record of its load, and a hoist in AWAIT_SPAN then travels in (R10, R56). -/
theorem grant_hoist_view (h : Hoist) (first last : Nat) (s : State) :
    ∃ u, grant (.hoist h) first last s = (if (u.seq h).phase = .awaitSpan then beginTravelIn h u else u) ∧
      u.spanView = (s.spanView.onMap (s.arbiter.granted (.hoist h) first last s.clock s.arbiter.queue)).mark
        (s.spanView.stage h).load (some (first, last)) := by
  refine ⟨_, rfl, ?_⟩
  rw [spanView_modSeq_of, spanView_modCarried (x := some (first, last)), spanView_onMap]
  · rfl
  all_goals exact fun _ => rfl

theorem grant_moves (head : s.arbiter.queue = c :: rest) (placed : s.arbiter.place c = some (f, l)) :
    SpanMoves s (grant c.claimant f l { s with arbiter := { s.arbiter with queue := rest } }) := by
  refine .of_step ?_
  cases hc : c.claimant with
  | maint n =>
    have granted := SpanStep.grantMaint (v := s.spanView) s.clock head placed hc
    rwa [hc] at granted
  | hoist h =>
    obtain ⟨u, hg, hu⟩ := grant_hoist_view h f l { s with arbiter := { s.arbiter with queue := rest } }
    have step {x : HoistStage} := SpanStep.grantHoist (v := s.spanView) (x := x) s.clock head placed hc
    have hphase : (u.seq h).phase = (s.spanView.stage h).phase := congrArg (fun v => (v.stage h).phase) hu
    rw [hc] at step
    rw [hg, hphase]
    split
    next hp =>
      obtain ⟨x, hx, hxl, travels⟩ := beginTravelIn_turns h u
      rw [hu] at hxl travels
      rw [travels]
      exact step hxl (fun _ => hx) fun hne => absurd hp hne
    next hp =>
      have stays := step rfl (fun h => absurd h hp) fun _ => rfl
      have same := u.spanView.put_self h
      rw [hu] at same ⊢
      rwa [← same]

theorem tryPlacement_moves (n : Nat) (s : State) : SpanMoves s (tryPlacement n s) := by
  induction n generalizing s with
  | zero => exact .refl s
  | succ n ih =>
    unfold tryPlacement
    split
    · exact .refl s
    next c rest head =>
      split
      · exact .refl s
      next f l placed => exact (grant_moves head placed).trans (ih _)

theorem placeClaims_moves (s : State) : SpanMoves s (placeClaims s) := tryPlacement_moves _ s

variable {u : State} {o : Owner}

theorem joinClaim_moves (hu : SpanStep s.spanView (u.spanView.onMap (u.spanView.arbiter.joined c))) :
    SpanMoves s (joinClaim c u) :=
  have joined : SpanMoves s { u with arbiter := u.arbiter.joined c } := .of_step hu
  .ite (fun _ => joined.trans (placeClaims_moves _)) fun _ => joined

theorem withdrawClaim_moves (hu : SpanStep s.spanView (u.spanView.onMap (u.spanView.arbiter.withdraw o))) :
    SpanMoves s (withdrawClaim o u) :=
  have withdrawn : SpanMoves s { u with arbiter := u.arbiter.withdraw o } := .of_step hu
  .ite (fun _ => withdrawn.trans (placeClaims_moves _)) fun _ => withdrawn

theorem releaseSpan_moves (hu : SpanStep s.spanView (u.spanView.onMap (u.spanView.arbiter.release o))) :
    SpanMoves s (releaseSpan o u) :=
  have released : SpanMoves s { u with arbiter := u.arbiter.release o } := .of_step hu
  released.trans (placeClaims_moves _)

theorem enterAwaitSpan_moves {h : Hoist} (hp : (s.seq h).phase = .weighIn) : SpanMoves s (enterAwaitSpan h s) := by
  refine joinClaim_moves ?_
  rw [spanView_setPhase]
  exact .joinHoist rfl hp

end Claims

end Sys2Proof.Machine
end

section
/-! PROOFS. Spans and claims: the moves that the dip cycle makes from the withdrawal on, and at the field line. -/

namespace Sys2Proof.Machine

/-! ## The end of a dip (R21, R27, R57) -/

theorem spanView_endDip (h : Hoist) (s : State) :
    (endDip h s).spanView = (s.spanView.mark (s.spanView.stage h).load none).put h .empty := by
  have ended : (modCarried h (fun r => if r.admitted then r.completed else r.returned) s).spanView =
      s.spanView.mark (s.spanView.stage h).load none := by
    refine spanView_modCarried (fun r => ?_) (fun r => ?_) h s
    · split <;> rfl
    · split <;> rfl
  unfold endDip
  dsimp only
  rw [spanView_modSeq]
  split
  · rw [spanView_freeJig, ended]
    rfl
  · rw [ended]
    rfl

theorem SpanArbiter.spanOf_eq_none_iff {a : SpanArbiter} {o : Owner} :
    a.spanOf o = none ↔ ∀ p ∈ a.spans, p.owner ≠ o := by
  simp [SpanArbiter.spanOf]

theorem SpanArbiter.release_of_spanless {a : SpanArbiter} {o : Owner} (hno : ∀ p ∈ a.spans, p.owner ≠ o) :
    a.release o = a := by
  rw [SpanArbiter.release, List.filter_eq_self.2 (by simpa using hno)]

section Past
variable {h : Hoist} {s : State} (g : ¬ (s.spanView.stage h).awaits)
include g

theorem travelOutArrival_moves : SpanMoves s (travelOutArrival h s) := by
  refine releaseSpan_moves ?_
  rw [spanView_endDip]
  exact .out g

theorem beginTravelOut_moves : SpanMoves s (beginTravelOut h s) := by
  have travels : Turns h s (issueTravel h (s.stationPosition h) (setPhase h .travelOut s)).1 :=
    Turns.still (turns_setPhase (by decide)) (spanView_issueTravel ..)
  unfold beginTravelOut
  dsimp only
  split
  · exact (travels.moves g).trans (travelOutArrival_moves travels.not_awaits)
  · exact travels.moves g

end Past

/-! ## Withdrawal, drain and weigh-out (R17 to R20) -/

section Drain
variable (h : Hoist) (s : State)

theorem enterWeighOut_turns : Turns h s (enterWeighOut h s) := by
  unfold enterWeighOut
  exact Turns.still (turns_modSeq (by simp) rfl) (spanView_startWeigh ..)

variable {h s}

theorem runDrain_turns (hs : (s.spanView.stage h).settled) : Turns h s (runDrain h s) := by
  unfold runDrain
  split
  · exact enterWeighOut_turns h s
  · exact .of_settled hs (by simp)

variable (h s)

theorem enterDrain_turns : Turns h s (enterDrain h s) := by
  have drains : Turns h s (modSeq h (fun q =>
      { q with phase := .drain, motion := none, vibrate := (s.latched h).map Latched.vibrate,
               drain := (s.latched h).map Latched.drain }) s) := turns_modSeq (by simp) rfl
  exact drains.trans (runDrain_turns drains.settled)

end Drain

section Past
variable {h : Hoist} {s : State} (g : ¬ (s.spanView.stage h).awaits)
include g

theorem withdrawArrival_moves : SpanMoves s (withdrawArrival h s) :=
  .ite (fun _ => (enterDrain_turns h s).moves g) fun _ => beginTravelOut_moves g

theorem liftOut_moves : SpanMoves s (liftOut h s) := by
  have lifts : Turns h s (issueLift h (s.seq h).pClr (s.withdrawSpeed h) (setPhase h .withdraw s)).1 :=
    Turns.still (turns_setPhase (by decide)) (spanView_issueLift ..)
  unfold liftOut
  dsimp only
  split
  · exact (lifts.moves g).trans (withdrawArrival_moves lifts.not_awaits)
  · exact lifts.moves g

theorem startWithdraw_moves : SpanMoves s (startWithdraw h s) :=
  have stopped : (modCarried h (fun r => { r with withdrawTime := some s.clock }) (stopOverdip h s)).spanView =
      s.spanView := by simp
  .after stopped (liftOut_moves (by rwa [stopped]))

end Past

/-! ## The end-of-immersion decision (R15, R16) -/

section Skim
variable (h : Hoist) (s : State)

/-- A hoist in AWAIT_SKIM withdraws its load; in any other phase it stays (R14, R16). -/
theorem withdrawFromAwaitSkim_moves :
    SpanMoves s (if (s.seq h).phase = .awaitSkim then startWithdraw h s else s) :=
  .ite (fun hp => startWithdraw_moves (not_awaits_of_phase (by simp [hp]))) fun _ => .refl s

theorem checkSkimWait_moves : SpanMoves s (checkSkimWait h s) :=
  .ite (fun _ => .after (by simp) (withdrawFromAwaitSkim_moves h (withdrawSkim h (markMissed h s)))) fun _ => .refl s

theorem skimDone_moves : SpanMoves s (skimDone h s) :=
  .ite (fun _ => .after (by simp) (withdrawFromAwaitSkim_moves h (modSeq h (fun q => { q with skim := .done s.clock }) s)))
    fun _ => .refl s

theorem skimMissedAnswer_moves : SpanMoves s (skimMissedAnswer h s) :=
  .ite (fun _ => .after (by simp) (withdrawFromAwaitSkim_moves h (markMissed h s))) fun _ => .refl s

variable {h s}

theorem askSkimAgain_moves (g : ¬ (s.spanView.stage h).awaits) (wait : Nat) : SpanMoves s (askSkimAgain h wait s) := by
  have asked : Turns h s (requestSkim h (dueIn 0 s)
      (modSeq h (fun q => { q with phase := .awaitSkim, skimWait := some wait }) s)) :=
    Turns.still (turns_modSeq (by simp) rfl) (spanView_requestSkim ..)
  exact .ite (fun _ => (asked.moves g).trans (startWithdraw_moves asked.not_awaits))
    fun _ => (asked.moves g).trans (checkSkimWait_moves h _)

theorem endDecision_moves (g : ¬ (s.spanView.stage h).awaits) : SpanMoves s (endDecision h s) := by
  have waits : Turns h s (modSeq h (fun q => { q with phase := .awaitSkim, skimWait := some (q.skimWait.getD 0) }) s) :=
    turns_modSeq (by simp) rfl
  unfold endDecision
  split
  · exact .ite (fun _ => startWithdraw_moves g) fun _ => askSkimAgain_moves g _
  · exact startWithdraw_moves g
  · exact (waits.moves g).trans (checkSkimWait_moves h _)
  · exact askSkimAgain_moves g _

variable (h s)

theorem countdownZero_moves : SpanMoves s (countdownZero h s) :=
  .after (spanView_startOverdip h s) (.ite
    (fun hp => endDecision_moves (not_awaits_of_phase (by simp [hp]))) fun _ => checkSkimWait_moves h _)

end Skim

/-! ## Weights taken (R8, R20, R26) -/

section Weights
variable {h : Hoist} {s : State}

theorem weighInStable_moves (w : Nat) (r : Option RangeFlag) : SpanMoves s (weighInStable h w r s) :=
  .ite (fun hp => .after (by simp) (enterAwaitSpan_moves (by rw [seq_modCarried, hp]))) fun _ => .refl s

theorem finishDip_moves (g : ¬ (s.spanView.stage h).awaits) : SpanMoves s (finishDip h s) :=
  .after (by simp) (beginTravelOut_moves (by simpa using g))

theorem weighOutWith_moves (w : Nat) (r : Option RangeFlag) (unsettled : Bool) :
    SpanMoves s (weighOutWith h w r unsettled s) := by
  refine .ite (fun hp => ?_) fun _ => .refl s
  have g := not_awaits_of_phase (s := s) (h := h) (by simp [hp])
  exact .after (by simp) (finishDip_moves (by simpa using g))

theorem weighOutNone_moves (g : ¬ (s.spanView.stage h).awaits) : SpanMoves s (weighOutNone h s) :=
  .after (by simp) (finishDip_moves (by simpa using g))

theorem weighOutPasses_moves : SpanMoves s (weighOutPasses h s) := by
  unfold weighOutPasses
  split
  · exact .after (by simp) (weighOutWith_moves ..)
  · refine .ite (fun hp => ?_) fun _ => .of_view (by simp)
    have g := not_awaits_of_phase (s := s) (h := h) (by simp [hp])
    exact .after (by simp) (weighOutNone_moves (by simpa using g))

theorem scaleReading_moves (x : Int) : SpanMoves s (scaleReading h x s) := by
  have sampled : (goodSample h x s).1.spanView = s.spanView := by simp
  unfold scaleReading
  split
  next hg => exact .of_view (by rw [← sampled, hg])
  next hg => exact .after (by rw [← sampled, hg]) (weighInStable_moves ..)
  next hg => exact .after (by rw [← sampled, hg]) (weighOutWith_moves ..)

end Weights

/-! ## Holding, raising, arrivals and recovery (R4, R22, R29, R32) -/

section Hold
variable (h : Hoist) (s : State)

theorem Sequencer.heldFrom_stage (q : Sequencer) :
    (HoistStage.awaits ⟨.held, q.heldFrom, q.load⟩ ↔ q.stage.awaits) ∧
      (HoistStage.weighs ⟨.held, q.heldFrom, q.load⟩ ↔ q.stage.weighs) := by
  unfold Sequencer.heldFrom Sequencer.stage HoistStage.awaits HoistStage.weighs
  split
  next hp => simp [hp]
  next hp => simp [hp]
  next hj hh =>
    have hj : q.phase ≠ .jogging := hj
    have hh : q.phase ≠ .held := hh
    simp [hj, hh]

/-- A hoist that becomes HELD keeps the phase it was in, and so its wait (R22). -/
theorem enterHeld_moves : SpanMoves s (enterHeld h s) := by
  obtain ⟨awaits, weighs⟩ := (s.seq h).heldFrom_stage
  have stopped : (stopWeigh h (if (s.seq h).motion.isSome then sendCommand (driveOf h) .stop s else s)).spanView =
      s.spanView := by
    split <;> simp
  have hq : (stopWeigh h (if (s.seq h).motion.isSome then sendCommand (driveOf h) .stop s else s)).seq h = s.seq h := by
    split <;> exact seq_congr (by simp) (by simp) h
  refine .of_turn (x := ⟨.held, (s.seq h).heldFrom, (s.seq h).load⟩) ?_ rfl awaits weighs.1 (by simp)
  simp only [enterHeld, spanView_modSeq, hq, stopped]
  rfl

theorem raisingArrival_turns : Turns h s (raisingArrival h s) :=
  turns_of_stage (HoistStage.settled_of_held rfl (by simp [Sequencer.stage])) rfl

theorem liftRaise_turns : Turns h s (liftRaise h s) := by
  have raises : Turns h s (issueLift h (s.seq h).pClr s.raiseSpeed
      (modSeq h (fun q => { q with phase := .raising, heldPhase := none }) s)).1 :=
    Turns.still (turns_modSeq (by simp) rfl) (spanView_issueLift ..)
  unfold liftRaise
  dsimp only
  split
  · exact raises.trans (raisingArrival_turns h _)
  · exact raises

/-- The raise withdraws the claim of a hoist that was HELD in AWAIT_SPAN (log entry 44). -/
theorem enterRaising_moves : SpanMoves s (enterRaising h s) := by
  have raise {u : State} (hu : u.spanView = s.spanView) :
      SpanMoves s (withdrawClaim (.hoist h) (liftRaise h u)) := by
    obtain ⟨x, hx, hxl, raised⟩ := Turns.after hu (liftRaise_turns h u)
    exact withdrawClaim_moves (raised ▸ .raise hxl hx)
  refine raise ?_
  split <;> simp

theorem arrival_moves : SpanMoves s (arrival h s) := by
  have arrived : (modSeq h (fun q => { q with motion := none }) s).spanView = s.spanView := by simp
  unfold arrival
  dsimp only
  refine .after arrived ?_
  generalize modSeq h (fun q => { q with motion := none }) s = u
  have past (hp : (u.seq h).phase ∉ [Phase.awaitSpan, .held, .jogging]) := not_awaits_of_phase hp
  split
  next hp => exact (enterAwaitAdmit_turns h u).moves (past (by simp [hp]))
  next hp => exact (enterImmerse_turns h u).moves (past (by simp [hp]))
  next hp => exact withdrawArrival_moves (past (by simp [hp]))
  next hp =>
    have hs := settled_of_phase (s := u) (h := h) (by simp [hp])
    exact (runDrain_turns hs).moves hs.1
  next hp => exact (enterWeighOut_turns h u).moves (past (by simp [hp]))
  next hp => exact travelOutArrival_moves (past (by simp [hp]))
  next hp => exact (raisingArrival_turns h u).moves (past (by simp [hp]))
  next hp =>
    refine .of_turn (spanView_setPhase h .held u) rfl ?_ ?_ (by simp)
    all_goals simp [HoistStage.awaits, HoistStage.weighs, spanView_stage, Sequencer.stage, hp]
  next => exact .refl u

theorem issueKeptTravel_moves : SpanMoves s (issueKeptTravel h s) := by
  refine .ite (fun _ => ?_) fun _ => .refl s
  split
  next hp => exact (beginTravelIn_turns h s).moves (not_awaits_of_phase (by simp [hp]))
  next hp => exact beginTravelOut_moves (not_awaits_of_phase (by simp [hp]))
  next => exact .refl s

variable {h s}

theorem recoverHeld_moves (g : ¬ (s.spanView.stage h).awaits) {p : Phase} (hp : p ∉ [.awaitSpan, .weighIn]) :
    SpanMoves s (recoverHeld h p s) :=
  (turns_of_stage (HoistStage.settled_of_held rfl (by simpa [Sequencer.stage] using hp)) rfl).moves g

theorem recoverInBath_moves (g : ¬ (s.spanView.stage h).awaits) : SpanMoves s (recoverInBath h s) := by
  have flagged : (modCarried h (fun r => { r with flags := { r.flags with interrupted := true, nonconforming := true } })
      s).spanView = s.spanView := by simp
  refine .after flagged (.still (recoverHeld_moves (p := .withdraw) (by rwa [flagged]) (by decide)) ?_)
  simp [recoverInBath]

theorem recoverClear_moves (g : ¬ (s.spanView.stage h).awaits) : SpanMoves s (recoverClear h s) := by
  have flagged : (modCarried h (fun r => { r with flags := { r.flags with interrupted := true } }) s).spanView =
      s.spanView := by simp
  have waited : (modSeq h (fun q => { q with recoverWait := none }) s).spanView = s.spanView := by simp
  refine .ite (fun _ => .after flagged (recoverHeld_moves (by rwa [flagged]) (by decide))) fun _ =>
    .ite (fun _ => .after waited (beginTravelOut_moves (by rwa [waited]))) fun hno => .of_step ?_
  have ends := SpanStep.out g
  rw [spanView_arbiter, SpanArbiter.release_of_spanless (SpanArbiter.spanOf_eq_none_iff.1 (by simpa using hno))] at ends
  rwa [spanView_endDip]

theorem recoveryOutcome_moves (g : ¬ (s.spanView.stage h).awaits) : SpanMoves s (recoveryOutcome h s) :=
  .ite (fun _ => recoverClear_moves g) fun _ => recoverInBath_moves g

variable (h s)

theorem driveReport_moves (lift travel : Int) (rest : Bool) : SpanMoves s (driveReport h lift travel rest s) := by
  refine .ite (fun _ => .refl s) fun _ => ?_
  have reported : (modSeq h (fun q => { q with lift := some lift, travel := some travel }) s).spanView = s.spanView := by
    simp
  dsimp only
  refine .after reported (.ite (fun hp => ?_) fun _ => ?_)
  · exact .ite (fun _ => recoveryOutcome_moves (not_awaits_of_phase (by simp [hp]))) fun _ => .refl _
  · exact .ite (fun _ => arrival_moves h _) fun _ => issueKeptTravel_moves h _

theorem driveFault_moves : SpanMoves s (driveFault h s) := by
  unfold driveFault
  split
  next => exact .refl s
  next => exact .refl s
  next => exact .refl s
  next hp => exact recoverInBath_moves (not_awaits_of_phase (by simp [hp]))
  next => exact .after (by simp) (enterHeld_moves h _)

end Hold

end Sys2Proof.Machine
end

section
/-! PROOFS. Spans and claims: the moves that every event and every request makes. -/

namespace Sys2Proof.Machine

/-! ## The skimmer and the stations (R66, R71, R158) -/

section Field
variable (s : State)

theorem skimmerAtRest_moves : SpanMoves s (skimmerAtRest s) := by
  unfold skimmerAtRest
  split
  · refine .still (.ite (fun _ => .of_view (spanView_skimmer ..)) fun _ => ?_) (spanView_startSweep _)
    split
    · exact .after (spanView_skimmer ..) (skimDone_moves _ _)
    · exact .of_view (spanView_skimmer ..)
  · exact .refl s

theorem skimMissedAnswers_moves (l : List Hoist) : SpanMoves s (l.foldl (fun s h => skimMissedAnswer h s) s) := by
  induction l generalizing s with
  | nil => exact .refl s
  | cons h l ih => exact (skimMissedAnswer_moves h s).trans (ih _)

theorem skimmerFault_moves (code : Nat) : SpanMoves s (skimmerFault code s) := by
  unfold skimmerFault
  dsimp only
  split
  · exact .refl s
  · refine SpanMoves.still (SpanMoves.after ?_ (skimMissedAnswers_moves _ s.skimmer.cutOff)) (spanView_raise ..)
    rw [spanView_skimmer]
    split <;> simp

theorem thermoEnd_moves (cs : List ChannelView) : SpanMoves s (thermoEnd cs s) :=
  .after (spanView_congr (by simp) (by simp) (by simp) (by simp) (by simp)) (tryWaiting_moves _)

theorem deliverReport_moves (st : Station) (r : FieldReport) : SpanMoves s (deliverReport st r s) := by
  unfold deliverReport
  split
  · exact driveReport_moves ..
  · exact driveReport_moves ..
  · exact withDepthTrials_moves s (scaleReading_moves _)
  · exact withDepthTrials_moves s (scaleReading_moves _)
  · exact .ite (fun _ => skimmerAtRest_moves s) fun _ => .refl s
  · exact thermoEnd_moves s _
  · exact withDepthTrials_moves s (.of_view (by simp))
  · exact .refl s

theorem deliverMasked_moves (st : Station) (k : TransKind) : SpanMoves s (deliverMasked st k s) := by
  unfold deliverMasked
  split
  · exact .of_view (by simp)
  · exact .of_view (by simp)
  · exact thermoEnd_moves s _
  · exact .of_view (by simp)
  · exact .refl s

theorem deliverFault_moves (st : Station) (code : Nat) : SpanMoves s (deliverFault st code s) := by
  unfold deliverFault
  split
  · exact driveFault_moves ..
  · exact driveFault_moves ..
  · exact .of_view (by simp)
  · exact .of_view (by simp)
  · exact skimmerFault_moves ..
  · exact thermoEnd_moves s _
  · exact .refl s

theorem transactionEnd_moves (st : Station) (code : Nat) (k : TransKind) (attempts : Nat) (r : FieldReport) :
    SpanMoves s (transactionEnd st code k attempts r s) :=
  .ite (fun _ => .ite (fun _ => deliverReport_moves s st r) fun _ => deliverMasked_moves s st k)
    fun _ => .after (by simp) (deliverFault_moves _ st code)

theorem attemptEnds_moves (st : Station) (code : Nat) (r : FieldReport) (t : Transaction) :
    SpanMoves s (attemptEnds st code r t s) :=
  .ite (fun _ => .ite (fun _ => .of_view (by simp)) fun _ => .of_view (by simp))
    fun _ => .after (by simp) (transactionEnd_moves _ st code t.kind (t.attempts + 1) r)

theorem answer_moves (st : Station) (code : Nat) (r : FieldReport) : SpanMoves s (answer st code r s) := by
  unfold answer
  split
  · exact attemptEnds_moves ..
  · exact .refl s

theorem noAnswer_moves (st : Station) : SpanMoves s (noAnswer st s) := by
  unfold noAnswer
  split
  · exact attemptEnds_moves ..
  · exact .refl s

end Field

/-! ## Events -/

/-- What an event of the blocks' work makes of spans, claims and hoists is made of moves. -/
theorem effect_moves {i : Instr} {e : State → State} (he : eventOf i = some e) (s : State) : SpanMoves s (e s) := by
  have whenDue {b : Bool} {t : State} (ht : b = true → SpanMoves s t) : SpanMoves s (if b = true then t else s) :=
    .ite ht fun _ => .refl s
  cases i <;> simp only [eventOf, Option.some.injEq, reduceCtorEq] at he <;> subst he
  case holdButton4sMark h =>
    exact whenDue fun _ => .ite (fun _ => enterRaising_moves h s) fun _ => .of_view (by simp)
  case motionOverdue h =>
    exact .ite (fun _ => .after (by simp) (enterHeld_moves h _)) fun _ => .of_view (spanView_lateOverdue h s)
  case skimLeadReached h => exact .of_view (spanView_sendSkimAtLead h s)
  case immersionCountdownZero h => exact whenDue fun _ => countdownZero_moves h s
  case skimWaitExpired h => exact checkSkimWait_moves h s
  case overdipLimitExceeded h => exact .of_view (spanView_compareOverdip h s)
  case vibrateEnd h =>
    refine whenDue fun hd => ?_
    have hs := settled_of_phase (s := s) (h := h) (by simp [((vibrateDue_iff h s).1 hd).1])
    exact (runDrain_turns hs).moves hs.1
  case drainEnd h =>
    refine whenDue fun hd => (enterWeighOut_turns h s).moves (not_awaits_of_phase ?_)
    simp [((drainDue_iff h s).1 hd).1]
  case recoveryTimeout h =>
    refine whenDue fun hd => recoverInBath_moves (not_awaits_of_phase ?_)
    simp [((recoveryDue_iff h s).1 hd).1]
  case weighInTimeout h => exact whenDue fun _ => .of_view (by simp)
  case weighOutTimeout h => exact whenDue fun _ => withDepthTrials_moves s weighOutPasses_moves
  case gateTrialTick h => exact trial_moves h s
  case windowEntryExpiry => exact whenDue fun _ => .after (by simp) (tryWaiting_moves { s with window := s.window.tail })
  case kettleQuiet => exact whenDue fun _ => .of_view (by simp)
  case reconcileTimeout => exact whenDue fun _ => .of_view (by simp)
  case fieldPollDue st => exact .of_view (by simp)
  case fieldRetryDue st => exact .of_view (by simp)
  case fieldNoAnswer st => exact noAnswer_moves s st
  case fieldAnswerReceived st code r => exact answer_moves s st code r

theorem pressButton_moves (h : Hoist) (s : State) : SpanMoves s (pressButton h s) := by
  have pressed : (modSeq h (fun q => { q with pressed := true }) s).spanView = s.spanView := by simp
  unfold pressButton
  dsimp only
  refine .after pressed (.ite (fun _ => ?_) fun _ => .ite (fun _ => .of_view (by simp)) fun _ => .refl _)
  exact .still (enterHeld_moves h _) (by simp)

/-! ## Requests of a hoist (R6 to R31) -/

theorem SpanMoves.ended {s t : State} (ht : SpanMoves s t) : SpanMoves s (endEvent t) :=
  .still ht (spanView_endEvent t)

section Requests
variable {h : Hoist} {s : State}

section TakeUp
variable {u : State} (g : ¬ (u.spanView.stage h).awaits)
include g

theorem resumeImmerse_moves : SpanMoves u (resumeImmerse h u) := by
  refine .ite (fun _ => .after ?_ (endDecision_moves ?_)) fun _ => .refl u
  · split <;> simp
  · split
    · simpa using g
    · exact g

theorem resumeWithdraw_moves : SpanMoves u (resumeWithdraw h u) :=
  .after (by simp) (liftOut_moves (by simpa using g))

theorem resumeDrain_moves (hp : (u.seq h).phase = .drain) : SpanMoves u (resumeDrain h u) := by
  have counts : (modSeq h (fun q =>
      { q with vibrate := some (q.vibrate.getD (((u.latched h).map Latched.vibrate).getD 0)),
               drain := some (q.drain.getD (((u.latched h).map Latched.drain).getD 0)) }) u).spanView = u.spanView := by
    simp
  have hs : (u.spanView.stage h).settled := settled_of_phase (by simp [hp])
  refine .ite (fun _ => .after counts (.ite (fun _ => ?_) fun _ => .of_view (by simp))) fun _ => beginTravelOut_moves g
  exact (runDrain_turns (by rwa [counts])).moves (by rwa [counts])

theorem resumeWeighOut_moves : SpanMoves u (resumeWeighOut h u) :=
  .ite (fun _ => (enterWeighOut_turns h u).moves g) fun _ => .of_view (by simp)

end TakeUp

/-- RESUME takes up the held phase; into AWAIT_SPAN with the span granted meanwhile, it travels in (R24). -/
theorem takeUp_moves {p : Phase} (held : (s.seq h).phase = .held) (hp : (s.seq h).heldPhase = some p) :
    SpanMoves s (takeUp h p s) := by
  have stage : s.spanView.stage h = ⟨.held, some p, (s.seq h).load⟩ := by
    rw [spanView_stage, Sequencer.stage, held, hp]
  unfold takeUp
  dsimp only
  generalize hu : modSeq h (fun q => { q with phase := p, heldPhase := none, holdTimer := none }) s = u
  have resumed : u.spanView = s.spanView.put h ⟨p, none, (s.seq h).load⟩ := hu ▸ spanView_modSeq ..
  have phase : (u.seq h).phase = p := by
    rw [← hu, modSeq, seq_setSeq]
  have resumes (hne : p ≠ .awaitSpan) : SpanMoves s u := by
    refine .of_turn resumed (by rw [stage]) ?_ ?_ hne
    · simp [stage, HoistStage.awaits, hne]
    · simp [stage, HoistStage.weighs]
  have past (hne : p ≠ .awaitSpan) : ¬ (u.spanView.stage h).awaits := by
    simp [resumed, HoistStage.awaits, hne]
  split
  · exact (resumes (by simp)).still (spanView_startWeigh ..)
  · split
    next hspan =>
      have holds : ∃ q ∈ s.arbiter.spans, q.owner = .hoist h := by
        rw [show u.arbiter = s.arbiter from congrArg SpanView.arbiter resumed] at hspan
        simpa [SpanArbiter.spanOf] using hspan
      obtain ⟨x, hx, hxl, travels⟩ := beginTravelIn_turns h u
      rw [resumed, SpanView.put_put] at travels
      rw [resumed, SpanView.put_stage] at hxl
      exact .of_step (travels ▸ .turn hxl (fun _ => .inr holds) (absurd · hx.1) (absurd · hx.2)
        fun hp => absurd (Or.inl hp) hx.1)
    next hno =>
      rw [show u.arbiter = s.arbiter from congrArg SpanView.arbiter resumed] at hno
      refine .of_step (resumed ▸ .turn rfl (fun _ => .inl (Or.inl rfl)) (fun _ => ?_) ?_ fun _ => ?_)
      · simp [stage, HoistStage.awaits]
      · simp [HoistStage.weighs]
      · exact SpanArbiter.spanOf_eq_none_iff.1 (by simpa using hno)
  · exact (resumes (by simp)).trans ((beginTravelIn_turns h u).moves (past (by simp)))
  · exact (resumes (by simp)).trans (trial_moves h u)
  · exact (resumes (by simp)).trans ((beginEntry_turns h u).moves (past (by simp)))
  · exact (resumes (by simp)).trans (.still (resumeImmerse_moves (past (by simp))) (spanView_returnToImm h _))
  · exact (resumes (by simp)).trans (.still (endDecision_moves (past (by simp))) (spanView_returnToImm h _))
  · exact (resumes (by simp)).trans (resumeWithdraw_moves (past (by simp)))
  · exact (resumes (by simp)).trans (resumeDrain_moves (past (by simp)) phase)
  · exact (resumes (by simp)).trans (resumeWeighOut_moves (past (by simp)))
  · exact (resumes (by simp)).trans (beginTravelOut_moves (past (by simp)))
  · exact (resumes (by simp)).trans ((liftRaise_turns h u).moves (past (by simp)))
  next hne _ _ _ _ _ _ _ _ _ _ => exact resumes hne

theorem jogTo_moves (held : (s.seq h).phase = .held) (target : Int) : SpanMoves s (jogTo h target s) := by
  have stopped : (modSeq h (fun q => { q with holdTimer := none }) s).spanView = s.spanView := by simp
  refine .after stopped (.ite (fun _ => .refl _) fun _ => .still ?_ (spanView_issueMotion ..))
  refine .of_turn (spanView_setPhase h .jogging _) rfl ?_ ?_ (by simp)
  all_goals simp [HoistStage.awaits, HoistStage.weighs, stopped, spanView_stage, Sequencer.stage, held]

theorem finishable_stage {q : Sequencer} (hf : finishable q = true) : q.stage.settled := by
  simp only [finishable, Bool.and_eq_true, Bool.or_eq_true, decide_eq_true_eq] at hf
  obtain ⟨⟨held, hh⟩, -⟩ := hf
  exact HoistStage.settled_of_held held (by rcases hh with hh | hh <;> simp [Sequencer.stage, hh])

theorem finishWithout_moves (hf : finishable (s.seq h) = true) : SpanMoves s (finishWithout h s) := by
  have held : (s.seq h).phase = .held := by
    simp only [finishable, Bool.and_eq_true, decide_eq_true_eq] at hf
    exact hf.1.1
  have freed : Turns h s (modSeq h (fun q =>
      { q with heldPhase := none, holdTimer := none, vibrate := none, drain := none }) s) :=
    turns_of_stage (HoistStage.settled_of_held held (by simp [Sequencer.stage])) rfl
  refine (freed.moves (finishable_stage hf).1).trans ?_
  have past := freed.not_awaits
  exact .ite (fun _ => weighOutNone_moves past) fun _ => .after (by simp) (beginTravelOut_moves (by simpa using past))

theorem onHoist_moves {f : Hoist → State → State × Answer} (hf : ∀ h, SpanMoves s (f h s).1) (n : Nat) :
    SpanMoves s (onHoist n f s).1 := by
  unfold onHoist
  split
  · exact .refl s
  · split
    · exact .refl s
    · split
      · exact .refl s
      · exact hf _

theorem hold_moves (n : Nat) : SpanMoves s (hold n s).1 := by
  refine onHoist_moves (fun h => ?_) n
  split
  · exact .refl s
  · exact .refl s
  · exact .refl s
  · exact (enterHeld_moves h s).ended

theorem resume_moves (n : Nat) : SpanMoves s (resume n s).1 := by
  refine onHoist_moves (fun h => ?_) n
  split
  next held =>
    split
    · exact .refl s
    · split
      next p hp => exact (takeUp_moves held hp).ended
      next => exact .refl s
  next => exact .refl s
  next => exact .refl s

theorem jog_moves (n : Nat) (d : Int) : SpanMoves s (jog n d s).1 := by
  unfold jog
  split
  · exact .refl s
  · refine onHoist_moves (fun h => ?_) n
    split
    next held =>
      split
      · exact .refl s
      · exact (jogTo_moves held _).ended
    next => exact .refl s
    next => exact .refl s

/-- CANCEL before the grant ends the dip and withdraws the claim; after it the hoist travels out (R27, R50). -/
theorem cancel_moves (n : Nat) : SpanMoves s (cancel n s).1 := by
  refine onHoist_moves (fun h => ?_) n
  have before (hb : (s.seq h).phase = .weighIn ∨ (s.seq h).phase = .awaitSpan) :
      SpanMoves s (endEvent (withdrawClaim (.hoist h) (endDip h (stopWeigh h s)))) := by
    refine .ended (withdrawClaim_moves ?_)
    rw [spanView_endDip, spanView_stopWeigh]
    exact .cancel hb
  split
  next hp => exact before (.inl hp)
  next hp => exact before (.inr hp)
  next hp => exact (beginTravelOut_moves (not_awaits_of_phase (by simp [hp]))).ended
  next hp => exact (beginTravelOut_moves (not_awaits_of_phase (by simp [hp]))).ended
  next => exact .refl s

theorem acceptUnweighed_moves (n : Nat) : SpanMoves s (acceptUnweighed n s).1 := by
  refine onHoist_moves (fun h => ?_) n
  split
  next hp =>
    have stopped : (stopWeigh h s).seq h = s.seq h := seq_congr (by simp) (by simp) h
    exact .after (by simp) (enterAwaitSpan_moves (by rw [seq_modCarried, stopped, hp])).ended
  next => exact .refl s

theorem finishUnweighed_moves (n : Nat) : SpanMoves s (finishUnweighed n s).1 := by
  refine onHoist_moves (fun h => ?_) n
  split
  · exact .refl s
  · split
    next hf => exact (withDepthTrials_moves s (finishWithout_moves hf)).ended
    next => exact .refl s

/-! ## Requests of the Span Arbiter (R51 to R60) -/

theorem ownerOf_eq_none_iff {a : SpanArbiter} {z : Nat} : a.ownerOf z = none ↔ ∀ p ∈ a.spans, p.covers z = false := by
  simp [SpanArbiter.ownerOf]

theorem setZoneService_moves (z st : Nat) : SpanMoves s (setZoneService z st s).1 := by
  have serve {b : Bool} (hz : ¬ zoneOk z = false) (hb : b = true ∨ ∀ p ∈ s.arbiter.spans, p.covers z = false) :
      SpanMoves s (setService z b s) := by
    have hz : 1 ≤ z ∧ z ≤ 12 := by simpa [zoneOk] using hz
    exact .of_step (.serve hz.1 hb)
  unfold setZoneService
  split
  · exact .refl s
  next b _ =>
    split
    · exact .refl s
    next hz =>
      split
      · split
        · exact .refl s
        · exact ((serve hz (.inl rfl)).trans (placeClaims_moves _)).ended
      · split
        · exact .refl s
        next hfree => exact serve hz (.inr (ownerOf_eq_none_iff.1 (by simpa using hfree)))

theorem claimZones_moves (n f l : Nat) : SpanMoves s (claimZones n f l s).1 := by
  unfold claimZones
  split
  · exact .refl s
  · split
    · exact .refl s
    · split
      · exact .refl s
      next hnew =>
        simp only [not_or, Option.not_isSome_iff_eq_none, SpanArbiter.spanOf_eq_none_iff] at hnew
        refine (joinClaim_moves (.joinMaint rfl hnew.1 ?_)).ended
        simpa [SpanArbiter.waits] using hnew.2

theorem releaseZones_moves (n : Nat) : SpanMoves s (releaseZones n s).1 := by
  unfold releaseZones
  split
  · exact .refl s
  · split
    · exact (releaseSpan_moves (.releaseMaint n)).ended
    · split
      · exact (withdrawClaim_moves (.withdrawMaint n)).ended
      · exact .refl s

theorem bookChange_moves (f : Balance → Balance) : SpanMoves s (bookChange f s).1 :=
  (withDepthTrials_moves s (.of_view (by simp))).ended

end Requests

/-! ## Requests -/

/-- The requests that bring a load record or take one away, give a load to an idle hoist, or enable or disable one. -/
def entersLoad : Instr → Bool
  | .registerLoad .. => true
  | .removeLoad _ => true
  | .present .. => true
  | .enableHoist _ => true
  | .disableHoist _ => true
  | _ => false

/-- What every other request makes of spans, claims and hoists is made of moves. -/
theorem owner_moves {i : Instr} {f : State → State × Answer} (ho : ownerOf i = some f) (hi : entersLoad i = false)
    (s : State) : SpanMoves s (f s).1 := by
  cases i <;> simp only [ownerOf, Option.some.injEq, reduceCtorEq] at ho <;> subst ho
  case registerLoad | removeLoad | present | enableHoist | disableHoist => simp [entersLoad] at hi
  case hold n => exact hold_moves n
  case resume n => exact resume_moves n
  case jog n d => exact jog_moves n d
  case cancel n => exact cancel_moves n
  case acceptUnweighed n => exact acceptUnweighed_moves n
  case finishUnweighed n => exact finishUnweighed_moves n
  case setZoneService z st => exact setZoneService_moves z st
  case claimZones n f l => exact claimZones_moves n f l
  case releaseZones n => exact releaseZones_moves n
  case chargeZinc | reportDross | reportAsh =>
    simp only [chargeZinc, reportDross, reportAsh]
    split
    · exact .refl s
    · exact bookChange_moves _
  case identify | setClock | restart | lockCalibration | readZones | readBalance | readFault | ackFault => exact .refl s
  case readStatus | readSetting | readClass | readOrder | readLoad | readJig | readPeriod =>
    simp only [readStatus, readSetting, readClass, readOrder, readLoad, readJig, readPeriod]
    (repeat' split) <;> exact .refl s
  case writeClass | restoreSkimmer | reconcile | discardPeriod | setNoticeMask | fetchNotice =>
    simp only [writeClass, restoreSkimmer, reconcile, discardPeriod, setNoticeMask, fetchNotice]
    (repeat' split) <;> exact .refl s
  case writeSetting | closePeriod | readFieldStatus =>
    simp only [writeSetting, closePeriod, readFieldStatus]
    (repeat' split) <;> refine .of_view (spanView_congr ?_ ?_ ?_ ?_ ?_) <;>
      simp [putSetting, emptyAccumulators, Station.all]
  case openOrder | closeOrder | removeOrder | addJig | stripJig | removeJig =>
    simp only [openOrder, closeOrder, removeOrder, addJig, stripJig, removeJig]
    (repeat' split) <;> refine .of_view (spanView_congr ?_ ?_ ?_ ?_ ?_) <;> simp [modOrder, modJig]

/-- The others leave the map and the queue as they are. -/
theorem owner_arbiter {i : Instr} {f : State → State × Answer} (ho : ownerOf i = some f) (hi : entersLoad i = true)
    (s : State) : (f s).1.arbiter = s.arbiter := by
  cases i <;> simp only [entersLoad, Bool.false_eq_true] at hi <;>
    simp only [ownerOf, Option.some.injEq] at ho <;> subst ho
  case registerLoad | removeLoad | present | enableHoist | disableHoist =>
    simp only [registerLoad, removeLoad, present, enableHoist, disableHoist]
    (repeat' split) <;> simp

end Sys2Proof.Machine
end

section
/-! PROOFS. The placement of a claim, and the laws of the map that every move keeps (R48, R53, R54, R55). -/

namespace Sys2Proof.Machine

/-! ## Zones that may be granted (R48) -/

theorem Span.covers_iff (p : Span) (z : Nat) : p.covers z = true ↔ p.first ≤ z ∧ z ≤ p.last := by
  simp [Span.covers]

theorem SpanArbiter.runAvailable_iff (a : SpanArbiter) (f l : Nat) :
    a.runAvailable f l = true ↔ ∀ z, f ≤ z → z ≤ l → a.service.getD (z - 1) false = true ∧
      ∀ p ∈ a.spans, ¬ (p.first ≤ z ∧ z ≤ p.last) := by
  have hz (z : Nat) : (f ≤ z ∧ z < f + (l + 1 - f)) ↔ (f ≤ z ∧ z ≤ l) := by omega
  simp only [SpanArbiter.runAvailable, SpanArbiter.available, SpanArbiter.inService, List.all_eq_true,
    List.mem_range'_1, hz, Bool.and_eq_true, Bool.not_eq_true', ← Bool.not_eq_true, Span.covers_iff, and_imp]

/-! ## First fit (R54) -/

theorem SpanArbiter.belowB_iff (a : SpanArbiter) (last : Nat) :
    a.belowB last = true ↔ ∀ b, a.spanOf (.hoist .B) = some b → last + 2 ≤ b.first := by
  unfold SpanArbiter.belowB
  cases a.spanOf (.hoist .B) <;> simp

theorem SpanArbiter.aboveA_iff (a : SpanArbiter) (first : Nat) :
    a.aboveA first = true ↔ ∀ p, a.spanOf (.hoist .A) = some p → p.last + 2 ≤ first := by
  unfold SpanArbiter.aboveA
  cases a.spanOf (.hoist .A) <;> simp

/-- The last of a run of numbers that meets a condition. -/
theorem find?_reverse_range'_eq_some {s n i : Nat} {c : Nat → Bool} :
    (List.range' s n).reverse.find? c = some i ↔
      c i = true ∧ i ∈ List.range' s n ∧ ∀ j, i < j → j < s + n → c j = false := by
  induction n with
  | zero => simp
  | succ n ih =>
    rw [List.range'_concat, List.reverse_append, List.reverse_singleton, List.singleton_append, List.find?_cons]
    simp only [List.mem_append, List.mem_range'_1, Nat.one_mul, List.mem_singleton] at ih ⊢
    split
    next hlast =>
      constructor
      · rintro ⟨⟩
        exact ⟨hlast, .inr rfl, fun j h1 h2 => by omega⟩
      · rintro ⟨-, hi, hmax⟩
        rcases hi with hi | hi
        · rw [hmax (s + n) (by omega) (by omega)] at hlast
          cases hlast
        · rw [hi]
    next hlast =>
      rw [ih]
      constructor
      · rintro ⟨hc, hi, hmax⟩
        refine ⟨hc, .inl hi, fun j h1 h2 => ?_⟩
        rcases Nat.lt_or_ge j (s + n) with h | h
        · exact hmax j h1 h
        · rw [show j = s + n by omega]
          simpa using hlast
      · rintro ⟨hc, hi, hmax⟩
        refine ⟨hc, ?_, fun j h1 h2 => hmax j h1 (by omega)⟩
        rcases hi with hi | hi
        · exact hi
        · rw [← hi, hc] at hlast
          cases hlast

/-- A span of `n` zones from `f` on fits hoist A's end: the zones may be granted, with the runway condition met. -/
def SpanArbiter.fitsA (a : SpanArbiter) (n f : Nat) : Prop :=
  f + n ≤ 13 ∧ a.runAvailable f (f + n - 1) = true ∧ a.belowB (f + n - 1) = true

/-- A span of `n` zones up to `l` fits hoist B's end. -/
def SpanArbiter.fitsB (a : SpanArbiter) (n l : Nat) : Prop :=
  n ≤ l ∧ a.runAvailable (l + 1 - n) l = true ∧ a.aboveA (l + 1 - n) = true

/-- Hoist A takes the lowest first zone that fits. -/
theorem SpanArbiter.placeHoist_A_iff (a : SpanArbiter) (n f l : Nat) :
    a.placeHoist .A n = some (f, l) ↔
      (1 ≤ f ∧ f ≤ 12 ∧ a.fitsA n f) ∧ l = f + n - 1 ∧ ∀ g, 1 ≤ g → g < f → ¬ a.fitsA n g := by
  simp only [SpanArbiter.placeHoist, Option.map_eq_some_iff, List.find?_range'_eq_some, Prod.mk.injEq,
    List.mem_range'_1, Bool.and_eq_true, decide_eq_true_eq, Bool.not_eq_true', ← Bool.not_eq_true, and_assoc]
  constructor
  · rintro ⟨g, hfit, hrun, hbelow, hlo, hhi, hmin, rfl, rfl⟩
    exact ⟨hlo, by omega, ⟨hfit, hrun, hbelow⟩, rfl, fun k h1 h2 => hmin k h1 h2⟩
  · rintro ⟨hlo, hhi, ⟨hfit, hrun, hbelow⟩, rfl, hmin⟩
    exact ⟨f, hfit, hrun, hbelow, hlo, by omega, fun k h1 h2 => hmin k h1 h2, rfl, rfl⟩

/-- Hoist B takes the highest last zone that fits. -/
theorem SpanArbiter.placeHoist_B_iff (a : SpanArbiter) (n f l : Nat) :
    a.placeHoist .B n = some (f, l) ↔
      (1 ≤ l ∧ l ≤ 12 ∧ a.fitsB n l) ∧ f = l + 1 - n ∧ ∀ m, l < m → m ≤ 12 → ¬ a.fitsB n m := by
  simp only [SpanArbiter.placeHoist, Option.map_eq_some_iff, find?_reverse_range'_eq_some, Prod.mk.injEq,
    List.mem_range'_1, Bool.and_eq_true, decide_eq_true_eq, ← Bool.not_eq_true, and_assoc]
  constructor
  · rintro ⟨m, hfit, hrun, habove, hlo, hhi, hmax, rfl, rfl⟩
    exact ⟨hlo, by omega, ⟨hfit, hrun, habove⟩, rfl, fun k h1 h2 => hmax k h1 (by omega)⟩
  · rintro ⟨hlo, hhi, ⟨hfit, hrun, habove⟩, rfl, hmax⟩
    exact ⟨l, hfit, hrun, habove, hlo, by omega, fun k h1 h2 => hmax k h1 (by omega), rfl, rfl⟩

/-- What placement finds, for a hoist claim and a maintenance claim alike (R54, R55). -/
theorem SpanArbiter.place_sound {a : SpanArbiter} {c : Claim} {f l : Nat} (h : a.place c = some (f, l)) :
    a.runAvailable f l = true ∧ (c.claimant = .hoist .A → a.belowB l = true) ∧
      (c.claimant = .hoist .B → a.aboveA f = true) := by
  unfold SpanArbiter.place at h
  split at h
  next k n hc _ =>
    cases k with
    | A =>
      obtain ⟨⟨-, -, -, hrun, hbelow⟩, rfl, -⟩ := (a.placeHoist_A_iff n f l).1 h
      exact ⟨hrun, fun _ => hbelow, fun hB => by simp [hc] at hB⟩
    | B =>
      obtain ⟨⟨-, -, -, hrun, habove⟩, rfl, -⟩ := (a.placeHoist_B_iff n f l).1 h
      exact ⟨hrun, fun hA => by simp [hc] at hA, fun _ => habove⟩
  next hc _ =>
    split at h
    next hrun =>
      simp only [Option.some.injEq, Prod.mk.injEq] at h
      obtain ⟨rfl, rfl⟩ := h
      exact ⟨hrun, fun hA => by simp [hc] at hA, fun hB => by simp [hc] at hB⟩
    next => cases h
  next => cases h

/-! ## Laws of the map -/

/-- A law of the map that no move of a claim or a span breaks. -/
structure MapLaw (Q : SpanArbiter → Prop) : Prop where
  queue : ∀ a q, Q a → Q { a with queue := q }
  granted : ∀ a c f l now rest, a.place c = some (f, l) → Q a → Q (a.granted c.claimant f l now rest)
  release : ∀ a o, Q a → Q (a.release o)
  served : ∀ a z b, 1 ≤ z → (b = true ∨ ∀ p ∈ a.spans, p.covers z = false) → Q a → Q (a.served z b)
  fresh : Q { service := List.replicate 12 true, spans := [], queue := [] }

theorem SpanStep.keeps_map {Q : SpanArbiter → Prop} (hQ : MapLaw Q) {v w : SpanView} (step : SpanStep v w)
    (hv : Q v.arbiter) : Q w.arbiter := by
  cases step with
  | turn => exact hv
  | grantMaint now _ placed => exact hQ.granted _ _ _ _ _ _ placed hv
  | grantHoist now _ placed => exact hQ.granted _ _ _ _ _ _ placed hv
  | joinMaint => exact hQ.queue _ _ hv
  | joinHoist => exact hQ.queue _ _ hv
  | releaseMaint n => exact hQ.release _ _ hv
  | withdrawMaint n => exact hQ.queue _ _ hv
  | raise => exact hQ.queue _ _ hv
  | cancel => exact hQ.queue _ _ hv
  | out => exact hQ.release _ _ hv
  | serve zone free => exact hQ.served _ _ _ zone free hv

/-- What every move of the view keeps, a chain of moves keeps. -/
theorem SpanMoves.keeps {P : SpanView → Prop} (step : ∀ v w, P v → SpanStep v w → P w) {s t : State}
    (ht : SpanMoves s t) (hs : P s.spanView) : P t.spanView := by
  unfold SpanMoves at ht
  generalize t.spanView = w at ht
  induction ht with
  | refl => exact hs
  | tail _ move ih => exact step _ _ ih move

theorem SpanMoves.keeps_map {Q : SpanArbiter → Prop} (hQ : MapLaw Q) {s t : State} (ht : SpanMoves s t)
    (hs : Q s.arbiter) : Q t.arbiter :=
  ht.keeps (P := fun v => Q v.arbiter) (fun _ _ hv step => step.keeps_map hQ hv) hs

/-- R48, as a law of the map. -/
def SpanArbiter.zonesLawful (a : SpanArbiter) : Prop :=
  ∀ z ∈ List.range' 1 12, (a.spans.filter (fun p => p.covers z)).length ≤ 1 ∧
    (a.service.getD (z - 1) false = false → ∀ p ∈ a.spans, p.covers z = false)

theorem zonesLawful_iff (s : State) : s.zonesLawful ↔ s.arbiter.zonesLawful := Iff.rfl

/-- R53, as a law of the map. -/
def SpanArbiter.runwayLawful (a : SpanArbiter) : Prop :=
  ∀ p ∈ (a.spanOf (.hoist .A)).toList, ∀ q ∈ (a.spanOf (.hoist .B)).toList, p.last + 2 ≤ q.first

theorem runwayLawful_iff (s : State) : s.runwayLawful ↔ s.arbiter.runwayLawful := Iff.rfl

/-- A grant takes zones in service that no span covers (R48). -/
theorem zonesLawful_granted {a : SpanArbiter} {c : Claim} {f l : Nat} (now : Nat) (rest : List Claim)
    (placed : a.place c = some (f, l)) (ha : a.zonesLawful) : (a.granted c.claimant f l now rest).zonesLawful := by
  have run := (a.runAvailable_iff f l).1 (SpanArbiter.place_sound placed).1
  intro z hz
  obtain ⟨single, served⟩ := ha z hz
  have hnew : Span.covers { owner := c.claimant, first := f, last := l, granted := now } z = true ↔ f ≤ z ∧ z ≤ l :=
    Span.covers_iff _ z
  simp only [SpanArbiter.granted, List.filter_append, List.length_append, List.forall_mem_append,
    List.forall_mem_singleton]
  by_cases hcov : f ≤ z ∧ z ≤ l
  · obtain ⟨inService, free⟩ := run z hcov.1 hcov.2
    have none : a.spans.filter (fun p => p.covers z) = [] :=
      List.filter_eq_nil_iff.2 fun p hp hc => free p hp ((p.covers_iff z).1 hc)
    refine ⟨?_, fun out => ?_⟩
    · rw [none, List.length_nil, Nat.zero_add]
      exact List.length_filter_le _ [_]
    · rw [out] at inService
      cases inService
  · have new : Span.covers { owner := c.claimant, first := f, last := l, granted := now } z = false := by
      rw [← Bool.not_eq_true, hnew]
      exact hcov
    exact ⟨by simpa [new] using single, fun out => ⟨served out, new⟩⟩

theorem zonesLawful_mapLaw : MapLaw SpanArbiter.zonesLawful where
  queue _ _ ha := ha
  granted _ _ _ _ now rest placed ha := zonesLawful_granted now rest placed ha
  release a o ha z hz := by
    obtain ⟨single, served⟩ := ha z hz
    refine ⟨((List.filter_sublist.filter _).length_le).trans single, fun out p hp => served out p ?_⟩
    exact List.mem_of_mem_filter hp
  served a z b hz free ha y hy := by
    obtain ⟨single, served⟩ := ha y hy
    have hy : 1 ≤ y ∧ y < 13 := by simpa [List.mem_range'_1] using hy
    refine ⟨single, fun out => ?_⟩
    by_cases hyz : y = z
    · subst hyz
      rcases free with rfl | free
      · refine served ?_
        simp only [SpanArbiter.served, List.getD_eq_getElem?_getD, List.getElem?_set_self'] at out
        cases hs : a.service[y - 1]? <;> simp_all
      · exact free
    · have hne : z - 1 ≠ y - 1 := by omega
      exact served (by simpa [SpanArbiter.served, List.getElem?_set_ne hne] using out)
  fresh := by simp [SpanArbiter.zonesLawful]

/-- The span an owner holds after a grant. -/
theorem spanOf_granted {a : SpanArbiter} {o o' : Owner} {f l now : Nat} {rest : List Claim} {p : Span}
    (h : (a.granted o f l now rest).spanOf o' = some p) :
    a.spanOf o' = some p ∨ (o = o' ∧ p.first = f ∧ p.last = l) := by
  simp only [SpanArbiter.spanOf, SpanArbiter.granted, List.find?_append, Option.or_eq_some_iff] at h
  rcases h with h | ⟨-, h⟩
  · exact .inl h
  · have howner := List.find?_some h
    have hmem := List.mem_of_find?_eq_some h
    rw [List.mem_singleton] at hmem
    subst hmem
    exact .inr ⟨by simpa using howner, rfl, rfl⟩

theorem spanOf_release {a : SpanArbiter} {o o' : Owner} {p : Span} (h : (a.release o).spanOf o' = some p) :
    a.spanOf o' = some p := by
  simp only [SpanArbiter.spanOf, SpanArbiter.release, List.find?_filter] at h
  by_cases hoo : o' = o
  · obtain ⟨-, hp⟩ : p ∈ a.spans ∧ _ := ⟨List.mem_of_find?_eq_some h, List.find?_some h⟩
    simp [hoo] at hp
  · rw [SpanArbiter.spanOf, ← h]
    congr 1
    funext q
    by_cases hq : q.owner = o' <;> simp [hq, hoo]

/-- A grant to a hoist meets the runway condition (R53, R54). -/
theorem runwayLawful_mapLaw : MapLaw SpanArbiter.runwayLawful where
  queue _ _ ha := ha
  granted a c f l now rest placed ha p hp q hq := by
    obtain ⟨-, below, above⟩ := SpanArbiter.place_sound placed
    simp only [Option.mem_toList] at hp hq
    rcases spanOf_granted hp with hp | ⟨hA, -, hpl⟩ <;> rcases spanOf_granted hq with hq | ⟨hB, hqf, -⟩
    · exact ha p (by simpa using hp) q (by simpa using hq)
    · rw [hqf]
      exact (a.aboveA_iff f).1 (above hB) p hp
    · rw [hpl]
      exact (a.belowB_iff l).1 (below hA) q hq
    · rw [hA] at hB
      cases hB
  release a o ha p hp q hq := by
    simp only [Option.mem_toList] at hp hq
    exact ha p (by simpa using spanOf_release hp) q (by simpa using spanOf_release hq)
  served _ _ _ _ _ ha := ha
  fresh := by simp [SpanArbiter.runwayLawful, SpanArbiter.spanOf]

end Sys2Proof.Machine
end

section
/-! PROOFS. The law of claims and spans, that every move keeps (R47, R49, R50, R56). -/

namespace Sys2Proof.Machine

/-! ## One span for each owner, one claim for each claimant (R47, R49) -/

structure SpanArbiter.Single (a : SpanArbiter) : Prop where
  owners : (a.spans.map Span.owner).Nodup
  claimants : (a.queue.map Claim.claimant).Nodup
  apart : ∀ c ∈ a.queue, ∀ p ∈ a.spans, c.claimant ≠ p.owner

theorem SpanArbiter.Single.fewer {a b : SpanArbiter} (ha : a.Single) (queue : b.queue.Sublist a.queue)
    (spans : b.spans.Sublist a.spans) : b.Single where
  owners := ha.owners.sublist (spans.map _)
  claimants := ha.claimants.sublist (queue.map _)
  apart c hc p hp := ha.apart c (queue.subset hc) p (spans.subset hp)

theorem SpanArbiter.Single.granted {a : SpanArbiter} (ha : a.Single) {c : Claim} {rest : List Claim}
    (head : a.queue = c :: rest) (f l now : Nat) : (a.granted c.claimant f l now rest).Single := by
  have claimants := ha.claimants
  rw [head, List.map_cons, List.nodup_cons] at claimants
  have free : ∀ p ∈ a.spans, c.claimant ≠ p.owner := ha.apart c (by simp [head])
  refine ⟨?_, claimants.2, fun d hd p hp => ?_⟩
  · simp only [SpanArbiter.granted, List.map_append, List.map_cons, List.map_nil, List.nodup_append]
    refine ⟨ha.owners, List.nodup_singleton _, fun o ho o' ho' => ?_⟩
    obtain ⟨p, hp, rfl⟩ := List.mem_map.1 ho
    rw [List.mem_singleton.1 ho']
    exact (free p hp).symm
  · rcases List.mem_append.1 hp with hp | hp
    · exact ha.apart d (by simpa [head] using .inr hd) p hp
    · rw [List.mem_singleton.1 hp]
      intro hdc
      have hd := List.mem_map_of_mem (f := Claim.claimant) hd
      rw [hdc] at hd
      exact claimants.1 hd

theorem SpanArbiter.Single.joined {a : SpanArbiter} (ha : a.Single) {c : Claim}
    (spanless : ∀ p ∈ a.spans, p.owner ≠ c.claimant) (claimless : ∀ d ∈ a.queue, d.claimant ≠ c.claimant) :
    (a.joined c).Single := by
  refine ⟨ha.owners, ?_, fun d hd p hp => ?_⟩
  · simp only [SpanArbiter.joined, List.map_append, List.map_cons, List.map_nil, List.nodup_append]
    refine ⟨ha.claimants, List.nodup_singleton _, fun o ho o' ho' => ?_⟩
    obtain ⟨d, hd, rfl⟩ := List.mem_map.1 ho
    rw [List.mem_singleton.1 ho']
    exact claimless d hd
  · rcases List.mem_append.1 hd with hd | hd
    · exact ha.apart d hd p hp
    · rw [List.mem_singleton.1 hd]
      exact (spanless p hp).symm

theorem SpanArbiter.Single.withdraw {a : SpanArbiter} (ha : a.Single) (o : Owner) : (a.withdraw o).Single :=
  ha.fewer List.filter_sublist (.refl _)

theorem SpanArbiter.Single.release {a : SpanArbiter} (ha : a.Single) (o : Owner) : (a.release o).Single :=
  ha.fewer (.refl _) List.filter_sublist

/-- With one span for each owner, the span that a member of the map names is its owner's. -/
theorem SpanArbiter.spanOf_of_mem {a : SpanArbiter} (ha : (a.spans.map Span.owner).Nodup) {p : Span} (hp : p ∈ a.spans) :
    a.spanOf p.owner = some p := by
  cases hs : a.spanOf p.owner with
  | none => exact absurd rfl (SpanArbiter.spanOf_eq_none_iff.1 hs p hp)
  | some q =>
    have hq : q ∈ a.spans := List.mem_of_find?_eq_some hs
    have howner : q.owner = p.owner := by simpa using List.find?_some hs
    rw [List.inj_on_of_nodup_map ha hq hp howner]

/-! ## A hoist, its claim and its span (R8, R10, R50, R56) -/

/-- A hoist whose claim waits is waiting for its grant; one that holds a span is past its weigh-in, and the record of the
load it carries names that span. -/
structure SpanView.Hoisted (v : SpanView) (h : Hoist) : Prop where
  waits : ∀ c ∈ v.arbiter.queue, c.claimant = .hoist h → (v.stage h).awaits
  past : ∀ p ∈ v.arbiter.spans, p.owner = .hoist h → (v.stage h).phase ≠ .awaitSpan ∧ ¬ (v.stage h).weighs
  named : ∀ p ∈ v.arbiter.spans, p.owner = .hoist h →
    ∃ e ∈ v.fields, (v.stage h).load = some e.1 ∧ e.2 = some (p.first, p.last)

def SpanView.claimsLaw (v : SpanView) : Prop := v.arbiter.Single ∧ (v.working = true → ∀ h, v.Hoisted h)

theorem Hoist.forall_iff {P : Hoist → Prop} : (∀ h ∈ [Hoist.A, .B], P h) ↔ ∀ h, P h :=
  ⟨fun hP h => hP h (by cases h <;> simp), fun hP h _ => hP h⟩

theorem claimsLawful_iff (s : State) : s.claimsLawful ↔ s.spanView.claimsLaw := by
  have field (x : Option Nat) (y : Option (Nat × Nat)) :
      (∃ e ∈ s.spanView.fields, x = some e.1 ∧ e.2 = y) ↔ ∃ r ∈ s.records.loads, x = some r.id ∧ r.span = y := by
    simp [State.spanView, LoadRec.spanField]
  unfold State.claimsLawful SpanView.claimsLaw
  simp only [Hoist.forall_iff]
  constructor
  · rintro ⟨owners, claimants, apart, hoists⟩
    refine ⟨⟨owners, claimants, apart⟩, fun hw h => ?_⟩
    obtain ⟨waits, held⟩ := hoists hw h
    exact ⟨waits, fun p hp ho => ⟨(held p hp ho).1, (held p hp ho).2.1⟩,
      fun p hp ho => (field _ _).2 (held p hp ho).2.2⟩
  · rintro ⟨⟨owners, claimants, apart⟩, hoists⟩
    refine ⟨owners, claimants, apart, fun hw h => ?_⟩
    obtain ⟨waits, past, named⟩ := hoists hw h
    exact ⟨waits, fun p hp ho => ⟨(past p hp ho).1, (past p hp ho).2, (field _ _).1 (named p hp ho)⟩⟩

/-- A hoist whose stage and whose load's record stay, with no further claim or span. -/
theorem SpanView.Hoisted.frame {v w : SpanView} {h : Hoist} (hv : v.Hoisted h) (stage : w.stage h = v.stage h)
    (claims : ∀ c ∈ w.arbiter.queue, c.claimant = .hoist h → c ∈ v.arbiter.queue)
    (spans : ∀ p ∈ w.arbiter.spans, p.owner = .hoist h → p ∈ v.arbiter.spans)
    (fields : ∀ e ∈ v.fields, (v.stage h).load = some e.1 → e ∈ w.fields) : w.Hoisted h := by
  refine ⟨fun c hc ho => ?_, fun p hp ho => ?_, fun p hp ho => ?_⟩
  · rw [stage]
    exact hv.waits c (claims c hc ho) ho
  · rw [stage]
    exact hv.past p (spans p hp ho) ho
  · obtain ⟨e, he, hload, hspan⟩ := hv.named p (spans p hp ho) ho
    exact ⟨e, fields e he hload, stage ▸ hload, hspan⟩

/-- A hoist without a claim and without a span. -/
theorem SpanView.Hoisted.of_bare {w : SpanView} {h : Hoist} (claims : ∀ c ∈ w.arbiter.queue, c.claimant ≠ .hoist h)
    (spans : ∀ p ∈ w.arbiter.spans, p.owner ≠ .hoist h) : w.Hoisted h :=
  ⟨fun c hc ho => absurd ho (claims c hc), fun p hp ho => absurd ho (spans p hp), fun p hp ho => absurd ho (spans p hp)⟩

/-! ## What the moves rely on besides (R3) -/

/-- A hoist before its grant carries a load, whose record stands in the table. -/
def SpanView.carries (v : SpanView) (h : Hoist) : Prop :=
  (v.stage h).awaits ∨ (v.stage h).weighs → ∃ e ∈ v.fields, (v.stage h).load = some e.1

structure SpanView.Lawful (v : SpanView) : Prop where
  single : v.arbiter.Single
  hoisted : ∀ h, v.Hoisted h
  carries : ∀ h, v.carries h
  loads : ∀ h k id, (v.stage h).load = some id → (v.stage k).load = some id → h = k

theorem SpanView.carries.frame {v w : SpanView} {h : Hoist} (hv : v.carries h) (stage : w.stage h = v.stage h)
    (fields : ∀ e ∈ v.fields, (v.stage h).load = some e.1 → e ∈ w.fields) : w.carries h := by
  intro hw
  rw [stage] at hw
  obtain ⟨e, he, hload⟩ := hv hw
  exact ⟨e, fields e he hload, stage ▸ hload⟩

theorem SpanView.carries.of_settled {w : SpanView} {h : Hoist} (hw : (w.stage h).settled) : w.carries h :=
  fun hbefore => (hbefore.elim hw.1 hw.2).elim

/-- The map changes at no hoist. -/
theorem SpanView.Lawful.onMap {v : SpanView} (hv : v.Lawful) {a : SpanArbiter} (single : a.Single)
    (claims : ∀ c ∈ a.queue, ∀ h, c.claimant = .hoist h → c ∈ v.arbiter.queue)
    (spans : ∀ p ∈ a.spans, ∀ h, p.owner = .hoist h → p ∈ v.arbiter.spans) : (v.onMap a).Lawful where
  single := single
  hoisted h := (hv.hoisted h).frame rfl (fun c hc => claims c hc h) (fun p hp => spans p hp h) fun _ he _ => he
  carries h := (hv.carries h).frame rfl fun _ he _ => he
  loads := hv.loads

/-- A view changes at one hoist: the map, the stage, and the record of its load. -/
theorem SpanView.Lawful.at_hoist {v w : SpanView} (hv : v.Lawful) (h : Hoist) (single : w.arbiter.Single)
    (stage : ∀ k ≠ h, w.stage k = v.stage k)
    (claims : ∀ c ∈ w.arbiter.queue, c.claimant ≠ .hoist h → c ∈ v.arbiter.queue)
    (spans : ∀ p ∈ w.arbiter.spans, p.owner ≠ .hoist h → p ∈ v.arbiter.spans)
    (fields : ∀ e ∈ v.fields, (v.stage h).load ≠ some e.1 → e ∈ w.fields)
    (load : ∀ id, (w.stage h).load = some id → (v.stage h).load = some id)
    (hoisted : w.Hoisted h) (carries : w.carries h) : w.Lawful := by
  have other {k : Hoist} (hk : k ≠ h) : ∀ e ∈ v.fields, (v.stage k).load = some e.1 → e ∈ w.fields :=
    fun e he hload => fields e he fun hh => hk (hv.loads k h e.1 hload hh)
  have noOwner {k : Hoist} (hk : k ≠ h) {o : Owner} (ho : o = .hoist k) : o ≠ .hoist h := by
    rintro rfl
    cases ho
    exact hk rfl
  have loads (k : Hoist) (id : Nat) (hid : (w.stage k).load = some id) : (v.stage k).load = some id := by
    by_cases hk : k = h
    · subst hk
      exact load id hid
    · rwa [stage k hk] at hid
  refine ⟨single, fun k => ?_, fun k => ?_, fun k k' id hk hk' => hv.loads k k' id (loads k id hk) (loads k' id hk')⟩
  · by_cases hk : k = h
    · exact hk ▸ hoisted
    · exact (hv.hoisted k).frame (stage k hk) (fun c hc ho => claims c hc (noOwner hk ho))
        (fun p hp ho => spans p hp (noOwner hk ho)) (other hk)
  · by_cases hk : k = h
    · exact hk ▸ carries
    · exact (hv.carries k).frame (stage k hk) (other hk)

theorem HoistStage.not_weighs_of_awaits {x : HoistStage} (hx : x.awaits) : ¬ x.weighs := by
  unfold HoistStage.awaits HoistStage.weighs at *
  rintro (hw | ⟨hp, hw⟩) <;> rcases hx with hx | ⟨hp', hx⟩ <;> simp_all

theorem SpanView.mem_mark_of_ne {v : SpanView} {load : Option Nat} (x : Option (Nat × Nat)) {e : Nat × Option (Nat × Nat)}
    (he : e ∈ v.fields) (hne : load ≠ some e.1) : e ∈ (v.mark load x).fields :=
  List.mem_map.2 ⟨e, he, if_neg hne.symm⟩

theorem SpanView.mem_mark {v : SpanView} {id : Nat} (x : Option (Nat × Nat)) {y : Option (Nat × Nat)}
    (he : (id, y) ∈ v.fields) : (id, x) ∈ (v.mark (some id) x).fields :=
  List.mem_map.2 ⟨_, he, if_pos rfl⟩

/-! ## Every move keeps the law -/

section Steps
variable {v : SpanView} (hv : v.Lawful) {h : Hoist}
include hv

theorem SpanView.Lawful.spanless (before : (v.stage h).phase = .awaitSpan ∨ (v.stage h).weighs) :
    ∀ p ∈ v.arbiter.spans, p.owner ≠ .hoist h := by
  intro p hp ho
  obtain ⟨phase, weighs⟩ := (hv.hoisted h).past p hp ho
  exact before.elim phase weighs

theorem SpanView.Lawful.claimless (hw : ¬ (v.stage h).awaits) : ∀ c ∈ v.arbiter.queue, c.claimant ≠ .hoist h :=
  fun c hc ho => hw ((hv.hoisted h).waits c hc ho)

theorem SpanView.Lawful.turn {x : HoistStage} (load : x.load = (v.stage h).load)
    (waits : (v.stage h).awaits → x.awaits ∨ ∃ p ∈ v.arbiter.spans, p.owner = .hoist h)
    (awaits : x.awaits → (v.stage h).awaits) (weighs : x.weighs → (v.stage h).weighs)
    (spanless : x.phase = .awaitSpan → ∀ p ∈ v.arbiter.spans, p.owner ≠ .hoist h) : (v.put h x).Lawful := by
  refine hv.at_hoist h hv.single (fun k hk => SpanView.put_stage_of_ne v hk x) (fun _ hc _ => hc) (fun _ hp _ => hp)
    (fun _ he _ => he) (by simp [load]) ⟨fun c hc ho => ?_, fun p hp ho => ?_, fun p hp ho => ?_⟩ fun hbefore => ?_
  · rw [SpanView.put_stage]
    refine (waits ((hv.hoisted h).waits c hc ho)).resolve_right ?_
    rintro ⟨p, hp, howner⟩
    exact hv.single.apart c hc p hp (ho.trans howner.symm)
  · rw [SpanView.put_stage]
    exact ⟨fun hx => spanless hx p hp ho, fun hx => ((hv.hoisted h).past p hp ho).2 (weighs hx)⟩
  · rw [SpanView.put_stage, load]
    exact (hv.hoisted h).named p hp ho
  · rw [SpanView.put_stage] at hbefore ⊢
    rw [load]
    exact hv.carries h (hbefore.imp awaits weighs)

theorem SpanView.Lawful.grantHoist {c : Claim} {rest : List Claim} {f l : Nat} {x : HoistStage} (now : Nat)
    (head : v.arbiter.queue = c :: rest) (claimant : c.claimant = .hoist h) (load : x.load = (v.stage h).load)
    (goes : (v.stage h).phase = .awaitSpan → x.settled) (stays : (v.stage h).phase ≠ .awaitSpan → x = v.stage h) :
    (((v.onMap (v.arbiter.granted c.claimant f l now rest)).mark (v.stage h).load (some (f, l))).put h x).Lawful := by
  have hc : c ∈ v.arbiter.queue := by simp [head]
  have waiting := (hv.hoisted h).waits c hc claimant
  have single := hv.single.granted head f l now
  have none : ∀ p ∈ v.arbiter.spans, p.owner ≠ .hoist h :=
    fun p hp ho => hv.single.apart c hc p hp (claimant.trans ho.symm)
  have rest_ne : ∀ d ∈ rest, d.claimant ≠ .hoist h := by
    intro d hd ho
    have := hv.single.claimants
    rw [head, List.map_cons, List.nodup_cons, claimant, ← ho] at this
    exact this.1 (List.mem_map_of_mem hd)
  obtain ⟨⟨id, y⟩, he, hload⟩ := hv.carries h (.inl waiting)
  have isNew {p : Span} (hp : p ∈ v.arbiter.spans ++ [⟨c.claimant, f, l, now⟩]) (ho : p.owner = .hoist h) :
      p = ⟨c.claimant, f, l, now⟩ :=
    (List.mem_append.1 hp).elim (fun hp => absurd ho (none p hp)) List.mem_singleton.1
  refine hv.at_hoist h single (fun k hk => SpanView.put_stage_of_ne _ hk x) (fun d hd _ => ?_) (fun p hp ho => ?_)
    (fun e he hne => SpanView.mem_mark_of_ne _ he hne) (by simp [load])
    ⟨fun d hd ho => absurd ho (rest_ne d hd), fun p hp ho => ?_, fun p hp ho => ?_⟩ fun _ => ?_
  · rw [head]
    exact .tail _ hd
  · refine (List.mem_append.1 hp).resolve_right fun hp => ho ?_
    rw [List.mem_singleton.1 hp]
    exact claimant
  · rw [SpanView.put_stage]
    by_cases hp : (v.stage h).phase = .awaitSpan
    · exact ⟨fun hx => (goes hp).1 (.inl hx), (goes hp).2⟩
    · rw [stays hp]
      exact ⟨hp, HoistStage.not_weighs_of_awaits waiting⟩
  · rw [SpanView.put_stage, load, isNew hp ho, hload]
    exact ⟨_, SpanView.mem_mark _ he, rfl, rfl⟩
  · rw [SpanView.put_stage, load, hload]
    exact ⟨_, SpanView.mem_mark _ he, rfl⟩

theorem SpanView.Lawful.joinHoist {c : Claim} (claimant : c.claimant = .hoist h)
    (weighed : (v.stage h).phase = .weighIn) :
    ((v.put h { v.stage h with phase := .awaitSpan }).onMap (v.arbiter.joined c)).Lawful := by
  have none := hv.spanless (h := h) (.inr (.inl weighed))
  have noClaim := hv.claimless (h := h) (HoistStage.not_awaits_of_phase (by simp [weighed]))
  have single : (v.arbiter.joined c).Single := hv.single.joined (claimant ▸ none) (claimant ▸ noClaim)
  refine hv.at_hoist h single (fun k hk => SpanView.put_stage_of_ne v hk _) (fun d hd ho => ?_) (fun _ hp _ => hp)
    (fun _ he _ => he) (by simp) ⟨fun _ _ _ => ?_, fun p hp ho => absurd ho (none p hp), fun p hp ho =>
      absurd ho (none p hp)⟩ fun _ => ?_
  · refine (List.mem_append.1 hd).resolve_right fun hd => ho ?_
    rw [List.mem_singleton.1 hd, claimant]
  · exact .inl (by simp)
  · simpa using hv.carries h (.inr (.inl weighed))

/-- The hoist passes to a settled stage with its claim withdrawn. -/
theorem SpanView.Lawful.raise {x : HoistStage} (load : x.load = (v.stage h).load) (raised : x.settled) :
    ((v.put h x).onMap (v.arbiter.withdraw (.hoist h))).Lawful := by
  have stage : ((v.put h x).onMap (v.arbiter.withdraw (.hoist h))).stage h = x := SpanView.put_stage v h x
  refine hv.at_hoist h (hv.single.withdraw _) (fun k hk => SpanView.put_stage_of_ne v hk _)
    (fun c hc _ => List.mem_of_mem_filter hc) (fun _ hp _ => hp) (fun _ he _ => he) (by simp [load])
    ⟨fun c hc ho => ?_, fun p hp ho => ?_, fun p hp ho => ?_⟩ (.of_settled (by rwa [stage]))
  · simp [SpanArbiter.withdraw, ho] at hc
  · rw [stage]
    exact ⟨fun hx => raised.1 (.inl hx), raised.2⟩
  · rw [stage, load]
    exact (hv.hoisted h).named p hp ho

/-- The hoist ends its dip, and keeps neither claim nor span. -/
theorem SpanView.Lawful.emptied {a : SpanArbiter} (single : a.Single) (queue : ∀ c ∈ a.queue, c ∈ v.arbiter.queue)
    (spans : ∀ p ∈ a.spans, p ∈ v.arbiter.spans) (claimless : ∀ c ∈ a.queue, c.claimant ≠ .hoist h)
    (spanless : ∀ p ∈ a.spans, p.owner ≠ .hoist h) :
    (((v.mark (v.stage h).load none).put h .empty).onMap a).Lawful :=
  hv.at_hoist h single (fun k hk => SpanView.put_stage_of_ne _ hk _) (fun c hc _ => queue c hc) (fun p hp _ => spans p hp)
    (fun _ he hne => SpanView.mem_mark_of_ne _ he hne) (by simp [HoistStage.empty]) (.of_bare claimless spanless)
    (.of_settled (by
      simp only [SpanView.onMap_frame, SpanView.put_stage]
      exact HoistStage.settled_of_phase (by decide)))

end Steps

theorem SpanStep.lawful {v w : SpanView} (hv : v.Lawful) (step : SpanStep v w) : w.Lawful := by
  have maint {n : Nat} {h : Hoist} {o : Owner} (hm : o = .maint n) (ho : o = .hoist h) : False := by
    rw [hm] at ho
    cases ho
  cases step with
  | turn load waits awaits weighs spanless => exact hv.turn load waits awaits weighs spanless
  | grantMaint now head _ claimant =>
    refine hv.onMap (hv.single.granted head _ _ now) (fun d hd _ _ => head ▸ .tail _ hd) fun p hp h ho => ?_
    refine (List.mem_append.1 hp).resolve_right fun hp => ?_
    rw [List.mem_singleton.1 hp] at ho
    exact maint claimant ho
  | grantHoist now head _ claimant load goes stays => exact hv.grantHoist now head claimant load goes stays
  | joinMaint claimant spanless claimless =>
    refine hv.onMap (hv.single.joined (claimant ▸ spanless) (claimant ▸ claimless)) (fun d hd h ho => ?_) fun _ hp _ _ => hp
    refine (List.mem_append.1 hd).resolve_right fun hd => ?_
    rw [List.mem_singleton.1 hd] at ho
    exact maint claimant ho
  | joinHoist claimant weighed => exact hv.joinHoist claimant weighed
  | releaseMaint n =>
    exact hv.onMap (hv.single.release _) (fun _ hc _ _ => hc) fun _ hp _ _ => List.mem_of_mem_filter hp
  | withdrawMaint n =>
    exact hv.onMap (hv.single.withdraw _) (fun _ hc _ _ => List.mem_of_mem_filter hc) fun _ hp _ _ => hp
  | raise load raised => exact hv.raise load raised
  | cancel before =>
    refine hv.emptied (hv.single.withdraw _) (fun _ hc => List.mem_of_mem_filter hc) (fun _ hp => hp) (fun c hc ho => ?_)
      (hv.spanless (before.symm.imp_right .inl))
    simp [SpanArbiter.withdraw, ho] at hc
  | out after =>
    refine hv.emptied (hv.single.release _) (fun _ hc => hc) (fun _ hp => List.mem_of_mem_filter hp) (hv.claimless after)
      fun p hp ho => ?_
    simp [SpanArbiter.release, ho] at hp
  | serve => exact hv.onMap ⟨hv.single.owners, hv.single.claimants, hv.single.apart⟩ (fun _ hc _ _ => hc) fun _ hp _ _ => hp

end Sys2Proof.Machine
end

section
/-! PROOFS. The law of claims and spans at the requests that bring a load or take one away, and at the resets (R7, R61,
R117, R197, R198). -/

namespace Sys2Proof.Machine

/-! ## The law with the tables and the carried loads lawful (R3, R112) -/

section Carried
variable {s : State} (tables : s.tablesLawful) (carry : s.carryLawful) (active : s.active = true)

include carry active

theorem carried_record {h : Hoist} {id : Nat} (hload : (s.seq h).load = some id) :
    ∃ r ∈ s.records.loads, r.id = id ∧ r.state = .inCycle ∧ r.hoist = some h := by
  obtain ⟨-, -, hoists⟩ := carry
  obtain ⟨-, -, -, -, -, record⟩ := hoists active h (by cases h <;> simp)
  exact record id (by simp [hload])

theorem load_eq_none_iff (h : Hoist) : (s.seq h).load = none ↔ (s.seq h).phase ∈ [Phase.idle, .disabled] := by
  obtain ⟨-, -, hoists⟩ := carry
  exact (hoists active h (by cases h <;> simp)).1

theorem spanView_lawful (tables : s.tablesLawful) (claims : s.claimsLawful) : s.spanView.Lawful := by
  obtain ⟨single, hoisted⟩ := (claimsLawful_iff s).1 claims
  obtain ⟨-, -, -, -, ids, -⟩ := tables
  refine ⟨single, hoisted active, fun h hbefore => ?_, fun h k id hh hk => ?_⟩
  · have hphase : (s.seq h).phase ∉ [Phase.idle, .disabled] := by
      rcases hbefore with (hp | ⟨hp | hp, -⟩) | (hp | ⟨hp | hp, -⟩) <;> simp [show (s.seq h).phase = _ from hp]
    obtain ⟨id, hload⟩ := Option.ne_none_iff_exists'.1 (mt (load_eq_none_iff carry active h).1 hphase)
    obtain ⟨r, hr, rfl, -⟩ := carried_record carry active hload
    exact ⟨r.spanField, List.mem_map_of_mem hr, hload⟩
  · obtain ⟨r, hr, hid, -, hrh⟩ := carried_record carry active hh
    obtain ⟨r', hr', hid', -, hrk⟩ := carried_record carry active hk
    have same : r = r' := List.inj_on_of_nodup_map ids hr hr' (hid.trans hid'.symm)
    rw [same, hrk] at hrh
    exact (Option.some.inj hrh).symm

end Carried

/-! ## A load enters or leaves (R7, R117, R118) -/

/-- Each hoist keeps its stage and the record of its load, or has neither claim nor span. -/
theorem SpanView.claimsLaw.frame {v w : SpanView} (hv : v.claimsLaw) (working : v.working = true)
    (arbiter : w.arbiter = v.arbiter)
    (each : ∀ h, ((∀ c ∈ v.arbiter.queue, c.claimant ≠ .hoist h) ∧ ∀ p ∈ v.arbiter.spans, p.owner ≠ .hoist h) ∨
      (w.stage h = v.stage h ∧ ∀ e ∈ v.fields, (v.stage h).load = some e.1 → e ∈ w.fields)) : w.claimsLaw := by
  refine ⟨arbiter ▸ hv.1, fun _ h => ?_⟩
  rcases each h with ⟨claims, spans⟩ | ⟨stage, fields⟩
  · exact .of_bare (by rwa [arbiter]) (by rwa [arbiter])
  · exact (hv.2 working h).frame stage (fun _ hc _ => arbiter ▸ hc) (fun _ hp _ => arbiter ▸ hp) fields

section Enters
variable {s : State} (tables : s.tablesLawful) (carry : s.carryLawful) (active : s.active = true)
  (claims : s.spanView.claimsLaw)

section Idle
include carry active claims

/-- A hoist in IDLE or DISABLED has neither claim nor span. -/
theorem bare_of_idle {h : Hoist} (hp : (s.seq h).phase ∈ [Phase.idle, .disabled]) :
    (∀ c ∈ s.arbiter.queue, c.claimant ≠ .hoist h) ∧ ∀ p ∈ s.arbiter.spans, p.owner ≠ .hoist h := by
  obtain ⟨waits, -, named⟩ := claims.2 active h
  have none := (load_eq_none_iff carry active h).2 hp
  refine ⟨fun c hc ho => ?_, fun p hp ho => ?_⟩
  · refine not_awaits_of_phase ?_ (waits c hc ho)
    rcases List.mem_pair.1 hp with hp | hp <;> simp [hp]
  · obtain ⟨e, -, hload, -⟩ := named p hp ho
    rw [spanView_stage, Sequencer.stage, none] at hload
    cases hload

/-- Such a hoist may pass to any stage. -/
theorem claimsLaw_of_idle {t : State} {h : Hoist} {x : HoistStage} (hp : (s.seq h).phase ∈ [Phase.idle, .disabled])
    (ht : t.spanView = s.spanView.put h x) : t.spanView.claimsLaw := by
  rw [ht]
  refine claims.frame active rfl fun k => ?_
  by_cases hk : k = h
  · subst hk
    exact .inl (bare_of_idle carry active claims hp)
  · exact .inr ⟨SpanView.put_stage_of_ne _ hk x, fun _ he _ => he⟩

end Idle

theorem startDip_view (h : Hoist) (r : LoadRec) (s : State) :
    (startDip h r s).spanView = s.spanView.put h { s.spanView.stage h with phase := .weighIn, load := some r.id } := by
  have jig {u : State} (f : JigRec → JigRec) : (modJig r.jig f u).spanView = u.spanView := by simp
  have mark : (modLoad r.id (fun l => { l with state := .inCycle, hoist := some h }) s).spanView = s.spanView := by simp
  unfold startDip
  dsimp only
  rw [spanView_startWeigh, spanView_modSeq, jig, mark]
  rfl

include tables carry active claims

/-- REGISTER_LOAD, REMOVE_LOAD, PRESENT, ENABLE_HOIST and DISABLE_HOIST keep the law. -/
theorem owner_claimsLaw {i : Instr} {f : State → State × Answer} (ho : ownerOf i = some f) (hi : entersLoad i = true) :
    (f s).1.spanView.claimsLaw := by
  cases i <;> simp only [entersLoad, Bool.false_eq_true] at hi <;>
    simp only [ownerOf, Option.some.injEq] at ho <;> subst ho
  case registerLoad =>
    unfold registerLoad
    (repeat' split) <;> try exact claims
    exact claims.frame active rfl fun h => .inr ⟨rfl, fun _ he _ =>
      ((List.sublist_append_left s.records.loads _).map LoadRec.spanField).subset he⟩
  case removeLoad id =>
    unfold removeLoad
    split
    · exact claims
    split
    · exact claims
    next r hr =>
    split
    · exact claims
    next hcycle =>
    refine claims.frame active rfl fun h => .inr ⟨rfl, fun e he hload => ?_⟩
    obtain ⟨x, hx, rfl⟩ := List.mem_map.1 he
    obtain ⟨y, hy, hid, hstate, -⟩ := carried_record carry active hload
    refine List.mem_map.2 ⟨x, List.mem_filter.2 ⟨hx, ?_⟩, rfl⟩
    have hrmem : r ∈ s.records.loads := List.mem_of_find?_eq_some hr
    have hrid : r.id = id := by simpa using List.find?_some hr
    suffices hne : x.id ≠ id by simpa using hne
    rintro hxid
    obtain ⟨-, -, -, -, ids, -⟩ := tables
    have same : y = r := List.inj_on_of_nodup_map ids hy hrmem (hid.trans (hxid.trans hrid.symm))
    exact hcycle (same ▸ hstate)
  case present n id =>
    unfold present
    split
    · exact claims
    next h _ =>
    (repeat' split) <;> try exact claims
    next hp _ r _ _ =>
    rw [taken_fst, spanView_endEvent]
    exact claimsLaw_of_idle carry active claims (List.mem_pair.2 (.inl (not_not.1 hp))) (startDip_view h r s)
  case enableHoist n =>
    unfold enableHoist
    split
    · exact claims
    next h _ =>
    split <;> try exact claims
    next hp =>
    rw [taken_fst, spanView_endEvent]
    refine claimsLaw_of_idle carry active claims (h := h) (x := ⟨.idle, (s.seq h).heldPhase, (s.seq h).load⟩)
      (by simp [hp]) ?_
    simp only [spanView_leaves, spanView_modSeq]
    rfl
  case disableHoist n =>
    unfold disableHoist
    split
    · exact claims
    next h _ =>
    split <;> try exact claims
    next hp =>
    rw [taken_fst, spanView_endEvent]
    exact claimsLaw_of_idle carry active claims (h := h) (by simp [hp]) (spanView_modSeq h _ s)

end Enters

end Sys2Proof.Machine
end

section
/-! PROOFS. Spans and claims at the resets (R61, R197, R198, R199), and what a step makes of them. -/

namespace Sys2Proof.Machine

/-! ## The map through start-up -/

theorem dropOrphan_arbiter_keeps {Q : SpanArbiter → Prop} (release : ∀ a o, Q a → Q (a.release o)) {h : Hoist}
    {s : State} (hs : Q s.arbiter) : Q (dropOrphan h s).arbiter := by
  unfold dropOrphan
  split
  · exact release _ _ hs
  · exact hs

@[simp] theorem stageHoist_arbiter (h : Hoist) (s : State) :
    (startHoist h s).arbiter = s.arbiter ∧ (recoverStop h s).arbiter = s.arbiter ∧
      (firstPoll h s).arbiter = s.arbiter := by
  refine ⟨?_, ?_, ?_⟩
  · unfold startHoist
    dsimp only
    split <;> simp
  · unfold recoverStop
    split <;> simp
  · unfold firstPoll
    split <;> simp

theorem stage_keeps_map {Q : SpanArbiter → Prop} (release : ∀ a o, Q a → Q (a.release o)) (k : ResetKind) (n : Nat)
    {s : State} (hs : Q s.arbiter) : Q (stage k n s).arbiter := by
  unfold stage
  split
  · simpa [stageLink] using hs
  · unfold stageStore
    split <;> simpa using hs
  · simpa using hs
  · exact dropOrphan_arbiter_keeps release (dropOrphan_arbiter_keeps release hs)
  · simpa [stageBath] using hs
  · simp only [stagePhases, startSkimmer]
    split <;> simpa using hs
  · simp only [stageField]
    split <;> simpa using hs
  · exact hs

theorem stagesTo_keeps_map {Q : SpanArbiter → Prop} (release : ∀ a o, Q a → Q (a.release o)) (k : ResetKind) (n : Nat)
    {s : State} (hs : Q s.arbiter) : Q (stagesTo k n s).arbiter := by
  unfold stagesTo
  induction List.range' 2 (n - 1) generalizing s with
  | nil => exact hs
  | cons i l ih => exact ih (stage_keeps_map release k i hs)

theorem startUp_keeps_map {Q : SpanArbiter → Prop} (release : ∀ a o, Q a → Q (a.release o)) (k : ResetKind) {s : State}
    (hs : Q s.arbiter) : Q (startUp k s).arbiter := by
  unfold startUp
  split
  · simpa using stagesTo_keeps_map release k 8 (s := drawOvertaken s) hs
  · exact stagesTo_keeps_map release k _ (s := drawOvertaken s) hs

/-! ## The map agreed with the records at stage 5 (R61) -/

/-- Every span of a hoist is the one that the record of the load IN_CYCLE with it names. -/
def State.spansAgree (s : State) : Prop :=
  ∀ p ∈ s.arbiter.spans, ∀ h, p.owner = .hoist h → ∃ r, s.inCycleWith h = some r ∧ r.span = some (p.first, p.last)

theorem dropOrphan_frame (h : Hoist) (s : State) :
    (dropOrphan h s).records = s.records ∧ (dropOrphan h s).arbiter.spans.Sublist s.arbiter.spans := by
  unfold dropOrphan
  split
  · exact ⟨rfl, List.filter_sublist⟩
  · exact ⟨rfl, .refl _⟩

theorem dropOrphan_isSome {h : Hoist} {s : State} {p : Span} (hp : p ∈ (dropOrphan h s).arbiter.spans)
    (ho : p.owner = .hoist h) : (s.inCycleWith h).isSome := by
  unfold dropOrphan at hp
  split at hp
  · simp [SpanArbiter.release, ho] at hp
  next hsome => simpa [Option.isSome_iff_ne_none] using hsome

theorem inCycleWith_congr {s t : State} (ht : t.records = s.records) (h : Hoist) : t.inCycleWith h = s.inCycleWith h := by
  rw [State.inCycleWith, State.inCycleWith, ht]

theorem LoadRec.agree_frame (a : SpanArbiter) (r : LoadRec) :
    (r.agree a).state = r.state ∧ (r.agree a).hoist = r.hoist ∧ (r.agree a).id = r.id := by
  unfold LoadRec.agree
  split <;> simp

theorem LoadRec.agree_span {a : SpanArbiter} {r : LoadRec} {h : Hoist} (hs : r.state = .inCycle)
    (hh : r.hoist = some h) : (r.agree a).span = (a.spanOf (.hoist h)).map (fun p => (p.first, p.last)) := by
  simp [LoadRec.agree, hs, hh]

theorem stageRecords_inCycleWith (h : Hoist) (s : State) :
    (stageRecords s).inCycleWith h = (s.inCycleWith h).map (LoadRec.agree (stageRecords s).arbiter) := by
  have records : (dropOrphan .B (dropOrphan .A s)).records = s.records := by
    rw [(dropOrphan_frame ..).1, (dropOrphan_frame ..).1]
  have same : ((fun r : LoadRec => decide (r.state = .inCycle) && decide (r.hoist = some h)) ∘
      LoadRec.agree (stageRecords s).arbiter) = fun r => decide (r.state = .inCycle) && decide (r.hoist = some h) := by
    funext r
    simp [LoadRec.agree_frame]
  calc (stageRecords s).inCycleWith h
      = ((dropOrphan .B (dropOrphan .A s)).records.loads.map (LoadRec.agree (stageRecords s).arbiter)).find?
          (fun r => decide (r.state = .inCycle) && decide (r.hoist = some h)) := rfl
    _ = (s.inCycleWith h).map (LoadRec.agree (stageRecords s).arbiter) := by
      rw [List.find?_map, same, records, State.inCycleWith]

theorem stageRecords_spansAgree {s : State} (owners : (s.arbiter.spans.map Span.owner).Nodup) :
    (stageRecords s).spansAgree := by
  obtain ⟨recordsA, spansA⟩ := dropOrphan_frame .A s
  obtain ⟨-, spansB⟩ := dropOrphan_frame .B (dropOrphan .A s)
  have arbiter : (stageRecords s).arbiter = (dropOrphan .B (dropOrphan .A s)).arbiter := rfl
  intro p hp h ho
  have cycle : (s.inCycleWith h).isSome := by
    cases h with
    | A => exact dropOrphan_isSome (spansB.subset hp) ho
    | B =>
      rw [← inCycleWith_congr recordsA]
      exact dropOrphan_isSome hp ho
  obtain ⟨r, hr⟩ := Option.isSome_iff_exists.1 cycle
  have found : r.state = .inCycle ∧ r.hoist = some h := by simpa using List.find?_some hr
  have mine := SpanArbiter.spanOf_of_mem (owners.sublist ((spansB.trans spansA).map Span.owner)) hp
  rw [ho] at mine
  refine ⟨_, by rw [stageRecords_inCycleWith, hr, Option.map_some], ?_⟩
  rw [LoadRec.agree_span found.1 found.2, arbiter, mine, Option.map_some]

/-! ## The hoists at stage 7 (R32, R198) -/

/-- A hoist with a load IN_CYCLE stands in RECOVER with it. -/
theorem startHoist_view (h : Hoist) (s : State) :
    ∃ x, (startHoist h s).spanView = s.spanView.put h x ∧
      ∀ r, s.inCycleWith h = some r → x.phase = .recover ∧ x.load = some r.id := by
  unfold startHoist
  dsimp only
  split
  next hno => exact ⟨_, spanView_setSeq .., fun r hr => by rw [hno] at hr; cases hr⟩
  next r hr =>
    refine ⟨_, spanView_setSeq .., fun x hx => ?_⟩
    rw [hr] at hx
    cases hx
    exact ⟨rfl, rfl⟩

theorem startHoist_records (h : Hoist) (s : State) : (startHoist h s).records = s.records := by
  unfold startHoist
  dsimp only
  split <;> simp

theorem stagePhases_hoisted {s : State} (agree : s.spansAgree) (queue : s.arbiter.queue = []) (h : Hoist) :
    (stagePhases s).spanView.Hoisted h := by
  have skimmer (u : State) : (startSkimmer u).spanView = u.spanView := by
    unfold startSkimmer
    split <;> simp
  obtain ⟨x, hx, recoverA⟩ := startHoist_view .A s
  obtain ⟨y, hy, recoverB⟩ := startHoist_view .B (startHoist .A s)
  have view : (stagePhases s).spanView = (s.spanView.put .A x).put .B y := by
    rw [stagePhases, skimmer, hy, hx]
  have recover {r : LoadRec} (hr : s.inCycleWith h = some r) :
      ((stagePhases s).spanView.stage h).phase = .recover ∧ ((stagePhases s).spanView.stage h).load = some r.id := by
    rw [view]
    cases h with
    | A =>
      rw [SpanView.put_stage_of_ne _ (by decide), SpanView.put_stage]
      exact recoverA r hr
    | B =>
      rw [SpanView.put_stage]
      exact recoverB r ((inCycleWith_congr (startHoist_records .A s) .B).trans hr)
  have spans : (stagePhases s).spanView.arbiter = s.arbiter := by
    rw [view]
    rfl
  refine ⟨fun c hc => ?_, fun p hp ho => ?_, fun p hp ho => ?_⟩
  · rw [spans, queue] at hc
    cases hc
  · obtain ⟨r, hr, -⟩ := agree p (spans ▸ hp) h ho
    obtain ⟨phase, -⟩ := recover hr
    rw [phase]
    exact ⟨by decide, (HoistStage.settled_of_phase (by simp [phase])).2⟩
  · obtain ⟨r, hr, hspan⟩ := agree p (spans ▸ hp) h ho
    refine ⟨r.spanField, ?_, (recover hr).2, hspan⟩
    rw [view]
    exact List.mem_map_of_mem (List.mem_of_find?_eq_some hr)

theorem spanView_stageField (s : State) : (stageField s).spanView = s.spanView := by
  have stop (h : Hoist) (u : State) : (recoverStop h u).spanView = u.spanView := by
    unfold recoverStop
    split <;> simp
  have poll (h : Hoist) (u : State) : (firstPoll h u).spanView = u.spanView := by
    unfold firstPoll
    split <;> simp
  have fall (st : Station) (u : State) : (pollFallsDue st u).spanView = u.spanView := by simp
  simp only [stageField]
  rw [fall, poll, poll]
  split
  · rw [show ∀ u : State, (sendCommand .skimmer .abort u).spanView = u.spanView from fun u => by simp, stop, stop]
  · rw [stop, stop]

theorem State.spansAgree.congr {s t : State} (hs : s.spansAgree) (arbiter : t.arbiter = s.arbiter)
    (records : t.records = s.records) : t.spansAgree := by
  intro p hp h ho
  rw [inCycleWith_congr records]
  exact hs p (arbiter ▸ hp) h ho

theorem stagesTo_eight (k : ResetKind) (s : State) :
    stagesTo k 8 s = stageField (stagePhases (stageBath (stageRecords (stagesTo k 4 s)))) := by
  simp only [stagesTo, Nat.reduceSub, show List.range' 2 7 = [2, 3, 4, 5, 6, 7, 8] from rfl,
    show List.range' 2 3 = [2, 3, 4] from rfl, List.foldl_cons, List.foldl_nil, stage]

/-- The map as a reset leaves it: no claim waits. -/
structure SpanArbiter.Reset (a : SpanArbiter) : Prop where
  queue : a.queue = []
  owners : (a.spans.map Span.owner).Nodup

theorem SpanArbiter.Reset.release {a : SpanArbiter} (ha : a.Reset) (o : Owner) : (a.release o).Reset :=
  ⟨ha.queue, ha.owners.sublist (List.filter_sublist.map _)⟩

theorem SpanArbiter.Reset.single {a : SpanArbiter} (ha : a.Reset) : a.Single :=
  ⟨ha.owners, by simp [ha.queue], by simp [ha.queue]⟩

/-- The law holds after every start-up: the queue begins empty, and stages 5 and 7 agree the map, the records and the
hoists. -/
theorem startUp_claimsLaw (k : ResetKind) {s : State} (hs : s.arbiter.Reset) : (startUp k s).spanView.claimsLaw := by
  have release (a : SpanArbiter) (o : Owner) (ha : a.Reset) : (a.release o).Reset := ha.release o
  refine ⟨(startUp_keeps_map release k hs).single, ?_⟩
  unfold startUp
  split
  · intro _ h
    have reset := stagesTo_keeps_map release k 4 (s := drawOvertaken s) hs
    rw [spanView_endEvent, stagesTo_eight, spanView_stageField]
    generalize stagesTo k 4 (drawOvertaken s) = u at reset ⊢
    have agree : (stageBath (stageRecords u)).spansAgree :=
      (stageRecords_spansAgree reset.owners).congr (by simp [stageBath]) (by simp [stageBath])
    have queue : (stageBath (stageRecords u)).arbiter.queue = [] :=
      (stage_keeps_map release k 6 (stage_keeps_map release k 5 reset)).queue
    exact stagePhases_hoisted agree queue h
  · intro hw
    simp [State.spanView, State.active, overtakenAt] at hw

end Sys2Proof.Machine
end

section
/-! PROOFS. What a step makes of spans and claims, and the laws that every step keeps (R48, R53 and R47, R49, R50, R56). -/

namespace Sys2Proof.Machine

/-- What a command, or a second of the module's own timing, makes of the map, the queue, the hoists and the loads. -/
inductive SpanOutcome (s t : State) : Prop
  | still (ht : t.spanView = s.spanView)
  | moves (active : s.active = true) (ht : SpanMoves s t)
  /-- R7, R117: a load enters the table or leaves it, or is given to a hoist; or a hoist is enabled or disabled. -/
  | loads {i : Instr} {f : State → State × Answer} (owner : ownerOf i = some f) (enters : entersLoad i = true)
      (active : s.active = true) (ht : t.spanView = (f s).1.spanView)
  /-- R194, R197: all work ends, and the module does not work. -/
  | ends (active : t.active = false) (arbiter : t.arbiter = { s.arbiter with queue := [] })
  | starts (k : ResetKind) (ht : t = startUp k (endWork s))
  | supply (fast single key : Bool) (ht : t = powerUp fast single key s)

/-- The work of a request at its owner, answered. -/
theorem SpanOutcome.of_owner {i : Instr} {f : State → State × Answer} (ho : ownerOf i = some f) {s t : State}
    (active : s.active = true) (ht : t.spanView = (f s).1.spanView) : SpanOutcome s t := by
  cases hi : entersLoad i with
  | false => exact .moves active ((owner_moves ho hi s).still ht)
  | true => exact .loads ho hi active ht

theorem serve_spans (kind tag : Nat) (payload : List Byte) {s : State} (active : s.active = true) :
    SpanOutcome s (serve kind tag payload s) := by
  unfold serve
  split
  · exact .still rfl
  · exact .still rfl
  · split
    next ho => exact .of_owner ho active rfl
    next => exact .still rfl

theorem receiveByte_spans (b : Byte) {s : State} (active : s.active = true) : SpanOutcome s (receiveByte b s) := by
  unfold receiveByte
  split
  · split <;> exact .still rfl
  · unfold storeByte
    dsimp only
    split
    · exact .still rfl
    · split
      · split
        · exact serve_spans _ _ _ active
        · exact .still rfl
      · exact .still rfl
  · exact .still rfl

theorem endWork_ends (s : State) : SpanOutcome s (endWork s) := .ends (by simp [State.active, endWork]) rfl

theorem exec_spans {c : Instr} {s t : State} (ht : exec c s = .next t) : SpanOutcome s t := by
  rcases command_cases c with ⟨f, hf⟩ | ⟨e, he⟩ | ⟨k, tag, rfl⟩ | rfl | rfl | rfl | ⟨f, l, k, rfl⟩ | rfl | rfl | rfl |
    ⟨h, rfl⟩ | ⟨h, rfl⟩ | ⟨b, rfl⟩ | ⟨x, rfl⟩
  · obtain ⟨k, hk⟩ := exec_owner hf s
    rw [hk] at ht
    cases ht
    unfold request
    split
    next hlistening =>
      simp only [State.listening, Bool.and_eq_true] at hlistening
      exact .of_owner hf hlistening.1.1 rfl
    next => exact .still rfl
  · rw [exec_event he s] at ht
    cases ht
    unfold event
    split
    · exact .moves ‹_› ((effect_moves he s).still (spanView_endEvent _))
    · exact .still rfl
  all_goals cases ht
  · unfold unknownKind
    split <;> exact .still rfl
  · split <;> exact .still rfl
  · (repeat' split) <;> exact .still rfl
  · split
    · unfold replyEnds
      split
      · exact .starts .restart rfl
      · exact .still rfl
    · exact .still rfl
  · exact .supply f l k rfl
  · split
    · exact endWork_ends s
    · exact .still rfl
  · split
    · exact .starts .input rfl
    · exact .still rfl
  · split <;> exact .still rfl
  · split
    · exact .moves ‹_› ((pressButton_moves h s).still (spanView_endEvent _))
    · exact .still (spanView_holdLevel h s true)
  · split
    · exact .still ((spanView_endEvent _).trans (spanView_releaseButton h s))
    · exact .still (spanView_holdLevel h s false)
  · split
    · exact receiveByte_spans b ‹_›
    · exact .still rfl
  · split
    · exact .ends (by simp [State.active, powerDown]) rfl
    · exact .still rfl

/-- With nothing else waiting, a second passes at the spans and claims as they are. -/
theorem tick_spans (s : State) : SpanOutcome s (tick s) := by
  unfold tick
  split
  · exact .still (spanView_countSecond s)
  · split <;> exact .still rfl

/-- What every step makes of them, from the state or from the state with the command taken off its queue. -/
theorem step_spans {s t : State} (ht : step s = .next t) : ∃ q, SpanOutcome { s with pending := q } t := by
  unfold step at ht
  split at ht
  next hq =>
    cases ht
    exact ⟨s.pending, tick_spans s⟩
  next c rest hq => exact ⟨rest, exec_spans ht⟩

/-! ## Laws of the map -/

theorem powerUp_keeps_map {Q : SpanArbiter → Prop} (hQ : MapLaw Q) (fast single key : Bool) {s : State}
    (hs : Q s.arbiter) : Q (powerUp fast single key s).arbiter := by
  refine startUp_keeps_map hQ.release .supply ?_
  have checked : Q (checkStore (supplyReset fast single s)).arbiter := by
    unfold checkStore
    split
    · exact hs
    · exact hQ.fresh
  cases key <;> exact hQ.queue _ _ checked

theorem SpanOutcome.keeps_map {Q : SpanArbiter → Prop} (hQ : MapLaw Q) {s t : State} (ht : SpanOutcome s t)
    (hs : Q s.arbiter) : Q t.arbiter := by
  cases ht with
  | still ht => exact spanView_arbiter t ▸ ht ▸ hs
  | moves _ ht => exact ht.keeps_map hQ hs
  | loads owner enters _ ht =>
    rw [← spanView_arbiter, ht, spanView_arbiter, owner_arbiter owner enters]
    exact hs
  | ends _ arbiter => exact arbiter ▸ hQ.queue _ _ hs
  | starts k ht => exact ht ▸ startUp_keeps_map hQ.release k (hQ.queue _ _ hs)
  | supply fast single key ht => exact ht ▸ powerUp_keeps_map hQ fast single key hs

theorem step_keeps_map {Q : SpanArbiter → Prop} (hQ : MapLaw Q) {s t : State} (hs : Q s.arbiter)
    (ht : step s = .next t) : Q t.arbiter := by
  obtain ⟨q, ht⟩ := step_spans ht
  exact ht.keeps_map hQ hs

/-! ## The law of claims and spans -/

theorem SpanMoves.claimsLaw {s t : State} (ht : SpanMoves s t) (hs : s.spanView.Lawful) : t.spanView.claimsLaw := by
  obtain ⟨single, hoisted, -, -⟩ := ht.keeps (P := SpanView.Lawful) (fun _ _ hv step => step.lawful hv) hs
  exact ⟨single, fun _ => hoisted⟩

theorem stageSupply_reset (fast single key : Bool) {s : State} (owners : (s.arbiter.spans.map Span.owner).Nodup) :
    (stageSupply fast single key s).arbiter.Reset := by
  have checked : ((checkStore (supplyReset fast single s)).arbiter.spans.map Span.owner).Nodup := by
    unfold checkStore
    split
    · exact owners
    · exact List.nodup_nil
  cases key <;> exact ⟨rfl, checked⟩

theorem SpanOutcome.claimsLawful {s t : State} (tables : s.tablesLawful) (carry : s.carryLawful)
    (claims : s.claimsLawful) (ht : SpanOutcome s t) : t.claimsLawful := by
  have law := (claimsLawful_iff s).1 claims
  rw [claimsLawful_iff]
  cases ht with
  | still ht => exact ht ▸ law
  | moves active ht => exact ht.claimsLaw (spanView_lawful carry active tables claims)
  | loads owner enters active ht => exact ht ▸ owner_claimsLaw tables carry active law owner enters
  | ends active arbiter =>
    refine ⟨?_, fun working => ?_⟩
    · rw [spanView_arbiter, arbiter]
      exact law.1.fewer (List.nil_sublist _) (.refl _)
    · rw [show t.spanView.working = t.active from rfl, active] at working
      cases working
  | starts k ht => exact ht ▸ startUp_claimsLaw k ⟨rfl, law.1.owners⟩
  | supply fast single key ht => exact ht ▸ startUp_claimsLaw .supply (stageSupply_reset fast single key law.1.owners)

theorem step_keeps_claimsLawful {s t : State} (tables : s.tablesLawful) (carry : s.carryLawful)
    (claims : s.claimsLawful) (ht : step s = .next t) : t.claimsLawful := by
  obtain ⟨q, ht⟩ := step_spans ht
  exact ht.claimsLawful (s := { s with pending := q }) tables carry claims

/-- With one span for each owner, the runway condition holds of every span of the two hoists (R47, R53). -/
theorem spans_apart {s : State} (runway : s.runwayLawful) (claims : s.claimsLawful) :
    ∀ p ∈ s.arbiter.spans, ∀ q ∈ s.arbiter.spans, p.owner = .hoist .A → q.owner = .hoist .B → p.last + 2 ≤ q.first := by
  intro p hp q hq hA hB
  obtain ⟨owners, -⟩ := claims
  have hp := SpanArbiter.spanOf_of_mem owners hp
  have hq := SpanArbiter.spanOf_of_mem owners hq
  rw [hA] at hp
  rw [hB] at hq
  exact runway p (by simp [hp]) q (by simp [hq])

end Sys2Proof.Machine

open Sys2Proof Sys2Proof.Machine

/-- Settles O55: every step is made of moves of the map, the queue and the hoists, each of which keeps the laws; a reset
ends every claim, and its start-up agrees the spans with the retained records. -/
theorem zonesAndSpansStayLawful : Obligations.ZonesAndSpansStayLawful := by
  refine ⟨fun s t hs ht => ?_, fun s t hs ht => ?_, fun s t tables carry claims runway ht => ?_⟩
  · exact step_keeps_map zonesLawful_mapLaw hs ht
  · exact step_keeps_map runwayLawful_mapLaw hs ht
  · have kept := step_keeps_claimsLawful tables carry claims ht
    exact ⟨kept, spans_apart (step_keeps_map runwayLawful_mapLaw runway ht) kept⟩

end

section
/-! PROOFS. The requests of the Span Arbiter by their rules (R51, R58, R59, R60). -/

namespace Sys2Proof.Machine

theorem zoneOk_iff (z : Nat) : zoneOk z = true ↔ 1 ≤ z ∧ z ≤ 12 := by simp [zoneOk]

theorem maintOk_iff (n : Nat) : maintOk n = true ↔ 1 ≤ n ∧ n ≤ 4 := by simp [maintOk]

theorem maintOk_false_iff (n : Nat) : maintOk n = false ↔ n = 0 ∨ 4 < n := by
  rw [← Bool.not_eq_true, maintOk_iff]
  omega

theorem inService_of_getElem? {a : SpanArbiter} {z : Nat} {b : Bool} (hb : a.service[z - 1]? = some b) :
    a.inService z = b := by
  simp [SpanArbiter.inService, hb]

theorem spanOf_isSome_iff {a : SpanArbiter} {o : Owner} : (a.spanOf o).isSome ↔ ∃ p ∈ a.spans, p.owner = o := by
  simp [SpanArbiter.spanOf]

theorem ownerOf_isSome_iff {a : SpanArbiter} {z : Nat} :
    (a.ownerOf z).isSome ↔ ∃ p ∈ a.spans, p.first ≤ z ∧ z ≤ p.last := by
  simp [SpanArbiter.ownerOf, Span.covers_iff]

theorem waits_iff {a : SpanArbiter} {o : Owner} : a.waits o = true ↔ ∃ c ∈ a.queue, c.claimant = o := by
  simp [SpanArbiter.waits]

/-! ## The tries of an event (R52, R56) -/

/-- A grant leaves the queue as it is: the claim has left it before. -/
theorem grant_queue (o : Owner) (f l : Nat) (s : State) : (grant o f l s).arbiter.queue = s.arbiter.queue := by
  unfold grant
  dsimp only
  split
  · rfl
  · split <;> simp

section Tries
variable {s : State} {c : Claim} {rest : List Claim}

theorem placeClaims_of_empty (hq : s.arbiter.queue = []) : placeClaims s = s := by
  simp [placeClaims, hq, tryPlacement]

theorem placeClaims_of_unplaced (hq : s.arbiter.queue = c :: rest) (unplaced : s.arbiter.place c = none) :
    placeClaims s = s := by
  rw [placeClaims, hq, List.length_cons, tryPlacement]
  simp only [hq, unplaced]

theorem placeClaims_of_placed {f l : Nat} (hq : s.arbiter.queue = c :: rest) (placed : s.arbiter.place c = some (f, l)) :
    placeClaims s = placeClaims (grant c.claimant f l { s with arbiter := { s.arbiter with queue := rest } }) := by
  rw [placeClaims, hq, List.length_cons, tryPlacement]
  simp only [hq, placed]
  rw [placeClaims, grant_queue]

/-- A maintenance claim is placed at exactly its zones, where all may be granted (R55). -/
theorem place_maint {a : SpanArbiter} {n f l : Nat} (hc : c.claimant = .maint n) (hn : c.need = .zones f l) :
    a.place c = if a.runAvailable f l then some (f, l) else none := by
  simp [SpanArbiter.place, hc, hn]

end Tries

/-- The zones of a run may all be granted, the service states read from the list. -/
theorem runAvailable_iff_getElem? (a : SpanArbiter) (f l : Nat) :
    a.runAvailable f l = true ↔ ∀ z ∈ List.range' f (l + 1 - f), a.service[z - 1]? = some true ∧
      ∀ p ∈ a.spans, ¬ (p.first ≤ z ∧ z ≤ p.last) := by
  have served (z : Nat) : a.service.getD (z - 1) false = true ↔ a.service[z - 1]? = some true := by
    rw [List.getD_eq_getElem?_getD]
    cases a.service[z - 1]? <;> simp
  have run (z : Nat) : z ∈ List.range' f (l + 1 - f) ↔ f ≤ z ∧ z ≤ l := by
    rw [List.mem_range'_1]
    omega
  simp only [SpanArbiter.runAvailable_iff, served, run, and_imp]

/-! ## SET_ZONE_SERVICE (R59) -/

section Service
variable {z st : Nat} (s : State)

theorem setZoneService_range (h : z = 0 ∨ 12 < z ∨ 1 < st) : setZoneService z st s = refuse .range s := by
  unfold setZoneService
  split
  · rfl
  next b hb =>
    have hst : st ≤ 1 := by
      match st with
      | 0 => omega
      | 1 => omega
      | n + 2 => cases hb
    rw [if_pos]
    rw [← Bool.not_eq_true, zoneOk_iff]
    omega

variable (lo : 1 ≤ z) (hi : z ≤ 12)
include lo hi

theorem setZoneService_out :
    setZoneService z 1 s = if (s.arbiter.ownerOf z).isSome then refuse .state s else taken (setService z false s) := by
  have hok : zoneOk z = true := (zoneOk_iff z).2 ⟨lo, hi⟩
  simp [setZoneService, serviceOf, hok]

theorem setZoneService_in :
    setZoneService z 0 s =
      if s.arbiter.inService z then taken s else taken (endEvent (placeClaims (setService z true s))) := by
  have hok : zoneOk z = true := (zoneOk_iff z).2 ⟨lo, hi⟩
  simp [setZoneService, serviceOf, hok]

end Service

/-! ## RELEASE_ZONES (R58) -/

section Release
variable {n : Nat} {s : State} (lo : 1 ≤ n) (hi : n ≤ 4)
include lo hi

theorem releaseZones_held (held : ∃ p ∈ s.arbiter.spans, p.owner = .maint n) :
    releaseZones n s = takenWith .spanReleased (endEvent (releaseSpan (.maint n) s)) := by
  have hok : maintOk n = true := (maintOk_iff n).2 ⟨lo, hi⟩
  simp [releaseZones, hok, spanOf_isSome_iff.2 held]

theorem releaseZones_spanless (spanless : ∀ p ∈ s.arbiter.spans, p.owner ≠ .maint n) :
    releaseZones n s = if s.arbiter.waits (.maint n) then
      takenWith .claimWithdrawn (endEvent (withdrawClaim (.maint n) s)) else refuse .notFound s := by
  have hok : maintOk n = true := (maintOk_iff n).2 ⟨lo, hi⟩
  simp [releaseZones, hok, SpanArbiter.spanOf_eq_none_iff.2 spanless]

end Release

/-- The queue without the claims of `o`, where one of them, or one of another claimant, stands at its head. -/
theorem withoutClaim_cons {o : Owner} {s : State} {c : Claim} {rest : List Claim} (hq : s.arbiter.queue = c :: rest) :
    withoutClaim o s = { s with arbiter := { s.arbiter with
      queue := if c.claimant = o then rest.filter (fun c => !decide (c.claimant = o))
        else c :: rest.filter (fun c => !decide (c.claimant = o)) } } := by
  unfold withoutClaim
  rw [hq]
  by_cases hc : c.claimant = o <;> simp [hc]

/-! ## CLAIM_ZONES (R51, R52) -/

section Claim
variable {n f l : Nat} {s : State}

theorem claimZones_range (h : n = 0 ∨ 4 < n ∨ f = 0 ∨ 12 < l ∨ l < f) : claimZones n f l s = refuse .range s := by
  unfold claimZones
  by_cases hn : maintOk n = false
  · rw [if_pos hn]
  · rw [maintOk_false_iff] at hn
    rw [if_neg (by rwa [maintOk_false_iff]), if_pos]
    simp only [← Bool.not_eq_true, zoneOk_iff]
    omega

section Ok
variable (lo : 1 ≤ n) (hi : n ≤ 4) (hf : 1 ≤ f) (hfl : f ≤ l) (hl : l ≤ 12)
include lo hi hf hfl hl

theorem claimZones_checked :
    claimZones n f l s =
      if (∃ p ∈ s.arbiter.spans, p.owner = .maint n) ∨ ∃ c ∈ s.arbiter.queue, c.claimant = .maint n then
        refuse .exists s
      else
        let s' := endEvent (joinClaim { claimant := .maint n, need := .zones f l, joined := s.clock } s)
        takenWith (claimOutcome (.maint n) s') s' := by
  have hn : maintOk n = true := (maintOk_iff n).2 ⟨lo, hi⟩
  have hzf : zoneOk f = true := (zoneOk_iff f).2 ⟨hf, by omega⟩
  have hzl : zoneOk l = true := (zoneOk_iff l).2 ⟨by omega, hl⟩
  simp only [claimZones, hn, hzf, hzl, Bool.true_eq_false, false_or, if_false, not_lt.2 hfl, spanOf_isSome_iff, waits_iff]

end Ok

/-- A claim that waits reports its place: the tail. -/
theorem claimOutcome_waiting {o : Owner} {c : Claim} (hc : c.claimant = o) (spanless : ∀ p ∈ s.arbiter.spans, p.owner ≠ o)
    (claimless : ∀ d ∈ s.arbiter.queue, d.claimant ≠ o) :
    claimOutcome o (endEvent { s with arbiter := s.arbiter.joined c }) = .claimWaiting (s.arbiter.queue.length + 1) := by
  have none : (s.arbiter.joined c).spanOf o = none := SpanArbiter.spanOf_eq_none_iff.2 spanless
  have place : (s.arbiter.joined c).placeInQueue o = s.arbiter.queue.length + 1 := by
    have before : s.arbiter.queue.findIdx (fun d => decide (d.claimant = o)) = s.arbiter.queue.length :=
      List.findIdx_eq_length.2 fun d hd => by simpa using claimless d hd
    simp [SpanArbiter.placeInQueue, SpanArbiter.joined, List.findIdx_append, before, hc]
  simp [claimOutcome, none, place]

/-- A claim granted at once reports its zones. -/
theorem claimOutcome_granted {o : Owner} {f l now : Nat} {rest : List Claim}
    (spanless : ∀ p ∈ s.arbiter.spans, p.owner ≠ o) :
    claimOutcome o (endEvent { s with arbiter := s.arbiter.granted o f l now rest }) = .spanGranted f l := by
  have mine : (s.arbiter.granted o f l now rest).spanOf o = some ⟨o, f, l, now⟩ := by
    have none : s.arbiter.spans.find? (fun p => decide (p.owner = o)) = none := SpanArbiter.spanOf_eq_none_iff.2 spanless
    simp [SpanArbiter.spanOf, SpanArbiter.granted, none]
  simp [claimOutcome, mine]

theorem joinClaim_behind (c : Claim) (hq : s.arbiter.queue ≠ []) :
    joinClaim c s = { s with arbiter := s.arbiter.joined c } :=
  if_neg (by simpa using hq)

/-- In an empty queue a maintenance claim is tried at once. -/
theorem joinClaim_empty {c : Claim} (hc : c.claimant = .maint n) (hn : c.need = .zones f l)
    (hq : s.arbiter.queue = []) :
    joinClaim c s = if s.arbiter.runAvailable f l then
      { s with arbiter := s.arbiter.granted (.maint n) f l s.clock s.arbiter.queue }
      else { s with arbiter := s.arbiter.joined c } := by
  have head : (s.arbiter.joined c).queue = [c] := by simp [SpanArbiter.joined, hq]
  have tried : joinClaim c s = placeClaims { s with arbiter := s.arbiter.joined c } := if_pos (by simp [hq])
  have place : (s.arbiter.joined c).place c = if s.arbiter.runAvailable f l then some (f, l) else none :=
    place_maint hc hn
  refine tried.trans ?_
  split
  next hrun =>
    refine (placeClaims_of_placed (s := { s with arbiter := s.arbiter.joined c }) head (place.trans (if_pos hrun))).trans ?_
    rw [placeClaims_of_empty (grant_queue ..), hc, hq]
    rfl
  next hrun => exact placeClaims_of_unplaced head (place.trans (if_neg hrun))

end Claim

end Sys2Proof.Machine

open Sys2Proof Sys2Proof.Machine

/-- Settles O22: each request by its own equations, in the order of its checks. -/
theorem zonesAreServedReleasedAndRead : Obligations.ZonesAreServedReleasedAndRead := by
  refine ⟨fun z st s hl => ⟨fun hbad => refused_of rfl hl (setZoneService_range s hbad), fun lo hi => ⟨?_, ?_, ?_, ?_⟩⟩,
    fun n s hl => ⟨takenWith_of rfl hl rfl, fun hbad => ?_, fun lo hi => ⟨?_, ?_⟩⟩⟩
  · intro occupied
    exact refused_of rfl hl ((setZoneService_out s lo hi).trans (if_pos (ownerOf_isSome_iff.2 occupied)))
  · intro free
    refine taken_of rfl hl ((setZoneService_out s lo hi).trans (if_neg ?_))
    rw [ownerOf_isSome_iff]
    rintro ⟨p, hp, hz⟩
    exact free p hp hz
  · intro served
    exact taken_of rfl hl ((setZoneService_in s lo hi).trans (if_pos (inService_of_getElem? served)))
  · intro out
    refine taken_of rfl hl ((setZoneService_in s lo hi).trans (if_neg ?_))
    simp [inService_of_getElem? out]
  · exact refused_of rfl hl (if_pos ((maintOk_false_iff n).2 hbad))
  · intro held
    exact takenWith_of rfl hl (releaseZones_held lo hi held)
  · intro spanless
    have spanless := releaseZones_spanless lo hi spanless
    refine ⟨fun none => ?_, fun c rest hq hc => ?_, fun c rest hq hc waits => ?_⟩
    · refine refused_of rfl hl (spanless.trans (if_neg ?_))
      simpa [waits_iff] using none
    · refine takenWith_of rfl hl (spanless.trans ?_)
      rw [if_pos (waits_iff.2 ⟨c, by simp [hq], hc⟩), withdrawClaim_eq, withoutClaim_cons hq, if_pos (by simp [hq, hc]),
        if_pos hc]
    · obtain ⟨d, hd, hdn⟩ := waits
      refine takenWith_of rfl hl (spanless.trans ?_)
      rw [if_pos (waits_iff.2 ⟨d, by simp [hq, hd], hdn⟩), withdrawClaim_eq, withoutClaim_cons hq,
        if_neg (by simp [hq, hc]), if_neg hc]

/-- Settles O23: the claim joins the tail, and in an empty queue is tried at once, as the zones stand. -/
theorem claimZonesByItsRule : Obligations.ClaimZonesByItsRule := by
  intro n f l s hlis
  refine ⟨fun hbad => refused_of rfl hlis (claimZones_range hbad), fun lo hi hf hfl hl => ?_⟩
  have checked := claimZones_checked (s := s) lo hi hf hfl hl
  refine ⟨fun hold => refused_of rfl hlis (checked.trans (if_pos hold)), fun spanless claimless => ?_⟩
  rw [if_neg (by simpa using ⟨spanless, claimless⟩)] at checked
  have waits {b : ReplyBody} {t : State} (ht : joinClaim ⟨.maint n, .zones f l, s.clock⟩ s = t)
      (hb : claimOutcome (.maint n) (endEvent t) = b) : Taken (.claimZones n f l) 0x31 b s (endEvent t) := by
    subst ht hb
    exact takenWith_of rfl hlis checked
  refine ⟨fun hq => ?_, fun hq => ⟨fun free => ?_, fun taken => ?_⟩⟩
  · exact waits (joinClaim_behind _ hq) (claimOutcome_waiting rfl spanless claimless)
  · exact waits ((joinClaim_empty rfl rfl hq).trans (if_pos ((runAvailable_iff_getElem? ..).2 free)))
      (claimOutcome_granted spanless)
  · have hrun : ¬ s.arbiter.runAvailable f l = true := by
      rw [runAvailable_iff_getElem?]
      rintro free
      obtain ⟨z, hz, out | ⟨p, hp, covered⟩⟩ := taken
      · exact out (free z hz).1
      · exact (free z hz).2 p hp covered
    have waiting := waits ((joinClaim_empty rfl rfl hq).trans (if_neg hrun)) (claimOutcome_waiting rfl spanless claimless)
    rwa [SpanArbiter.joined, hq] at waiting

end

section
/-! PROOFS. First-fit placement and the grant to a hoist (R2, R10, R54, R56). -/

namespace Sys2Proof.Machine

/-! ## First fit (R54) -/

theorem SpanArbiter.fitsA_iff (a : SpanArbiter) (n f : Nat) :
    a.fitsA n f ↔ f + n ≤ 13 ∧
      (∀ z, f ≤ z → z ≤ f + n - 1 → a.service.getD (z - 1) false = true ∧
        ∀ p ∈ a.spans, ¬ (p.first ≤ z ∧ z ≤ p.last)) ∧
      ∀ b, a.spanOf (.hoist .B) = some b → f + n - 1 + 2 ≤ b.first := by
  rw [SpanArbiter.fitsA, a.runAvailable_iff, a.belowB_iff]

theorem SpanArbiter.fitsB_iff (a : SpanArbiter) (n l : Nat) :
    l ≤ 12 ∧ a.fitsB n l ↔ n ≤ l ∧ l ≤ 12 ∧
      (∀ z, l + 1 - n ≤ z → z ≤ l → a.service.getD (z - 1) false = true ∧
        ∀ p ∈ a.spans, ¬ (p.first ≤ z ∧ z ≤ p.last)) ∧
      ∀ p, a.spanOf (.hoist .A) = some p → p.last + 2 ≤ l + 1 - n := by
  rw [SpanArbiter.fitsB, a.runAvailable_iff, a.aboveA_iff, and_left_comm]

/-- The lowest first zone, counted over all numbers: a claim is for at least one zone. -/
theorem SpanArbiter.placeHoist_A_lowest (a : SpanArbiter) {n : Nat} (hn : 1 ≤ n) (f l : Nat) :
    a.placeHoist .A n = some (f, l) ↔
      (1 ≤ f ∧ a.fitsA n f) ∧ l = f + n - 1 ∧ ∀ g, g < f → ¬ (1 ≤ g ∧ a.fitsA n g) := by
  rw [a.placeHoist_A_iff]
  constructor
  · rintro ⟨⟨lo, -, fits⟩, hl, first⟩
    exact ⟨⟨lo, fits⟩, hl, fun g hg hfit => first g hfit.1 hg hfit.2⟩
  · rintro ⟨⟨lo, fits⟩, hl, first⟩
    have bound : f + n ≤ 13 := fits.1
    exact ⟨⟨lo, by omega, fits⟩, hl, fun g hlo hg hfit => first g hg ⟨hlo, hfit⟩⟩

/-- The highest last zone, counted over all numbers. -/
theorem SpanArbiter.placeHoist_B_highest (a : SpanArbiter) {n : Nat} (hn : 1 ≤ n) (f l : Nat) :
    a.placeHoist .B n = some (f, l) ↔
      (l ≤ 12 ∧ a.fitsB n l) ∧ f = l + 1 - n ∧ ∀ m, l < m → ¬ (m ≤ 12 ∧ a.fitsB n m) := by
  rw [a.placeHoist_B_iff]
  constructor
  · rintro ⟨⟨-, hi, fits⟩, hf, last⟩
    exact ⟨⟨hi, fits⟩, hf, fun m hm hfit => last m hm hfit.1 hfit.2⟩
  · rintro ⟨⟨hi, fits⟩, hf, last⟩
    have bound : n ≤ l := fits.1
    exact ⟨⟨by omega, hi, fits⟩, hf, fun m hm hhi hfit => last m hm ⟨hhi, hfit⟩⟩

/-! ## The grant to a hoist (R2, R10, R56) -/

/-- The grant enters the map, the record of the carried load and the centre; a hoist in AWAIT_SPAN goes on from there. -/
theorem grant_hoist {h : Hoist} {f l id : Nat} {s : State} (hload : (s.seq h).load = some id) :
    let q := { s.seq h with centre := some (spanCentre s.kettleLength f l) }
    let s' := withLoad id (fun r => { r with span := some (f, l) })
      { s with arbiter := s.arbiter.granted (.hoist h) f l s.clock s.arbiter.queue }
    grant (.hoist h) f l s =
      if (s.seq h).phase = .awaitSpan then beginTravelIn h (setSeq h q s') else setSeq h q s' := by
  intro q s'
  let u : State := { s with arbiter := s.arbiter.granted (.hoist h) f l s.clock s.arbiter.queue }
  have recorded : modCarried h (fun r => { r with span := some (f, l) }) u = s' := modCarried_eq (s := u) hload _
  have written : modSeq h (fun q => { q with centre := some (spanCentre s'.kettleLength f l) }) s' = setSeq h q s' := by
    rw [modSeq, seq_withLoad]
    rfl
  calc grant (.hoist h) f l s
      = (let v := modSeq h (fun q => { q with centre := some (spanCentre s'.kettleLength f l) }) s'
          if (v.seq h).phase = .awaitSpan then beginTravelIn h v else v) := recorded ▸ rfl
    _ = if (s.seq h).phase = .awaitSpan then beginTravelIn h (setSeq h q s') else setSeq h q s' := by
      rw [written]
      change (if ((setSeq h q s').seq h).phase = .awaitSpan then _ else _) = _
      rw [seq_setSeq]

end Sys2Proof.Machine

open Sys2Proof Sys2Proof.Machine

/-- Settles O24: the searches of `placeHoist`, the tries of `placeClaims` head by head, and the grant of a hoist's span. -/
theorem placementIsFirstFitAndStopsAtAHeadNotPlaced : Obligations.PlacementIsFirstFitAndStopsAtAHeadNotPlaced := by
  refine ⟨fun a n hn => ⟨fun f l => ?_, fun f l => ?_⟩, fun s => ⟨placeClaims_of_empty, fun c rest hq =>
    ⟨placeClaims_of_unplaced hq, fun f l => placeClaims_of_placed hq, fun n f l _ _ _ => rfl⟩⟩,
    fun h f l id c s s' hload hc hs' => ?_⟩
  · simpa only [SpanArbiter.fitsA_iff] using a.placeHoist_A_lowest hn f l
  · simpa only [SpanArbiter.fitsB_iff] using a.placeHoist_B_highest hn f l
  · have centre : c = spanCentre s.kettleLength f l := hc
    have granted := grant_hoist (f := f) (l := l) hload
    rw [← centre] at granted
    have seq : s'.seq h = { s.seq h with centre := some c } := by rw [hs', seq_setSeq]
    refine ⟨fun hp => ?_, fun x y pc hp hx hpc hle hy => ⟨fun hf => ?_, fun hn => ?_⟩⟩
    · rw [granted, if_neg hp, hs']
      rfl
    all_goals
      have clear := Sequencer.clear_of_le (q := { s.seq h with centre := some c }) hx hpc hle
      rw [granted, if_pos hp, seq]
    · rw [beginTravelIn_far clear rfl hy hf, hs', setSeq_setSeq]
      rfl
    · rw [beginTravelIn_near clear rfl hy hn, hs', setSeq_setSeq]
      rfl

end

section
/-! PROOFS. The Skimmer Arbiter: its sweeps, its answers to the hoists, and its service (R63 to R72). -/

namespace Sys2Proof.Machine

/-! ## RESTORE_SKIMMER (R72) -/

section Restore
variable {s : State}

theorem restoreSkimmer_outOfService (out : s.skimmer.mode = .outOfService) :
    restoreSkimmer s =
      taken { s with skimmer := { s.skimmer with mode := .idle, sweep := none, queue := [], outFlag := false } } := by
  simp [restoreSkimmer, out]

theorem restoreSkimmer_inService (inService : s.skimmer.mode ≠ .outOfService) :
    restoreSkimmer s = refuse .state s := by
  unfold restoreSkimmer
  split
  next out => exact absurd out inService
  next => rfl

end Restore

/-! ## The start of a sweep (R65) -/

section Start
variable {s : State} {r : SkimRequest} {rest : List SkimRequest}

theorem startSweep_of_empty (empty : s.skimmer.queue = []) : startSweep s = s := by
  simp [startSweep, empty]

/-- The skimmer sweeps the span `p` for the head request of its queue; a poll that waits is dropped. -/
theorem startSweep_of_span {p : Span} (idle : s.skimmer.mode = .idle) (head : s.skimmer.queue = r :: rest)
    (granted : s.arbiter.spanOf (.hoist r.hoist) = some p) :
    startSweep s = sendCommand .skimmer
      (.sweep (2000 + (((p.first : Int) - 1) * s.setting 1) / 12) (2000 + ((p.last : Int) * s.setting 1) / 12))
      (setStation .skimmer { s.station .skimmer with pollDue := none }
        { s with skimmer := { s.skimmer with
            mode := .sweeping, queue := rest, pollsBegun := false,
            sweep := some { hoist := some r.hoist, span := some (p.first, p.last), start := s.link.clock,
                            abort := false } } }) := by
  simp only [startSweep, idle, head, granted]
  rfl

/-- A head request whose hoist holds no span is dropped. -/
theorem startSweep_of_spanless (idle : s.skimmer.mode = .idle) (head : s.skimmer.queue = r :: rest)
    (spanless : s.arbiter.spanOf (.hoist r.hoist) = none) :
    startSweep s = { s with skimmer := { s.skimmer with queue := rest } } := by
  simp only [startSweep, idle, head, spanless]

end Start

/-! ## A skim reported to its hoist (R14, R16, R71) -/

section Answers
variable {h : Hoist} {s : State}

theorem skimDone_of_not_waiting (unasked : (s.seq h).skim ≠ .waiting) : skimDone h s = s := if_neg unasked

theorem skimDone_of_awaitSkim (waits : (s.seq h).skim = .waiting) (phase : (s.seq h).phase = .awaitSkim) :
    skimDone h s = startWithdraw h (setSeq h { s.seq h with skim := .done s.link.clock } s) := by
  rw [skimDone, if_pos waits]
  exact if_pos (by rw [modSeq, seq_setSeq]; exact phase)

theorem skimDone_before_awaitSkim (waits : (s.seq h).skim = .waiting) (phase : (s.seq h).phase ≠ .awaitSkim) :
    skimDone h s = setSeq h { s.seq h with skim := .done s.link.clock } s := by
  rw [skimDone, if_pos waits]
  exact if_neg (by rw [modSeq, seq_setSeq]; exact phase)

/-- A miss leaves the phase, so the phase that decides the withdrawal is the one before it. -/
theorem skimMissedAnswer_eq (h : Hoist) (s : State) :
    skimMissedAnswer h s =
      if (s.seq h).skim = .waiting then
        (if (s.seq h).phase = .awaitSkim then startWithdraw h (markMissed h s) else markMissed h s)
      else s := by
  simp only [skimMissedAnswer, seq_markMissed]

theorem skimMissedAnswer_before_awaitSkim (waits : (s.seq h).skim = .waiting) (phase : (s.seq h).phase ≠ .awaitSkim) :
    skimMissedAnswer h s = markMissed h s := by
  rw [skimMissedAnswer_eq, if_pos waits, if_neg phase]

end Answers

/-! ## The end of a sweep (R66, R69) -/

/-- The skimmer idle, its sweep record gone. -/
def sweepEnded (s : State) : State :=
  { s with skimmer := { s.skimmer with mode := .idle, sweep := none, pollsBegun := false } }

theorem seq_sweepEnded (h : Hoist) (s : State) : (sweepEnded s).seq h = s.seq h := seq_congr rfl rfl h

section Rest
variable {s : State} {w : Sweep}

theorem skimmerAtRest_of_not_sweeping (still : s.skimmer.mode ≠ .sweeping) : skimmerAtRest s = s := by
  unfold skimmerAtRest
  split
  next sweeping _ => exact absurd sweeping still
  next => rfl

/-- The acknowledgement of an abort, and the end of the sweep of start-up, are reported to no hoist. -/
theorem skimmerAtRest_unreported (sweeping : s.skimmer.mode = .sweeping) (record : s.skimmer.sweep = some w)
    (unreported : w.abort = true ∨ w.hoist = none) : skimmerAtRest s = startSweep (sweepEnded s) := by
  simp only [skimmerAtRest, sweeping, record]
  rcases unreported with aborted | unowned
  · rw [if_pos aborted]
    rfl
  · simp only [unowned, ite_self]
    rfl

/-- The sweep of a hoist is reported done to it. -/
theorem skimmerAtRest_reported {h : Hoist} (sweeping : s.skimmer.mode = .sweeping) (record : s.skimmer.sweep = some w)
    (whole : w.abort = false) (owner : w.hoist = some h) :
    skimmerAtRest s = startSweep (skimDone h (sweepEnded s)) := by
  simp only [skimmerAtRest, sweeping, record, whole, owner]
  rfl

end Rest

/-! ## A skimmer fault (R71) -/

/-- The skimmer out of service, its record and its queue emptied. -/
def skimmerOut (s : State) : State :=
  { s with skimmer := { mode := .outOfService, sweep := none, queue := [], outFlag := true, pollsBegun := false } }

/-- A sweep in progress is aborted. -/
def sweepAborted (s : State) : State := if s.skimmer.mode = .sweeping then sendCommand .skimmer .abort s else s

theorem seq_skimmerOut (h : Hoist) (s : State) : (skimmerOut s).seq h = s.seq h := seq_congr rfl rfl h

theorem seq_sweepAborted (h : Hoist) (s : State) : (sweepAborted s).seq h = s.seq h := by
  unfold sweepAborted
  split
  · exact seq_congr (by simp) (by simp) h
  · rfl

section Fault
variable {s : State} (code : Nat)

theorem skimmerFault_outOfService (out : s.skimmer.mode = .outOfService) : skimmerFault code s = s := by
  simp [skimmerFault, out]

theorem skimmerFault_inService (inService : s.skimmer.mode ≠ .outOfService) :
    skimmerFault code s = raise .skimmerOut (s.skimmer.sweep.bind Sweep.hoist) none (some (code : Int)) none
      (s.skimmer.cutOff.foldl (fun u h => skimMissedAnswer h u) (skimmerOut (sweepAborted s))) := by
  unfold skimmerFault
  split
  next out => exact absurd out inService
  next => rfl

/-- A fault that cuts off one hoist alone, which has not come to AWAIT_SKIM. -/
theorem skimmerFault_cutsOffOne {h : Hoist} (inService : s.skimmer.mode ≠ .outOfService)
    (one : s.skimmer.cutOff = [h]) (waits : (s.seq h).skim = .waiting) (phase : (s.seq h).phase ≠ .awaitSkim) :
    skimmerFault code s = raise .skimmerOut (s.skimmer.sweep.bind Sweep.hoist) none (some (code : Int)) none
      (markMissed h (skimmerOut (sweepAborted s))) := by
  have seq : (skimmerOut (sweepAborted s)).seq h = s.seq h := by rw [seq_skimmerOut, seq_sweepAborted]
  rw [skimmerFault_inService code inService, one, List.foldl_cons, List.foldl_nil,
    skimMissedAnswer_before_awaitSkim (by rwa [seq]) (by rwa [seq])]

/-- A fault that cuts off no hoist. -/
theorem skimmerFault_cutsOffNone (inService : s.skimmer.mode ≠ .outOfService) (nobody : s.skimmer.cutOff = []) :
    skimmerFault code s = raise .skimmerOut (s.skimmer.sweep.bind Sweep.hoist) none (some (code : Int)) none
      (skimmerOut (sweepAborted s)) := by
  rw [skimmerFault_inService code inService, nobody, List.foldl_nil]

end Fault

theorem sweepAborted_of_sweeping {s : State} (sweeping : s.skimmer.mode = .sweeping) :
    sweepAborted s = sendCommand .skimmer .abort s := if_pos sweeping

theorem sweepAborted_of_idle {s : State} (idle : s.skimmer.mode = .idle) : sweepAborted s = s :=
  if_neg (by simp [idle])

end Sys2Proof.Machine

open Sys2Proof Sys2Proof.Machine

/-- Settles O25: `startSweep` by the head request, `skimmerAtRest` by the sweep record, `skimmerFault` by the hoists it
cuts off. -/
theorem skimmerSweepsIsRestoredAndGoesOut : Obligations.SkimmerSweepsIsRestoredAndGoesOut := by
  refine ⟨fun s => ⟨fun listens => ⟨fun out => ?_, fun inService => ?_⟩, startSweep_of_ne_idle,
      fun r rest p => startSweep_of_span, startSweep_of_empty, fun r rest => startSweep_of_spanless⟩,
    fun s => ⟨skimmerAtRest_of_not_sweeping, fun w => skimmerAtRest_unreported, ?_, skimmerFault_outOfService,
      ?_, ?_, ?_⟩,
    fun s s₀ ended => ⟨?_, ?_, ?_⟩⟩
  · exact taken_of rfl listens (restoreSkimmer_outOfService out)
  · exact refused_of rfl listens (restoreSkimmer_inService inService)
  · intro w h sweeping record whole owner waits phase
    rw [skimmerAtRest_reported sweeping record whole owner,
      skimDone_before_awaitSkim (by rwa [seq_sweepEnded]) (by rwa [seq_sweepEnded]), seq_sweepEnded]
    rfl
  · intro code w sweeping record aborted empty
    rw [skimmerFault_cutsOffNone code (by simp [sweeping]) (by simp [Skimmer.cutOff, record, aborted, empty]),
      sweepAborted_of_sweeping sweeping, record]
    rfl
  · intro code w h sweeping record whole owner empty waits phase
    rw [skimmerFault_cutsOffOne code (by simp [sweeping]) (by simp [Skimmer.cutOff, record, whole, owner, empty]) waits
      phase, sweepAborted_of_sweeping sweeping, record, Option.bind_some, owner]
    rfl
  · intro code r idle unswept queue waits phase
    rw [skimmerFault_cutsOffOne code (by simp [idle]) (by simp [Skimmer.cutOff, unswept, queue]) waits phase,
      sweepAborted_of_idle idle, unswept]
    rfl
  · obtain rfl : s₀ = sweepEnded s := ended
    intro w h sweeping record whole owner
    have reported := skimmerAtRest_reported sweeping record whole owner
    refine ⟨fun waits phase => ?_, fun unasked => ?_⟩
    · rw [reported, skimDone_of_awaitSkim (by rwa [seq_sweepEnded]) (by rwa [seq_sweepEnded]), seq_sweepEnded]
      rfl
    · rw [reported, skimDone_of_not_waiting (by rwa [seq_sweepEnded])]
  · rintro code s₁ swept inService rfl rfl
    simp only [skimmerFault_inService code inService, skimMissedAnswer_eq]
    rfl
  · intro code idle unswept empty
    rw [skimmerFault_cutsOffNone code (by simp [idle]) (by simp [Skimmer.cutOff, unswept, empty]),
      sweepAborted_of_idle idle, unswept]
    rfl

end

section
/-! PROOFS. The depth of the zinc, its mass and the level warning (R79, R83, R84, R141). -/

namespace Sys2Proof.Machine

/-! ## The estimated depth (R83) -/

theorem mul_ceilDiv_bounds {b : Int} (hb : 0 < b) (a : Int) : a ≤ ceilDiv a b * b ∧ (ceilDiv a b - 1) * b < a := by
  have below := Int.ediv_mul_le (-a) hb.ne'
  have above := Int.lt_ediv_add_one_mul_self (-a) hb
  unfold ceilDiv
  constructor <;> nlinarith

theorem estimatedDepth_bounds {q : QuietReading} (area : 0 < q.length * q.width * q.density) (book : Int) :
    (q.depth - estimatedDepth q book) * (q.length * q.width * q.density) ≥ (q.book - book) * 100000000 ∧
      (q.depth - estimatedDepth q book - 1) * (q.length * q.width * q.density) < (q.book - book) * 100000000 := by
  rw [estimatedDepth, Int.sub_sub_self]
  exact mul_ceilDiv_bounds area _

/-! ## The level warning (R84) -/

/-- The comparison moves the arming of the warning alone; the depth stands. -/
@[simp] theorem compareLevel_hEst (s : State) : (compareLevel s).bath.hEst = s.bath.hEst := by
  unfold compareLevel
  (repeat' split) <;> simp

theorem refreshDepth_hEst (s : State) :
    (refreshDepth s).bath.hEst = s.bath.reading.map (fun q => estimatedDepth q s.balance.book) :=
  compareLevel_hEst _

theorem compareLevel_unknown {s : State} (unknown : s.bath.hEst = none) : compareLevel s = s := by
  simp only [compareLevel, unknown]

section Level
variable {s : State} {d : Int} (depth : s.bath.hEst = some d)
include depth

theorem compareLevel_low (armed : s.bath.levelArmed = true) (low : d < s.setting 22) :
    compareLevel s = raise .levelLow none none (some d) (some (s.setting 22))
      { s with bath := { s.bath with levelArmed := false } } := by
  simp only [compareLevel, depth, if_pos armed]
  exact if_pos low

theorem compareLevel_armed (armed : s.bath.levelArmed = true) (high : s.setting 22 ≤ d) : compareLevel s = s := by
  simp only [compareLevel, depth, if_pos armed]
  exact if_neg high.not_gt

theorem compareLevel_rearmed (spent : s.bath.levelArmed = false) (high : s.setting 22 + 20 ≤ d) :
    compareLevel s = { s with bath := { s.bath with levelArmed := true } } := by
  simp only [compareLevel, depth, spent, Bool.false_eq_true, if_false]
  exact if_pos high

theorem compareLevel_spent (spent : s.bath.levelArmed = false) (low : d < s.setting 22 + 20) : compareLevel s = s := by
  simp only [compareLevel, depth, spent, Bool.false_eq_true, if_false]
  exact if_neg low.not_ge

end Level

/-! ## Density and mass (R79, R141) -/

theorem density_bounds (t : Int) :
    100 * (6570 - density t) ≤ (t - 4500) * 11 + 50 ∧ (t - 4500) * 11 + 50 < 100 * (6570 - density t + 1) := by
  unfold density floorDiv
  omega

theorem measuredMass_bounds (q : QuietReading) :
    measuredMass q * 100000000 ≤ q.length * q.width * q.depth * q.density + 50000000 ∧
      q.length * q.width * q.depth * q.density + 50000000 < (measuredMass q + 1) * 100000000 := by
  unfold measuredMass floorDiv
  omega

end Sys2Proof.Machine

open Sys2Proof Sys2Proof.Machine

/-- Settles O42: the quotients by their floors and ceilings, and the comparison by the arming and the depth. -/
theorem depthMassAndLevelWarning : Obligations.DepthMassAndLevelWarning := by
  refine ⟨fun s unread => ?_, fun s q read => ⟨estimatedDepth q s.balance.book, ?_, fun area => ?_⟩, fun s => ?_,
    fun s d depth => ⟨compareLevel_low depth, compareLevel_armed depth, compareLevel_rearmed depth,
      compareLevel_spent depth⟩,
    fun s => compareLevel_unknown, by decide, density_bounds, measuredMass_bounds, fun q area depth density => ?_⟩
  · rw [refreshDepth_hEst, unread, Option.map_none]
  · rw [refreshDepth_hEst, read, Option.map_some]
  · exact estimatedDepth_bounds area _
  · rw [refreshDepth_hEst]
    rfl
  · rw [measuredMass, area, depth, density]
    decide

end

section
/-! PROOFS. WRITE_SETTING by its checks (R84, R159, R191). -/

namespace Sys2Proof.Machine

theorem writeSetting_unknown {id : Nat} (h : id = 0 ∨ 37 < id) (v : Int) (s : State) :
    writeSetting id v s = refuse .range s := by
  rw [writeSetting, if_pos]
  rw [← Bool.not_eq_true, settingOk_iff]
  omega

theorem isCalibration_iff (id : Nat) : isCalibration id = true ↔ 1 ≤ id ∧ id ≤ 8 := by simp [isCalibration]

theorem writeSetting_locked {id : Nat} {s : State} (h1 : 1 ≤ id) (h8 : id ≤ 8) (locked : s.settings.lock = true)
    (v : Int) : writeSetting id v s = refuse .locked s := by
  have known : settingOk id = true := (settingOk_iff id).2 ⟨h1, by omega⟩
  have calibration := (isCalibration_iff id).2 ⟨h1, h8⟩
  simp [writeSetting, known, calibration, locked]

theorem writeSetting_window (v : Int) (s : State) :
    writeSetting 25 v s =
      if v ∈ ([8, 16, 32] : List Int) then takenWith (.setting v) (putSetting 25 v s) else refuse .ignored s := by
  simp [writeSetting, settingOk, isCalibration, windowSizes]

theorem valueOk_iff (s : State) (id : Nat) (v : Int) :
    s.valueOk id v = true ↔
      (s.settingRange id).1 ≤ v ∧ v ≤ (s.settingRange id).2 ∧ (id = 1 → 2000 + v ≤ s.setting 12) := by
  simp only [State.valueOk, inRange, Bool.and_eq_true, Bool.or_eq_true, decide_eq_true_eq, and_assoc, imp_iff_not_or,
    ne_eq]
  rfl

/-- Past the lock a setting other than the window size takes a value of its range, and no other (R191). -/
theorem writeSetting_checked {id : Nat} {s : State} (h1 : 1 ≤ id) (h37 : id ≤ 37) (h25 : id ≠ 25)
    (free : 8 < id ∨ s.settings.lock = false) (v : Int) :
    writeSetting id v s =
      if s.valueOk id v = false then refuse .range s
      else
        takenWith (.setting (storedValue id v))
          (if id = 22 then compareLevel (putSetting id (storedValue id v) s)
            else putSetting id (storedValue id v) s) := by
  have known : settingOk id = true := (settingOk_iff id).2 ⟨h1, h37⟩
  have unlocked : (isCalibration id && s.settings.lock) = false := by
    rw [Bool.and_eq_false_iff, ← Bool.not_eq_true, isCalibration_iff]
    exact free.imp_left (by omega)
  simp [writeSetting, known, unlocked, h25]

end Sys2Proof.Machine

open Sys2Proof Sys2Proof.Machine

/-- Settles O15: WRITE_SETTING by its checks in their order, the masks and the level warning apart. -/
theorem writeSettingByItsTable : Obligations.WriteSettingByItsTable := by
  intro id v s listens
  refine ⟨fun unknown => ?_, fun h1 h8 locked => ?_, ?_, ?_, fun h1 h37 h25 free bad => ?_,
    fun h1 h37 h25 free low high kettle => ?_⟩
  · exact refused_of rfl listens (writeSetting_unknown unknown v s)
  · exact refused_of rfl listens (writeSetting_locked h1 h8 locked v)
  · rintro rfl bad
    exact refused_of rfl listens (by rw [writeSetting_window, if_neg bad])
  · rintro rfl good
    exact takenWith_of rfl listens (by rw [writeSetting_window, if_pos good]; rfl)
  · have outside : s.valueOk id v = false := by
      rw [← Bool.not_eq_true, valueOk_iff]
      omega
    exact refused_of rfl listens (by rw [writeSetting_checked h1 h37 h25 free, if_pos outside])
  · have inside : ¬ s.valueOk id v = false := by
      rw [Bool.not_eq_false, valueOk_iff]
      exact ⟨low, high, kettle⟩
    have stored := writeSetting_checked h1 h37 h25 free v
    rw [if_neg inside] at stored
    refine ⟨fun h22 h30 h31 => ?_, fun mask => ⟨_, rfl, ?_⟩, ?_⟩
    · refine takenWith_of rfl listens ?_
      rw [stored, if_neg h22, storedValue, if_neg (by omega)]
      rfl
    · refine takenWith_of rfl listens ?_
      rw [stored, if_neg (by omega), storedValue, if_pos mask]
      rfl
    · rintro rfl
      exact takenWith_of rfl listens stored

end

section
/-! PROOFS. Trials of the waiting loads, the expiry of a window entry, the quiet kettle and the end of a wait for it
(R80, R81, R85, R87, R89, R144). -/

namespace Sys2Proof.Machine

/-! ## Trials (R85, R89) -/

/-- The gate does not try a hoist that does not wait. -/
theorem trial_of_not_waiting {h : Hoist} {s : State} (idle : (s.seq h).phase ≠ .awaitAdmit) : trial h s = s :=
  if_neg idle

/-- A trial leaves the phase of the other hoist. -/
theorem trial_phase_of_ne {h k : Hoist} (apart : k ≠ h) (s : State) :
    ((trial h s).seq k).phase = (s.seq k).phase := by
  by_cases waits : (s.seq h).phase = .awaitAdmit
  · obtain ⟨x, -, -, turned⟩ := trial_turns (settled_of_phase (s := s) (h := h) (by simp [waits]))
    have stage := congrArg (fun v : SpanView => v.stage k) turned
    rw [SpanView.put_stage_of_ne _ apart] at stage
    exact congrArg HoistStage.phase stage
  · rw [trial_of_not_waiting waits]

theorem tryWaiting_of_not_both {s : State} (alone : ¬ (s.seqA.phase = .awaitAdmit ∧ s.seqB.phase = .awaitAdmit)) :
    tryWaiting s = trial .B (trial .A s) :=
  if_neg alone

/-- Where hoist B does not wait, A alone is tried. -/
theorem tryWaiting_of_not_B {s : State} (idle : s.seqB.phase ≠ .awaitAdmit) : tryWaiting s = trial .A s := by
  have idle' : ((trial .A s).seq .B).phase ≠ .awaitAdmit := by rwa [trial_phase_of_ne (by decide)]
  rw [tryWaiting_of_not_both (fun both => idle both.2), trial_of_not_waiting idle']

theorem tryWaiting_of_not_A {s : State} (idle : s.seqA.phase ≠ .awaitAdmit) : tryWaiting s = trial .B s := by
  rw [tryWaiting_of_not_both (fun both => idle both.1), trial_of_not_waiting (h := .A) idle]

theorem tryWaiting_of_both {s : State} (waitsA : s.seqA.phase = .awaitAdmit) (waitsB : s.seqB.phase = .awaitAdmit) :
    tryWaiting s = trial .B (trial .A { s with free := s.free + 1 }) ∨
      tryWaiting s = trial .A (trial .B { s with free := s.free + 1 }) := by
  rw [tryWaiting, if_pos ⟨waitsA, waitsB⟩]
  exact ite_eq_or_eq ..

/-! ## Expiry (R87) -/

theorem expiryDue_cons {e : WindowEntry} {rest : List WindowEntry} {s : State} (window : s.window = e :: rest) :
    expiryDue s = decide (3600 ≤ e.age) := by
  simp only [expiryDue, window]

theorem expireEntry_cons {e : WindowEntry} {rest : List WindowEntry} {s : State} (window : s.window = e :: rest) :
    expireEntry s = tryWaiting { s with window := rest } := by
  simp only [expireEntry, window, List.tail_cons]

/-! ## The quiet kettle (R80, R81) -/

/-- A poll that already waits keeps its due time (R160). -/
theorem pollFallsDue_eq (st : Station) (s : State) :
    pollFallsDue st s = modStation st (fun x => { x with pollDue := some (x.pollDue.getD s.field.instant) }) s := by
  unfold pollFallsDue
  congr 1
  funext x
  cases x.pollDue <;> rfl

/-- The kettle is QUIET, and the first poll of LEVEL is due, unless one already waits. -/
theorem fallQuiet_eq (s : State) :
    fallQuiet s =
      { s with
        bath := { s.bath with quiet := true }
        field := { s.field with
          levelSecs := 0
          level := { s.field.level with pollDue := some (s.field.level.pollDue.getD s.field.instant) } } } := by
  rw [fallQuiet, pollFallsDue_eq]
  rfl

/-! ## The end of a wait (R144, R146) -/

/-- A reconciliation ends without a comparison: its result has no figures, and one notice says so. -/
theorem endRecon_of_pending {p : PendingRecon} {s : State} (pending : s.balance.pending = some p) (o : ReconOutcome) :
    endRecon o s =
      raise .reconciled none none (some (match o with | .done => 0 | .notQuiet => 1 | .abandoned => 2)) none
        { s with balance := { s.balance with
          pending := none
          last := some { outcome := o, requested := p.requested, ended := s.link.clock, rebase := p.rebase, book := none,
                         mass := none, residual := none, adjustment := none } } } := by
  simp only [endRecon, pending]
  rfl

end Sys2Proof.Machine

open Sys2Proof Sys2Proof.Machine

/-- Settles O41: each event by whether it is due, and the trials by which hoists wait. -/
theorem windowExpiryQuietKettleAndReconcileTimeout : Obligations.WindowExpiryQuietKettleAndReconcileTimeout := by
  refine ⟨⟨fun e rest s active window => ⟨fun young => ?_, fun old => ?_⟩,
      fun s => ⟨fun idleA idleB => ?_, fun _ idleB => tryWaiting_of_not_B idleB,
        fun idleA _ => tryWaiting_of_not_A idleA, tryWaiting_of_both⟩⟩,
    fun s active => ⟨fun still loud settled => ?_, fun restless => ?_,
      fun p pending => ⟨fun early => ?_, fun late => ?_⟩, fun none => ?_⟩⟩
  · rw [exec_eventOf rfl active, expiryDue_cons window, if_neg (by simpa using young)]
  · rw [exec_eventOf rfl active, expiryDue_cons window, if_pos (by simpa using old), expireEntry_cons window]
  · rw [tryWaiting_of_not_B idleB, trial_of_not_waiting (h := .A) idleA]
  · rw [exec_eventOf rfl active, if_pos ((quietDue_iff s).2 ⟨still, loud, settled⟩), fallQuiet_eq]
  · rw [exec_eventOf rfl active, if_neg]
    rw [quietDue_iff]
    rintro ⟨still, -, settled⟩
    rcases restless with disturbed | unsettled
    · simp [still] at disturbed
    · omega
  · rw [exec_eventOf rfl active, if_neg (by simpa [reconcileDue_iff, pending] using early)]
  · rw [exec_eventOf rfl active, if_pos ((reconcileDue_iff s).2 ⟨p, pending, late⟩), endRecon_of_pending pending]
  · rw [exec_eventOf rfl active, if_neg (by simp [reconcileDue_iff, none])]

end

section
/-! PROOFS. Zinc into and out of the book (R138, R139, R140, R152). -/

namespace Sys2Proof.Machine

/-! ## Totals and their notice (R152) -/

theorem satAdd_eq_min (limit x y : Nat) : satAdd limit x y = min (x + y) limit := by
  unfold satAdd
  split <;> omega

theorem bookDown_eq_max (book : Int) (w : Nat) : bookDown book w = max (book - w) (-2000000000) := by
  unfold bookDown bookLow
  split <;> omega

theorem noteSaturation_eq (kind number : Nat) (before after : Bool) (s : State) :
    noteSaturation kind number before after s = saturated kind number before after s := by
  have noted : (after && !before && s.saturationNotice) = true ↔ s.setting 37 = 1 ∧ after = true ∧ before = false := by
    simp only [State.saturationNotice, Bool.and_eq_true, Bool.not_eq_true', decide_eq_true_eq]
    tauto
  simp only [noteSaturation, noted]
  rfl

theorem changeBalance_eq (f : Balance → Balance) (s : State) :
    changeBalance f s =
      saturated 3 (f s.balance).current.number s.balance.current.overflow (f s.balance).current.overflow
        { s with balance := f s.balance } :=
  noteSaturation_eq ..

/-! ## The requests (R139, R140) -/

theorem drawOk_iff (w : Nat) : drawOk w = true ↔ 1 ≤ w ∧ w ≤ 1000000 := by simp [drawOk]

theorem drawOk_false_iff (w : Nat) : drawOk w = false ↔ w = 0 ∨ 1000000 < w := by
  rw [← Bool.not_eq_true, drawOk_iff]
  omega

/-- A draw outside its range is refused, whatever the book. -/
theorem draw_range {w : Nat} (h : w = 0 ∨ 1000000 < w) (s : State) :
    chargeZinc w s = refuse .range s ∧ reportDross w s = refuse .range s ∧ reportAsh w s = refuse .range s := by
  have bad := (drawOk_false_iff w).2 h
  exact ⟨if_pos (.inl bad), if_pos bad, if_pos bad⟩

/-- The trials and the end of the event leave the book, so the reply carries the book as changed. -/
theorem bookChange_eq (f : Balance → Balance) (s : State) :
    bookChange f s =
      takenWith (.book (f s.balance).book)
        (endEvent (withTrials s (refreshDepth
          (saturated 3 (f s.balance).current.number s.balance.current.overflow (f s.balance).current.overflow
            { s with balance := f s.balance })))) := by
  have book : (withDepthTrials (fun s => refreshDepth (changeBalance f s)) s).balance = f s.balance := by
    unfold withDepthTrials
    split <;> simp [changeBalance]
  simp only [bookChange, endEvent_frame, book]
  rw [withDepthTrials_eq, changeBalance_eq]

/-- A draw of its range is taken, and the book and the open period change as `f` says. -/
theorem draw_taken {c : Instr} {k w : Nat} {owner : Nat → State → State × Answer} {f : Balance → Balance} {s : State}
    (hx : exec c s = .next (request k 0 (owner w) s)) (listens : s.listening = true)
    (draws : owner w s = bookChange f s) {b : Int} {p : Period}
    (changed : f s.balance = { s.balance with book := b, current := p }) (number : p.number = s.balance.current.number) :
    Taken c k (.book b) s
      (endEvent (withTrials s (refreshDepth (saturated 3 s.balance.current.number s.balance.current.overflow p.overflow
        { s with balance := { s.balance with book := b, current := p } })))) := by
  refine takenWith_of hx listens ?_
  rw [draws, bookChange_eq, changed, number]

end Sys2Proof.Machine

open Sys2Proof Sys2Proof.Machine

/-- Settles O44: each draw by its range, and one change of the book with its open period for the three of them. -/
theorem zincInAndOutOfTheBook : Obligations.ZincInAndOutOfTheBook := by
  rintro w s p rfl listens
  refine ⟨fun bad => ?_, fun high => refused_of rfl listens (if_pos (.inr high)), fun h1 h2 room => ?_, fun h1 h2 => ?_⟩
  · obtain ⟨charge, dross, ash⟩ := draw_range bad s
    exact ⟨refused_of rfl listens charge, refused_of rfl listens dross, refused_of rfl listens ash⟩
  all_goals have good : ¬ drawOk w = false := by rw [drawOk_false_iff]; omega
  · rintro spill rfl
    refine draw_taken rfl listens (if_neg (not_or.2 ⟨good, by unfold bookHigh; omega⟩)) ?_ rfl
    simp only [Balance.charge, satAdd_eq_min]
    rfl
  · refine ⟨?_, ?_⟩ <;> rintro spill rfl <;> refine draw_taken rfl listens (if_neg good) ?_ rfl
    · simp only [Balance.takeDross, satAdd_eq_min, bookDown_eq_max]
      rfl
    · simp only [Balance.takeAsh, satAdd_eq_min, bookDown_eq_max]
      rfl

end

section
/-! PROOFS. The answers of THERMO and LEVEL (R76, R77, R78, R81, R82, R143, R146, R152). -/

namespace Sys2Proof.Machine

/-! ## Temperature (R76, R77, R78) -/

theorem judgeChannel_valid (c : Channel) :
    (judgeChannel c).valid = true ↔ c.code = 0 ∧ 3000 ≤ c.reading ∧ c.reading ≤ 6000 := by
  simp [judgeChannel, inRange]

section Thermo
variable {cs : List ChannelView} {s : State}

theorem bathTemperature_few (few : (validReadings cs).length < 2) : bathTemperature cs = none :=
  if_neg few.not_ge

theorem bathTemperature_mean (enough : 2 ≤ (validReadings cs).length) :
    bathTemperature cs =
      some (((validReadings cs).sum + (((validReadings cs).length / 2 : Nat) : Int)) /
        ((validReadings cs).length : Int)) :=
  if_pos enough

theorem noteUnknown_unknown (unknown : bathTemperature cs = none) (before : Bath) :
    noteUnknown cs before s =
      if before.temp ≠ none ∨ before.polled = false then
        raise .tempUnknown none none (some ((validReadings cs).length : Int)) none s
      else s := by
  simp [noteUnknown, unknown, Option.isSome_iff_ne_none]

theorem compareTrip_unknown (unknown : s.bath.temp = none) : compareTrip s = s := by
  simp only [compareTrip, unknown]

/-- With the temperature UNKNOWN nothing is compared; the notice is raised where it was KNOWN, or at the first poll. -/
theorem thermoEnd_unknown (unknown : bathTemperature cs = none) :
    thermoEnd cs s = tryWaiting
      (if s.bath.temp ≠ none ∨ s.bath.polled = false then
        raise .tempUnknown none none (some ((validReadings cs).length : Int)) none
          { s with bath := { s.bath with channels := cs, temp := none, polled := true } }
      else { s with bath := { s.bath with channels := cs, temp := none, polled := true } }) := by
  simp only [thermoEnd, noteUnknown_unknown unknown]
  rw [unknown, compareTrip_unknown]
  split <;> rfl

/-- With the temperature KNOWN it is compared with the trip temperature. -/
theorem thermoEnd_known {t : Int} (known : bathTemperature cs = some t) :
    thermoEnd cs s =
      tryWaiting (compareTrip { s with bath := { s.bath with channels := cs, temp := some t, polled := true } }) := by
  simp [thermoEnd, noteUnknown, known]

end Thermo

section Trip
variable {s : State} {t : Int} (known : s.bath.temp = some t)
include known

theorem compareTrip_trips (armed : s.bath.overArmed = true) (hot : s.setting 21 ≤ t) :
    compareTrip s = raise .overTemperature none none (some t) (some (s.setting 21))
      { s with bath := { s.bath with overArmed := false } } := by
  simp only [compareTrip, known, if_pos armed]
  exact if_pos hot

theorem compareTrip_rearmed (spent : s.bath.overArmed = false) (cool : t < s.setting 21 - 50) :
    compareTrip s = { s with bath := { s.bath with overArmed := true } } := by
  simp only [compareTrip, known, spent, Bool.false_eq_true, if_false]
  exact if_pos cool

theorem compareTrip_stands
    (between : (s.bath.overArmed = true ∧ t < s.setting 21) ∨ (s.bath.overArmed = false ∧ s.setting 21 - 50 ≤ t)) :
    compareTrip s = s := by
  simp only [compareTrip, known]
  rcases between with ⟨armed, cool⟩ | ⟨spent, hot⟩
  · rw [if_pos armed]
    exact if_neg cool.not_ge
  · rw [spent, if_neg Bool.false_ne_true]
    exact if_neg hot.not_gt

end Trip

/-! ## Level (R81, R82) -/

/-- The answer is a valid level reading of a quiet kettle at the temperature `t` (R81). -/
structure LevelValid (s : State) (d t : Int) : Prop where
  quiet : s.bath.quiet = true
  temp : s.bath.temp = some t
  low : 4000 ≤ t
  high : t ≤ 5500
  above : 0 < s.setting 4 - d
  within : s.setting 4 - d ≤ s.setting 3

theorem levelAnswer_valid {d t : Int} {s : State} (valid : LevelValid s d t) :
    levelAnswer d s = takeReading (s.setting 4 - d) t s := by
  obtain ⟨quiet, temp, low, high, above, within⟩ := valid
  simp only [levelAnswer, temp]
  exact if_pos ⟨quiet, above, within, by simp [inRange, low, high]⟩

/-- Any other answer changes nothing. -/
theorem levelAnswer_invalid {d : Int} {s : State} (invalid : ∀ t, ¬ LevelValid s d t) : levelAnswer d s = s := by
  unfold levelAnswer
  split
  next t temp =>
    refine if_neg fun ⟨quiet, above, within, range⟩ => invalid t ?_
    simp only [inRange, Bool.and_eq_true, decide_eq_true_eq] at range
    exact ⟨quiet, temp, range.1, range.2, above, within⟩
  next => rfl

/-- The quiet reading of a level `depth` at the temperature `t`, with the book as it stands (R79, R82). -/
def State.quietReading (s : State) (depth t : Int) : QuietReading :=
  { depth := depth, temp := t, density := 6570 - ((t - 4500) * 11 + 50) / 100, length := s.setting 1,
    width := s.setting 2, book := s.balance.book, time := s.link.clock }

/-- B_q is the book that a reconciliation leaves; nothing else of the bath changes before the depth is refreshed. -/
theorem takeReading_of_completed {depth t b : Int} {s s' : State}
    (completed : completeRecon (s.quietReading depth t) s = s') (left : s'.balance.book = b) :
    takeReading depth t s =
      refreshDepth { s' with bath := { s.bath with reading := some { s.quietReading depth t with book := b } } } := by
  have bath : s'.bath = s.bath := by simp [← completed]
  rw [← bath, ← left, ← completed]
  rfl

/-! ## Reconciliation (R143, R146) -/

theorem satAdjust_eq (x : Int) : satAdjust x = max (-2147483648) (min 2147483647 x) := by
  unfold satAdjust clamp adjustLow adjustHigh
  (repeat' split) <;> omega

/-- The notice of a saturation is raised beside the books. -/
@[simp] theorem saturated_balance (kind number : Nat) (before after : Bool) (s : State) :
    (saturated kind number before after s).balance = s.balance := by
  simp [← noteSaturation_eq]

theorem saturated_withBalance (kind number : Nat) (before after : Bool) (b : Balance) (s : State) :
    { saturated kind number before after s with balance := b } =
      saturated kind number before after { s with balance := b } :=
  apply_ite (fun t : State => { t with balance := b }) ..

theorem rebase_overflow (b : Balance) (mass : Int) :
    (b.rebase mass).current.overflow =
      (b.current.overflow || decide (b.current.adjustment + (mass - b.book) < -2147483648 ∨
        2147483647 < b.current.adjustment + (mass - b.book))) := by
  have outside (x : Int) : (!inRange adjustLow adjustHigh x) = decide (x < -2147483648 ∨ 2147483647 < x) := by
    rw [Bool.eq_iff_iff]
    simp only [inRange, Bool.not_eq_true', Bool.and_eq_false_iff, decide_eq_false_iff_not, decide_eq_true_eq]
    unfold adjustLow adjustHigh
    omega
  rw [← outside]
  rfl

theorem completeRecon_of_none {s : State} (none : s.balance.pending = none) (q : QuietReading) :
    completeRecon q s = s := by
  simp only [completeRecon, none]

section Pending
variable {s : State} {p : PendingRecon} (pending : s.balance.pending = some p)
include pending

/-- Without a rebase the book stands, and the residual is reported. -/
theorem completeRecon_compared (compared : p.rebase = false) (q : QuietReading) :
    completeRecon q s =
      raise .reconciled none none (some 0) (some (s.balance.book - measuredMass q))
        { s with balance := { s.balance with
          pending := none
          last := some { outcome := .done, requested := p.requested, ended := s.link.clock, rebase := false,
                         book := some s.balance.book, mass := some (measuredMass q),
                         residual := some (s.balance.book - measuredMass q), adjustment := none } } } := by
  simp only [completeRecon, pending, compared, Bool.false_eq_true, if_false]
  rfl

/-- A rebase sets the book to the measured mass and enters the adjustment, which saturates (R143, R152). -/
theorem completeRecon_rebased (rebased : p.rebase = true) (q : QuietReading) {adjusted : Int}
    (sum : adjusted = s.balance.current.adjustment + (measuredMass q - s.balance.book)) {spill : Bool}
    (spills : spill =
      (s.balance.current.overflow || decide (adjusted < -2147483648 ∨ 2147483647 < adjusted))) :
    completeRecon q s =
      raise .reconciled none none (some 0) (some (s.balance.book - measuredMass q))
        (saturated 3 s.balance.current.number s.balance.current.overflow spill
          { s with balance := { s.balance with
            book := measuredMass q
            current := { s.balance.current with
              adjustment := max (-2147483648) (min 2147483647 adjusted), overflow := spill }
            pending := none
            last := some { outcome := .done, requested := p.requested, ended := s.link.clock, rebase := true,
                           book := some s.balance.book, mass := some (measuredMass q),
                           residual := some (s.balance.book - measuredMass q),
                           adjustment := some (measuredMass q - s.balance.book) } } }) := by
  subst sum spills
  rw [← rebase_overflow, ← satAdjust_eq]
  simp only [completeRecon, pending, rebased, if_true, changeBalance_eq, saturated_balance, saturated_withBalance]
  rfl

end Pending

end Sys2Proof.Machine

open Sys2Proof Sys2Proof.Machine

/-- Settles O52: the poll by how many channels are valid and by the trip, the level answer by its validity and by the
reconciliation that waits for it. -/
theorem thermoAndLevelAnswers : Obligations.ThermoAndLevelAnswers := by
  refine ⟨⟨fun c => ⟨rfl, judgeChannel_valid c⟩, ?_⟩, fun d s => ⟨fun skipped => ?_, fun t temp discarded => ?_, ?_⟩⟩
  · rintro cs s rs n rfl rfl
    refine ⟨fun few => ?_, fun t enough mean => ?_⟩
    · have ends := thermoEnd_unknown (s := s) (bathTemperature_few few)
      refine ⟨fun noted => ?_, fun unknown polled => ?_⟩
      · rw [ends, if_pos noted]
        rfl
      · rw [ends, if_neg (by simp [unknown, polled])]
    · have ends := thermoEnd_known (s := s) ((bathTemperature_mean enough).trans (congrArg some mean.symm))
      refine ⟨fun armed hot => ?_, fun spent cool => ?_, fun between => ?_⟩ <;> rw [ends]
      · exact congrArg tryWaiting (compareTrip_trips rfl armed hot)
      · exact congrArg tryWaiting (compareTrip_rearmed rfl spent cool)
      · exact congrArg tryWaiting (compareTrip_stands rfl between)
  · refine levelAnswer_invalid fun t valid => ?_
    obtain ⟨quiet, temp, -, -, above, within⟩ := valid
    rcases skipped with loud | unknown | low | high
    · simp [loud] at quiet
    · simp [unknown] at temp
    · omega
    · omega
  · refine levelAnswer_invalid fun t' valid => ?_
    obtain rfl : t' = t := by simpa [temp] using valid.temp.symm
    have low := valid.low
    have high := valid.high
    omega
  · rintro t q quiet temp low high above within rfl
    have answers := levelAnswer_valid (s := s) (d := d) ⟨quiet, temp, low, high, above, within⟩
    refine ⟨fun none => ?_, fun p pending compared => ⟨_, ?_, rfl⟩, ?_⟩
    · rw [answers, takeReading_of_completed (completeRecon_of_none none _) rfl]
      rfl
    · rw [answers, takeReading_of_completed (completeRecon_compared pending compared _) rfl]
      rfl
    · rintro p mass adjusted spill pending rebased rfl sum spills
      refine ⟨_, ?_, rfl⟩
      rw [answers, takeReading_of_completed (completeRecon_rebased pending rebased _ sum spills) (by simp; rfl)]
      rfl

end

section
/-! PROOFS. The admission trial: its causes, the notices of a failed one, and the admission (R11, R12, R40 to R43, R86
to R89). -/

namespace Sys2Proof.Machine

/-! ## The causes of a failed trial (R86, R88) -/

theorem admissionWeight_eq (s : State) (r : LoadRec) :
    s.admissionWeight r = (r.wIn.or r.declared).getD (s.setting 24).toNat := by
  unfold State.admissionWeight
  cases r.wIn <;> rfl

theorem throughputOk_false_iff (s : State) (w : Nat) :
    s.throughputOk w = false ↔
      s.window ≠ [] ∧ (64 ≤ s.window.length ∨ (s.setting 23).toNat < (s.window.map WindowEntry.weight).sum + w) := by
  have room : s.throughputOk w = true ↔
      s.window = [] ∨ s.window.length < 64 ∧ (s.window.map WindowEntry.weight).sum + w ≤ (s.setting 23).toNat := by
    simp only [State.throughputOk, Bool.or_eq_true, List.isEmpty_iff, Bool.and_eq_true, decide_eq_true_eq]
    rfl
  rw [← Bool.not_eq_true, room, not_or, not_and_or, not_lt, not_le]

/-- The causes that the temperature brings. -/
def State.temperatureCauses (s : State) : List AdmitCause :=
  match s.bath.temp with
  | none => [.temperatureUnknown]
  | some t => (if t < s.thetaMin then [.tooCold] else []) ++ (if s.thetaTrip ≤ t then [.tooHot] else [])

/-- The cause that the depth brings. -/
def State.depthCauses (s : State) (h : Hoist) (r : LoadRec) : List AdmitCause :=
  match s.bath.hEst with
  | none => [.depthUnknown]
  | some d => if r.height + ((s.seq h).pImm.getD 0 - r.hang) + 50 ≤ d then [] else [.notCovered]

theorem failedCauses_eq (s : State) (h : Hoist) (r : LoadRec) :
    s.failedCauses h r = s.temperatureCauses ++ s.depthCauses h r ++
      (if s.throughputOk (s.admissionWeight r) then [] else [.throughput]) := rfl

theorem temperatureCauses_of_none {s : State} (unknown : s.bath.temp = none) :
    s.temperatureCauses = [.temperatureUnknown] := by
  simp only [State.temperatureCauses, unknown]

theorem temperatureCauses_of_some {s : State} {t : Int} (known : s.bath.temp = some t) :
    s.temperatureCauses =
      (if t < s.setting 20 then [.tooCold] else []) ++ (if s.setting 21 ≤ t then [.tooHot] else []) := by
  simp only [State.temperatureCauses, known]
  rfl

theorem depthCauses_of_none {s : State} (unknown : s.bath.hEst = none) (h : Hoist) (r : LoadRec) :
    s.depthCauses h r = [.depthUnknown] := by
  simp only [State.depthCauses, unknown]

theorem depthCauses_of_some {s : State} {d : Int} (known : s.bath.hEst = some d) (h : Hoist) (r : LoadRec) :
    s.depthCauses h r = if r.height + ((s.seq h).pImm.getD 0 - r.hang) + 50 ≤ d then [] else [.notCovered] := by
  simp only [State.depthCauses, known]

theorem mem_temperatureCauses (s : State) (c : AdmitCause) :
    c ∈ s.temperatureCauses ↔
      (c = .temperatureUnknown ∧ s.bath.temp = none) ∨ (c = .tooCold ∧ ∃ t, s.bath.temp = some t ∧ t < s.setting 20) ∨
        (c = .tooHot ∧ ∃ t, s.bath.temp = some t ∧ s.setting 21 ≤ t) := by
  cases temp : s.bath.temp with
  | none => simp [temperatureCauses_of_none temp]
  | some t =>
    rw [temperatureCauses_of_some temp]
    split <;> split <;> simp [*]

theorem mem_depthCauses (s : State) (h : Hoist) (r : LoadRec) (c : AdmitCause) :
    c ∈ s.depthCauses h r ↔
      (c = .depthUnknown ∧ s.bath.hEst = none) ∨
        (c = .notCovered ∧ ∃ d, s.bath.hEst = some d ∧ d < r.height + ((s.seq h).pImm.getD 0 - r.hang) + 50) := by
  cases depth : s.bath.hEst with
  | none => simp [depthCauses_of_none depth]
  | some d =>
    rw [depthCauses_of_some depth]
    split <;> simp <;> omega

/-- Which causes fail (R86). -/
theorem mem_failedCauses (s : State) (h : Hoist) (r : LoadRec) (c : AdmitCause) :
    c ∈ s.failedCauses h r ↔
      ((c = .temperatureUnknown ∧ s.bath.temp = none) ∨
        (c = .tooCold ∧ ∃ t, s.bath.temp = some t ∧ t < s.setting 20) ∨
        (c = .tooHot ∧ ∃ t, s.bath.temp = some t ∧ s.setting 21 ≤ t)) ∨
      ((c = .depthUnknown ∧ s.bath.hEst = none) ∨
        (c = .notCovered ∧ ∃ d, s.bath.hEst = some d ∧ d < r.height + ((s.seq h).pImm.getD 0 - r.hang) + 50)) ∨
      (c = .throughput ∧ s.throughputOk (s.admissionWeight r) = false) := by
  rw [failedCauses_eq, List.mem_append, List.mem_append, mem_temperatureCauses, mem_depthCauses, or_assoc]
  split <;> simp [*]

/-- They stand in the order of R86, each once. -/
theorem failedCauses_nodup (s : State) (h : Hoist) (r : LoadRec) : (s.failedCauses h r).Nodup := by
  have temperature : s.temperatureCauses.Sublist [.temperatureUnknown, .tooCold, .tooHot] := by
    unfold State.temperatureCauses
    (repeat' split) <;> decide
  have depth : (s.depthCauses h r).Sublist [.depthUnknown, .notCovered] := by
    unfold State.depthCauses
    (repeat' split) <;> decide
  have weight :
      (if s.throughputOk (s.admissionWeight r) then [] else [AdmitCause.throughput]).Sublist [.throughput] := by
    split <;> decide
  rw [failedCauses_eq]
  exact List.Nodup.sublist ((temperature.append depth).append weight) (by decide)

/-! ## A failed trial (R11) -/

/-- ADMIT_WAIT of a cause, for the load of a hoist (R11, R33, R182). -/
def waitNotice (h : Hoist) (id time : Nat) (c : AdmitCause) : Notice :=
  { kind := .admitWait, time := time, hoist := some h, load := some id, data1 := some (c.number : Int), data2 := none }

@[simp] theorem Link.raise_clock (l : Link) (n : Notice) : (l.raise n).clock = l.clock := by
  unfold Link.raise
  (repeat' split) <;> rfl

theorem notifyCause_old {h : Hoist} {q : Sequencer} {s : State} {c : AdmitCause} (old : q.causes.contains c = true) :
    notifyCause h (setSeq h q s) c = setSeq h q s := by
  rw [notifyCause, seq_setSeq, if_pos old]

section Trial
variable {h : Hoist} {id : Nat} {q : Sequencer} {s : State} (carries : q.load = some id)
include carries

theorem notifyCause_new {c : AdmitCause} (new : q.causes.contains c = false) :
    notifyCause h (setSeq h q s) c =
      setSeq h { q with causes := q.causes ++ [c] }
        { s with link := s.link.raise (waitNotice h id s.link.clock c) } := by
  rw [notifyCause, seq_setSeq, if_neg (by rw [new]; exact Bool.false_ne_true), modSeq_setSeq, raiseFor, seq_setSeq,
    carries]
  cases h <;> rfl

/-- Each cause not yet notified joins the notified ones, with one notice. -/
theorem notifyCauses_setSeq {l : List AdmitCause} (once : l.Nodup) :
    l.foldl (notifyCause h) (setSeq h q s) =
      setSeq h { q with causes := q.causes ++ l.filter (fun c => !q.causes.contains c) }
        { s with
          link := List.foldl (fun k c => k.raise (waitNotice h id s.link.clock c)) s.link
            (l.filter (fun c => !q.causes.contains c)) } := by
  induction l generalizing q s with
  | nil => simp
  | cons c l ih =>
    obtain ⟨apart, once⟩ := List.nodup_cons.1 once
    cases old : q.causes.contains c with
    | true =>
      rw [List.foldl_cons, notifyCause_old old, ih carries once, List.filter_cons_of_neg (by simpa using old)]
    | false =>
      have same : l.filter (fun x => !(q.causes ++ [c]).contains x) = l.filter (fun x => !q.causes.contains x) := by
        refine List.filter_congr fun x hx => ?_
        have : x ≠ c := fun hxc => apart (hxc ▸ hx)
        simp [this]
      rw [List.foldl_cons, notifyCause_new carries old, ih (q := { q with causes := q.causes ++ [c] }) carries once,
        List.filter_cons_of_pos (by simpa using old), same]
      simp

end Trial

section Admission
variable {h : Hoist} {id : Nat} {r : LoadRec} {s : State} (waits : (s.seq h).phase = .awaitAdmit)
  (carries : (s.seq h).load = some id) (record : s.records.loads.find? (fun r => r.id == id) = some r)
include waits carries record

theorem trial_fails (fails : s.failedCauses h r ≠ []) :
    trial h s = (s.failedCauses h r).foldl (notifyCause h) s := by
  rw [trial, if_pos waits, carried_eq carries, record]
  dsimp only
  split
  next none _ => exact absurd none fails
  next => rfl

theorem trial_passes (passes : s.failedCauses h r = []) {theta : Int} (temp : s.bath.temp = some theta) :
    trial h s = admitLoad h r theta s := by
  rw [trial, if_pos waits, carried_eq carries, record]
  simp only [passes, temp]

end Admission

/-! ## The admission (R12, R41, R42, R43) -/

theorem immersionTime_eq (base perMm thick mSi : Nat) (thetaN theta : Int) {tSi : Nat}
    (silicon : tSi = (base + perMm * thick) * mSi / 100) :
    immersionTime base perMm thick mSi thetaN theta =
      max 30 (min 1200 (tSi + tSi * (thetaN - theta).toNat / 1000)) := by
  have warm (h : ¬ theta < thetaN) : (thetaN - theta).toNat = 0 := by omega
  have extended : extension tSi thetaN theta = tSi * (thetaN - theta).toNat / 1000 := by
    unfold extension
    split
    next => rfl
    next h => rw [warm h, Nat.mul_zero, Nat.zero_div]
  rw [immersionTime, siliconTime, ← silicon, extended, clampImmersion]
  (repeat' split) <;> omega

/-- The recipe that a load latches from the records of its classes (R40, R43). -/
theorem recipe_of_classes {s : State} {r : LoadRec} {c : SectionClass} {m : Nat}
    (sect : s.settings.sections[r.sect]? = some c) (silicon : s.settings.silicons[r.silicon]? = some m) (theta : Int) :
    recipe s r theta =
      { theta := theta, tImm := immersionTime c.base c.perMm r.thick m (s.setting 19) theta, entryTime := s.link.clock,
        entrySpeed := c.entrySpeed, withdrawSpeed := c.withdrawSpeed, vibrate := c.vibrate, drain := c.drain } := by
  have hc : s.sectionClass r.sect = c := by simp [State.sectionClass, sect]
  have hm : s.siliconClass r.silicon = m := by simp [State.siliconClass, silicon]
  simp only [recipe, hc, hm]
  rfl

/-- The load record of the carried load takes what it latches, and ENTERED is raised, before the lift moves. -/
def entered (h : Hoist) (id : Nat) (l : Latched) (w : Nat) (s : State) : State :=
  raise .entered (some h) (some id) (some (l.tImm : Int)) (some l.theta)
    (withLoad id (fun r => { r with latched := some l }) { s with window := s.window ++ [{ weight := w, age := 0 }] })

theorem admitLoad_eq {h : Hoist} {id : Nat} {r : LoadRec} {s : State} (carries : (s.seq h).load = some id)
    (own : r.id = id) (theta : Int) :
    admitLoad h r theta s = beginEntry h (entered h id (recipe s r theta) (s.admissionWeight r) s) := by
  subst own
  rw [entered, ← carries]
  cases h <;> rfl

theorem find?_entered {h : Hoist} {id w : Nat} {l : Latched} {r : LoadRec} {s : State}
    (record : s.records.loads.find? (fun r => r.id == id) = some r) :
    (entered h id l w s).records.loads.find? (fun r => r.id == id) = some { r with latched := some l } := by
  have own : r.id = id := by simpa using List.find?_some record
  change (withLoad id (fun r => { r with latched := some l }) s).records.loads.find? (fun r => r.id == id) = _
  rw [find?_withLoad (f := fun r => { r with latched := some l }) (fun _ => rfl), record, Option.map_some, if_pos own]

theorem seq_entered (h k : Hoist) (id w : Nat) (l : Latched) (s : State) : (entered h id l w s).seq k = s.seq k := by
  cases k <;> rfl

/-- An admission away from p_imm lowers the load at the speed it has latched. -/
theorem admitLoad_far {h : Hoist} {id : Nat} {r : LoadRec} {q : Sequencer} {s : State} {x p theta : Int}
    (hq : q = s.seq h) (carries : q.load = some id) (record : s.records.loads.find? (fun r => r.id == id) = some r)
    (lift : q.lift = some x) (target : q.pImm = some p) (far : 5 < |p - x|) :
    admitLoad h r theta s =
      moving h .lift p ((recipe s r theta).entrySpeed : Int) x
        (setSeq h { q with phase := .entry } (entered h id (recipe s r theta) (s.admissionWeight r) s)) := by
  subst hq
  have own : r.id = id := by simpa using List.find?_some record
  rw [admitLoad_eq carries own]
  set u := entered h id (recipe s r theta) (s.admissionWeight r) s
  have seq : u.seq h = s.seq h := seq_entered ..
  rw [← seq] at carries lift target ⊢
  have entry := beginEntry_far rfl target lift far
  rwa [setSeq_seq, (speeds_of_latched (latched_eq carries (find?_entered record))).1] at entry

end Sys2Proof.Machine

open Sys2Proof Sys2Proof.Machine

/-- Settles O40: the causes by the three groups of R86, a failed trial by the causes not yet notified, and an admission
by the recipe it latches. -/
theorem admissionTrialsAndTheirCauses : Obligations.AdmissionTrialsAndTheirCauses := by
  refine ⟨⟨rfl, ?_⟩, fun h s => ⟨fun active => exec_eventOf rfl active, trial_of_not_waiting⟩, ?_⟩
  · rintro h r s w total rfl rfl
    refine ⟨admissionWeight_eq s r, ?_, ?_, ?_, ?_, fun p target => ?_, ?_⟩
    · simp [mem_failedCauses]
    · simp [mem_failedCauses]
    · simp [mem_failedCauses]
    · simp [mem_failedCauses]
    · simp [mem_failedCauses, target]
    · rw [← admissionWeight_eq, ← throughputOk_false_iff]
      simp [mem_failedCauses]
  · rintro h id s r q rfl carries record
    refine ⟨?_, ?_⟩
    · rintro new rfl waits fails
      have told := notifyCauses_setSeq (h := h) (s := s) carries (failedCauses_nodup s h r)
      rw [setSeq_seq] at told
      rw [trial_fails waits carries record fails, told]
      cases h <;> rfl
    · rintro θ x p c m w tSi t waits passes temp lift target far sect silicon rfl silTime rfl
      have entry := admitLoad_far (theta := θ) rfl carries record lift target far
      have latches := recipe_of_classes sect silicon θ
      rw [immersionTime_eq _ _ _ _ _ _ silTime] at latches
      refine ⟨?_, ?_⟩
      · rw [trial_passes waits carries record passes temp, entry, latches]
        rfl
      · have room : ¬ s.throughputOk (s.admissionWeight r) = false := fun full => by
          have := (mem_failedCauses s h r .throughput).2 (.inr (.inr ⟨rfl, full⟩))
          simp [passes] at this
        rw [throughputOk_false_iff, not_and_or, not_or, not_not, not_le, not_lt] at room
        refine room.imp_right fun ⟨_, light⟩ => ?_
        simpa using light

end

section
/-! PROOFS. Start-up stage by stage: which stage writes which part of the state (R198). -/

namespace Sys2Proof.Machine

/-! ## The stages in their order -/

theorem stagesTo_one (k : ResetKind) (s : State) : stagesTo k 1 s = s := rfl

theorem stagesTo_succ (k : ResetKind) {n : Nat} (hn : 1 ≤ n) (s : State) :
    stagesTo k (n + 1) s = stage k (n + 1) (stagesTo k n s) := by
  obtain ⟨m, rfl⟩ := Nat.exists_eq_add_of_le' hn
  simp only [stagesTo, Nat.add_sub_cancel, List.range'_concat, List.foldl_append, List.foldl_cons, List.foldl_nil,
    Nat.one_mul, Nat.add_comm 2 m]

/-- A part of the state that no stage but `m` writes is, after the stages up to `n`, what stage `m` has made of it, or as
it was. -/
theorem stagesTo_writes {α : Type} {f : State → α} {k : ResetKind} {m : Nat} (hm : 2 ≤ m)
    (others : ∀ i s, i ≠ m → f (stage k i s) = f s) (n : Nat) (s : State) :
    f (stagesTo k n s) = if m ≤ n then f (stage k m (stagesTo k (m - 1) s)) else f s := by
  match n with
  | 0 => rw [if_neg (by omega)]; rfl
  | 1 => rw [if_neg (by omega)]; rfl
  | n + 2 =>
    rw [stagesTo_succ k (Nat.le_add_left 1 n)]
    by_cases h : n + 2 = m
    · subst h
      rw [if_pos le_rfl]
      rfl
    · rw [others _ _ h, stagesTo_writes hm others (n + 1)]
      exact if_congr (by omega) rfl rfl

/-- A part that no stage writes. -/
theorem stagesTo_keeps {α : Type} {f : State → α} {k : ResetKind} (all : ∀ i s, f (stage k i s) = f s) (n : Nat)
    (s : State) : f (stagesTo k n s) = f s := by
  rw [stagesTo_writes (m := 2) le_rfl (fun i s _ => all i s), all, stagesTo_one, ite_self]

/-! ## What each stage leaves -/

@[simp] theorem stageLink_frame (k : ResetKind) (s : State) :
    (stageLink k s).seqA = s.seqA ∧ (stageLink k s).seqB = s.seqB ∧ (stageLink k s).engA = s.engA ∧
    (stageLink k s).engB = s.engB ∧ (stageLink k s).arbiter = s.arbiter ∧ (stageLink k s).skimmer = s.skimmer ∧
    (stageLink k s).bath = s.bath ∧ (stageLink k s).window = s.window ∧ (stageLink k s).records = s.records ∧
    (stageLink k s).balance = s.balance ∧ (stageLink k s).field = s.field ∧ (stageLink k s).capture = s.capture ∧
    (stageLink k s).free = s.free ∧ (stageLink k s).pending = s.pending := by
  simp [stageLink]

@[simp] theorem stageStore_frame (k : ResetKind) (s : State) :
    (stageStore k s).unit = s.unit ∧ (stageStore k s).seqA = s.seqA ∧ (stageStore k s).seqB = s.seqB ∧
    (stageStore k s).engA = s.engA ∧ (stageStore k s).engB = s.engB ∧ (stageStore k s).arbiter = s.arbiter ∧
    (stageStore k s).skimmer = s.skimmer ∧ (stageStore k s).bath = s.bath ∧ (stageStore k s).window = s.window ∧
    (stageStore k s).records = s.records ∧ (stageStore k s).balance = s.balance ∧
    (stageStore k s).field = s.field ∧ (stageStore k s).capture = s.capture ∧ (stageStore k s).free = s.free ∧
    (stageStore k s).pending = s.pending := by
  unfold stageStore
  split <;> simp

@[simp] theorem stageRecords_frame (s : State) :
    (stageRecords s).unit = s.unit ∧ (stageRecords s).link = s.link ∧ (stageRecords s).seqA = s.seqA ∧
    (stageRecords s).seqB = s.seqB ∧ (stageRecords s).engA = s.engA ∧ (stageRecords s).engB = s.engB ∧
    (stageRecords s).skimmer = s.skimmer ∧ (stageRecords s).bath = s.bath ∧ (stageRecords s).window = s.window ∧
    (stageRecords s).balance = s.balance ∧ (stageRecords s).field = s.field ∧
    (stageRecords s).capture = s.capture ∧ (stageRecords s).free = s.free ∧
    (stageRecords s).pending = s.pending := by
  simp only [stageRecords, dropOrphan]
  (repeat' split) <;> simp

@[simp] theorem startHoist_frame (h : Hoist) (s : State) :
    (startHoist h s).unit = s.unit ∧ (startHoist h s).link = s.link ∧ (startHoist h s).engA = s.engA ∧
    (startHoist h s).engB = s.engB ∧ (startHoist h s).skimmer = s.skimmer ∧ (startHoist h s).bath = s.bath ∧
    (startHoist h s).window = s.window ∧ (startHoist h s).records = s.records ∧
    (startHoist h s).balance = s.balance ∧ (startHoist h s).field = s.field ∧
    (startHoist h s).capture = s.capture ∧ (startHoist h s).settings = s.settings ∧
    (startHoist h s).free = s.free ∧ (startHoist h s).pending = s.pending := by
  unfold startHoist
  dsimp only
  split <;> simp

@[simp] theorem startSkimmer_frame (s : State) :
    (startSkimmer s).unit = s.unit ∧ (startSkimmer s).link = s.link ∧ (startSkimmer s).seqA = s.seqA ∧
    (startSkimmer s).seqB = s.seqB ∧ (startSkimmer s).engA = s.engA ∧ (startSkimmer s).engB = s.engB ∧
    (startSkimmer s).arbiter = s.arbiter ∧ (startSkimmer s).bath = s.bath ∧ (startSkimmer s).window = s.window ∧
    (startSkimmer s).records = s.records ∧ (startSkimmer s).balance = s.balance ∧
    (startSkimmer s).field = s.field ∧ (startSkimmer s).capture = s.capture ∧
    (startSkimmer s).free = s.free ∧ (startSkimmer s).pending = s.pending := by
  unfold startSkimmer
  split <;> simp

@[simp] theorem recoverStop_frame (h : Hoist) (s : State) :
    (recoverStop h s).unit = s.unit ∧ (recoverStop h s).link = s.link ∧ (recoverStop h s).seqA = s.seqA ∧
    (recoverStop h s).seqB = s.seqB ∧ (recoverStop h s).engA = s.engA ∧ (recoverStop h s).engB = s.engB ∧
    (recoverStop h s).skimmer = s.skimmer ∧ (recoverStop h s).bath = s.bath ∧ (recoverStop h s).window = s.window ∧
    (recoverStop h s).records = s.records ∧ (recoverStop h s).balance = s.balance ∧
    (recoverStop h s).capture = s.capture ∧ (recoverStop h s).free = s.free ∧
    (recoverStop h s).pending = s.pending := by
  unfold recoverStop
  split <;> simp

@[simp] theorem firstPoll_frame (h : Hoist) (s : State) :
    (firstPoll h s).unit = s.unit ∧ (firstPoll h s).link = s.link ∧ (firstPoll h s).seqA = s.seqA ∧
    (firstPoll h s).seqB = s.seqB ∧ (firstPoll h s).engA = s.engA ∧ (firstPoll h s).engB = s.engB ∧
    (firstPoll h s).skimmer = s.skimmer ∧ (firstPoll h s).bath = s.bath ∧ (firstPoll h s).window = s.window ∧
    (firstPoll h s).records = s.records ∧ (firstPoll h s).balance = s.balance ∧
    (firstPoll h s).capture = s.capture ∧ (firstPoll h s).free = s.free ∧ (firstPoll h s).pending = s.pending := by
  unfold firstPoll
  split <;> simp

@[simp] theorem stageField_frame (s : State) :
    (stageField s).unit = s.unit ∧ (stageField s).link = s.link ∧ (stageField s).seqA = s.seqA ∧
    (stageField s).seqB = s.seqB ∧ (stageField s).engA = s.engA ∧ (stageField s).engB = s.engB ∧
    (stageField s).arbiter = s.arbiter ∧ (stageField s).skimmer = s.skimmer ∧ (stageField s).bath = s.bath ∧
    (stageField s).window = s.window ∧ (stageField s).records = s.records ∧ (stageField s).balance = s.balance ∧
    (stageField s).capture = s.capture ∧ (stageField s).free = s.free ∧ (stageField s).pending = s.pending := by
  unfold stageField
  dsimp only
  split <;> simp

/-! ## Which stage writes a part -/

section Writes
variable (k : ResetKind) (i : Nat) (s : State)

/-- Parts that no stage writes. -/
theorem stage_frame :
    (stage k i s).engA = s.engA ∧ (stage k i s).engB = s.engB ∧ (stage k i s).window = s.window ∧
      (stage k i s).capture = s.capture ∧ (stage k i s).free = s.free ∧ (stage k i s).pending = s.pending := by
  unfold stage
  split <;> simp [stageBath, stagePhases]

variable {i}

theorem stage_unit (hi : i ≠ 2) : (stage k i s).unit = s.unit := by
  unfold stage
  split <;> simp_all [stageBath, stagePhases]

theorem stage_seq (hi : i ≠ 7) (h : Hoist) : (stage k i s).seq h = s.seq h := by
  refine seq_congr ?_ ?_ h <;> unfold stage <;> split <;> simp_all [stageBath]

theorem stage_arbiter (hi : i ≠ 5) : (stage k i s).arbiter = s.arbiter := by
  unfold stage
  split <;> simp_all [stageBath, stagePhases]

theorem stage_records (hi : i ≠ 5) : (stage k i s).records = s.records := by
  unfold stage
  split <;> simp_all [stageBath, stagePhases]

theorem stage_skimmer (hi : i ≠ 7) : (stage k i s).skimmer = s.skimmer := by
  unfold stage
  split <;> simp_all [stageBath]

theorem stage_bath (hi : i ≠ 6) : (stage k i s).bath = s.bath := by
  unfold stage
  split <;> simp_all [stagePhases]

theorem stage_balance (hi : i ≠ 4) : (stage k i s).balance = s.balance := by
  unfold stage
  split <;> simp_all [stageBath, stagePhases]

theorem stage_field (hi : i ≠ 8) : (stage k i s).field = s.field := by
  unfold stage
  split <;> simp_all [stageBath, stagePhases]

end Writes

end Sys2Proof.Machine
end

section
/-! PROOFS. Start-up: what each stage makes of its part of the state that a reset has left (R197, R198). -/

namespace Sys2Proof.Machine

/-- All work of `s` has ended, and where its start-up may be overtaken is drawn (R197, log entry 24). -/
def begun (s : State) : State := drawOvertaken (endWork s)

/-- Start-up of `s` has passed the stages up to `n`. -/
def started (k : ResetKind) (n : Nat) (s : State) : State := stagesTo k n (begun s)

theorem started_writes {α : Type} {f : State → α} {k : ResetKind} {m : Nat} (hm : 2 ≤ m)
    (others : ∀ i s, i ≠ m → f (stage k i s) = f s) (n : Nat) (s : State) :
    f (started k n s) = if m ≤ n then f (stage k m (started k (m - 1) s)) else f (begun s) :=
  stagesTo_writes hm others n (begun s)

/-- A part that only stage `m` writes is before it as the reset has left it. -/
theorem started_before {α : Type} {f : State → α} {k : ResetKind} {m n : Nat} (hm : 2 ≤ m) (hn : n < m)
    (others : ∀ i s, i ≠ m → f (stage k i s) = f s) (s : State) : f (started k n s) = f (begun s) := by
  rw [started_writes hm others, if_neg (by omega)]

section Stages
variable (k : ResetKind) (n : Nat) (s : State)

/-! ## Parts that no stage writes -/

theorem started_frame :
    (started k n s).engA = { s.engA with weigh := none } ∧
      (started k n s).engB = { s.engB with weigh := none } ∧ (started k n s).window = s.window ∧
      (started k n s).capture = s.capture ∧ (started k n s).free = s.free + 1 ∧
      (started k n s).pending = s.pending := by
  refine ⟨?_, ?_, ?_, ?_, ?_, ?_⟩
  · exact stagesTo_keeps (f := State.engA) (by simp [stage_frame]) ..
  · exact stagesTo_keeps (f := State.engB) (by simp [stage_frame]) ..
  · exact stagesTo_keeps (f := State.window) (by simp [stage_frame]) ..
  · exact stagesTo_keeps (f := State.capture) (by simp [stage_frame]) ..
  · exact stagesTo_keeps (f := State.free) (by simp [stage_frame]) ..
  · exact stagesTo_keeps (f := State.pending) (by simp [stage_frame]) ..

@[simp] theorem started_settings : (started k n s).settings = s.settings := stagesTo_settings ..

@[simp] theorem started_setting (id : Nat) : (started k n s).setting id = s.setting id :=
  setting_congr (started_settings k n s) id

theorem stage_clock (i : Nat) : (stage k i s).link.clock = s.link.clock := by
  unfold stage
  split
  · simp [stageLink, raise, Link.setLines]
  · unfold stageStore
    split <;> simp [raise]
  · unfold endRecon
    split <;> simp [raiseReconciled, raise]
  · simp
  · simp only [stageBath, refreshDepth, compareLevel]
    (repeat' split) <;> simp [raise]
  · simp [stagePhases]
  · simp
  · rfl

@[simp] theorem started_clock : (started k n s).link.clock = s.link.clock :=
  stagesTo_keeps (f := fun u => u.link.clock) (fun i u => stage_clock k u i) ..

/-! ## Stage 2: the module (R188) -/

theorem started_unit :
    (started k n s).unit =
      if 2 ≤ n then { (begun s).unit with lastReset := k, inReset := false } else (begun s).unit :=
  started_writes le_rfl (fun _ u => stage_unit k u) n s

/-! ## Stage 4: the books (R145) -/

theorem begun_balance :
    (begun s).balance =
      { s.balance with pending := s.balance.pending.map (fun p : PendingRecon => { p with waited := 0 }) } := rfl

theorem started_balance_of_none (unasked : s.balance.pending = none) : (started k n s).balance = s.balance := by
  have unasked' : (begun s).balance = s.balance := by
    rw [begun_balance, unasked, Option.map_none, ← unasked]
  have still : (started k 3 s).balance = s.balance :=
    (started_before (m := 4) (by omega) (by omega) (fun _ u => stage_balance k u) s).trans unasked'
  rw [started_writes (m := 4) (by omega) (fun _ u => stage_balance k u), unasked']
  split
  · change (endRecon .abandoned (started k 3 s)).balance = s.balance
    simp only [endRecon, still, unasked]
  · rfl

/-- A pending reconciliation is ABANDONED with stage 4; before, its wait begins anew. -/
theorem started_balance_of_some {p : PendingRecon} (pending : s.balance.pending = some p) :
    (started k n s).balance =
      if 4 ≤ n then
        { s.balance with
          pending := none
          last := some { outcome := .abandoned, requested := p.requested, ended := s.link.clock, rebase := p.rebase,
                         book := none, mass := none, residual := none, adjustment := none } }
      else { s.balance with pending := some { p with waited := 0 } } := by
  have waits : (begun s).balance = { s.balance with pending := some { p with waited := 0 } } := by
    rw [begun_balance, pending, Option.map_some]
  have still := (started_before (m := 4) (n := 3) (by omega) (by omega) (fun _ u => stage_balance k u) s).trans waits
  rw [started_writes (m := 4) (by omega) (fun _ u => stage_balance k u), waits]
  congr 1
  change (endRecon .abandoned (started k 3 s)).balance = _
  rw [endRecon_of_pending (p := { p with waited := 0 }) (by rw [still])]
  simp only [raise_frame, still, started_clock]

/-- Start-up leaves the book. -/
theorem started_book : (started k n s).balance.book = s.balance.book := by
  cases pending : s.balance.pending with
  | none => rw [started_balance_of_none k n s pending]
  | some p =>
    rw [started_balance_of_some k n s pending]
    split <;> rfl

/-! ## Stage 5: the map and the records (R61, R127) -/

theorem inCycleWith_eq (h : Hoist) : s.inCycleWith h = s.retained h := by
  simp only [State.inCycleWith, State.retained, Bool.decide_and]

/-- The span of a hoist without a load IN_CYCLE is released, and no other. -/
def State.keepsSpan (s : State) (p : Span) : Bool :=
  match p.owner with
  | .maint _ => true
  | .hoist h => (s.retained h).isSome

theorem dropOrphan_spans (h : Hoist) :
    (dropOrphan h s).arbiter =
      { s.arbiter with
        spans := s.arbiter.spans.filter (fun p => decide (p.owner ≠ .hoist h) || (s.retained h).isSome) } := by
  rw [dropOrphan, inCycleWith_eq]
  cases s.retained h with
  | none => simp [SpanArbiter.release]
  | some r => simp

theorem stageRecords_arbiter :
    (stageRecords s).arbiter = { s.arbiter with spans := s.arbiter.spans.filter s.keepsSpan } := by
  have retained : (dropOrphan .A s).retained .B = s.retained .B := by
    rw [State.retained, (dropOrphan_frame .A s).1, State.retained]
  have both (p : Span) : ((decide (p.owner ≠ .hoist .A) || (s.retained .A).isSome) &&
      (decide (p.owner ≠ .hoist .B) || (s.retained .B).isSome)) = s.keepsSpan p := by
    unfold State.keepsSpan
    split
    next owner => simp [owner]
    next h owner => cases h <;> simp [owner]
  change (dropOrphan .B (dropOrphan .A s)).arbiter = _
  rw [dropOrphan_spans, retained, dropOrphan_spans]
  simp only [List.filter_filter, Bool.and_comm, both]

theorem started_arbiter :
    (started k n s).arbiter =
      { s.arbiter with
        queue := [], spans := if 5 ≤ n then s.arbiter.spans.filter s.keepsSpan else s.arbiter.spans } := by
  have map : (started k 4 s).arbiter = (begun s).arbiter :=
    started_before (m := 5) (by omega) (by omega) (fun _ u => stage_arbiter k u) s
  have records : (started k 4 s).records = (begun s).records :=
    started_before (m := 5) (by omega) (by omega) (fun _ u => stage_records k u) s
  have keeps : (started k 4 s).keepsSpan = s.keepsSpan := by
    funext p
    simp only [State.keepsSpan, State.retained, records]
    rfl
  rw [started_writes (m := 5) (by omega) (fun _ u => stage_arbiter k u)]
  change (if 5 ≤ n then (stageRecords (started k 4 s)).arbiter else _) = _
  rw [stageRecords_arbiter, keeps, map]
  split <;> rfl

theorem LoadRec.agree_jig (a : SpanArbiter) (r : LoadRec) : (r.agree a).jig = r.jig := by
  unfold LoadRec.agree
  split <;> rfl

/-- The agreed span fields are not read of a jig's load. -/
theorem JigRec.agree_loads (a : SpanArbiter) (loads : List LoadRec) (j : JigRec) :
    j.agree (loads.map (LoadRec.agree a)) = j.agree loads := by
  simp only [JigRec.agree, List.find?_map, Function.comp_def, LoadRec.agree_frame, LoadRec.agree_jig, Option.map_map]

theorem stageRecords_records :
    (stageRecords s).records =
      { s.records with
        loads := s.records.loads.map (LoadRec.agree (stageRecords s).arbiter)
        jigs := s.records.jigs.map (JigRec.agree s.records.loads) } := by
  have records : (dropOrphan .B (dropOrphan .A s)).records = s.records := by
    rw [(dropOrphan_frame ..).1, (dropOrphan_frame ..).1]
  simp only [stageRecords, records]
  congr 1
  exact List.map_congr_left fun j _ => JigRec.agree_loads ..

theorem started_records :
    (started k n s).records =
      if 5 ≤ n then
        { s.records with
          loads := s.records.loads.map (LoadRec.agree (started k n s).arbiter)
          jigs := s.records.jigs.map (JigRec.agree s.records.loads) }
      else s.records := by
  have before : (started k 4 s).records = (begun s).records :=
    started_before (m := 5) (by omega) (by omega) (fun _ u => stage_records k u) s
  rw [started_writes (m := 5) (by omega) (fun _ u => stage_records k u),
    started_writes (f := State.arbiter) (m := 5) (by omega) (fun _ u => stage_arbiter k u)]
  split
  · change (stageRecords (started k 4 s)).records = _
    rw [stageRecords_records, before]
    rfl
  · rfl

/-- A hoist finds the load it had, its span field agreed. -/
theorem started_inCycleWith (late : 5 ≤ n) (h : Hoist) :
    (started k n s).inCycleWith h = (s.retained h).map (LoadRec.agree (started k n s).arbiter) := by
  have map : (started k n s).arbiter = (stageRecords (started k 4 s)).arbiter := by
    rw [started_writes (m := 5) (by omega) (fun _ u => stage_arbiter k u), if_pos late]
    rfl
  have records : (started k 4 s).records = (begun s).records :=
    started_before (m := 5) (by omega) (by omega) (fun _ u => stage_records k u) s
  have before : (started k 4 s).inCycleWith h = s.retained h := (inCycleWith_congr records h).trans (inCycleWith_eq s h)
  rw [map, ← before, ← stageRecords_inCycleWith, started_writes (f := fun u => u.inCycleWith h) (m := 5) (by omega)
    (fun _ u hi => inCycleWith_congr (stage_records k u hi) h), if_pos late]
  rfl

/-! ## Stage 6: the bath (R83, R84, R90) -/

theorem compareLevel_levelArmed {s : State} (armed : s.bath.levelArmed = true) :
    (compareLevel s).bath = { s.bath with levelArmed := !s.bath.hEst.any (fun d => decide (d < s.setting 22)) } := by
  have kept : s.bath = { s.bath with levelArmed := true } := by rw [← armed]
  cases depth : s.bath.hEst with
  | none =>
    have high : s.bath.hEst.any (fun d => decide (d < s.setting 22)) = false := by rw [depth]; rfl
    rw [compareLevel_unknown depth, ← depth, high]
    exact kept
  | some d =>
    have any : s.bath.hEst.any (fun d => decide (d < s.setting 22)) = decide (d < s.setting 22) := by rw [depth]; rfl
    rw [← depth, any]
    by_cases low : d < s.setting 22
    · rw [compareLevel_low depth armed low, decide_eq_true low]
      rfl
    · rw [compareLevel_armed depth armed (not_lt.1 low), decide_eq_false low]
      exact kept

theorem started_bath :
    (started k n s).bath =
      if n < 6 then s.bath
      else
        { channels := List.replicate 4 { reading := none, valid := false }, temp := none, polled := false,
          overArmed := true, quiet := false, settle := 0, reading := s.bath.reading,
          hEst := s.bath.reading.map (fun q => estimatedDepth q s.balance.book),
          levelArmed := !(s.bath.reading.any (fun q => decide (estimatedDepth q s.balance.book < s.setting 22))) } := by
  have before : (started k 5 s).bath = s.bath :=
    started_before (m := 6) (by omega) (by omega) (fun _ u => stage_bath k u) s
  rw [started_writes (m := 6) (by omega) (fun _ u => stage_bath k u)]
  by_cases early : n < 6
  · rw [if_pos early, if_neg (by omega)]
    rfl
  · rw [if_neg early, if_pos (by omega)]
    change (stageBath (started k 5 s)).bath = _
    rw [stageBath, refreshDepth, compareLevel_levelArmed rfl]
    simp only [State.setting, started_settings, before, started_book, Option.any_map]
    rfl

/-! ## Stage 7: the hoists and the skimmer (R3, R32, R73) -/

theorem begun_seq (h : Hoist) : (begun s).seq h = Sequencer.fresh (s.seq h).enabled (s.seq h).pressed := by
  cases h <;> rfl

/-- The items in which a hoist starts (R3, R32). -/
def State.startItems (s : State) (h : Hoist) : Sequencer :=
  match s.inCycleWith h with
  | none => Sequencer.fresh (s.seq h).enabled (s.seq h).pressed
  | some r =>
    { Sequencer.fresh (s.seq h).enabled (s.seq h).pressed with
      phase := .recover, load := some r.id, pImm := some (s.pImmOf r), pClr := some (s.pClrOf r),
      centre := r.span.map (fun p => spanCentre s.kettleLength p.1 p.2), recoverWait := some 0 }

theorem startHoist_eq (h : Hoist) : startHoist h s = setSeq h (s.startItems h) s := by
  unfold startHoist State.startItems
  dsimp only
  split <;> simp only [*]

theorem startItems_congr {s t : State} {h : Hoist} (records : t.records = s.records) (settings : t.settings = s.settings)
    (seq : t.seq h = s.seq h) : t.startItems h = s.startItems h := by
  simp only [State.startItems, inCycleWith_congr records, seq, State.pImmOf, State.pClrOf, State.floorClearance,
    State.kettleDepth, State.clearMargin, State.kettleLength, setting_congr settings]

theorem stagePhases_seq (h : Hoist) : (stagePhases s).seq h = s.startItems h := by
  have skimmer (u : State) : (startSkimmer u).seq h = u.seq h := seq_congr (by simp) (by simp) h
  rw [stagePhases, skimmer]
  cases h with
  | A =>
    rw [startHoist_eq _ .B, startHoist_eq s .A]
    rfl
  | B =>
    rw [startHoist_eq _ .B, seq_setSeq]
    exact startItems_congr (by simp) (by simp) (by rw [startHoist_eq]; rfl)

theorem started_seq_before (early : n < 7) (h : Hoist) :
    (started k n s).seq h = Sequencer.fresh (s.seq h).enabled (s.seq h).pressed :=
  (started_before (f := fun u => u.seq h) (m := 7) (by omega) early (fun _ u hi => stage_seq k u hi h) s).trans
    (begun_seq s h)

theorem started_seq (late : 7 ≤ n) (h : Hoist) : (started k n s).seq h = (started k 6 s).startItems h := by
  rw [started_writes (f := fun u => u.seq h) (m := 7) (by omega) (fun _ u hi => stage_seq k u hi h), if_pos late]
  exact stagePhases_seq _ h

/-- A hoist without a load IN_CYCLE starts by its enable state. -/
theorem started_seq_of_none {h : Hoist} (alone : s.retained h = none) :
    (started k n s).seq h = Sequencer.fresh (s.seq h).enabled (s.seq h).pressed := by
  rcases Nat.lt_or_ge n 7 with early | late
  · exact started_seq_before k n s early h
  · have found := started_inCycleWith k 6 s (by omega) h
    rw [alone, Option.map_none] at found
    rw [started_seq k n s late, State.startItems, found, started_seq_before k 6 s (by omega)]
    rfl

theorem LoadRec.agree_hang (a : SpanArbiter) (r : LoadRec) : (r.agree a).hang = r.hang := by
  unfold LoadRec.agree
  split <;> rfl

theorem retained_spec {h : Hoist} {r : LoadRec} {s : State} (found : s.retained h = some r) :
    r.state = .inCycle ∧ r.hoist = some h := by
  simpa [State.retained] using List.find?_some found

/-- A hoist with a load IN_CYCLE starts in RECOVER with it, its positions computed afresh (R32). -/
theorem started_seq_of_some {h : Hoist} {r : LoadRec} (retained : s.retained h = some r) (late : 7 ≤ n) :
    (started k n s).seq h =
      { Sequencer.fresh (s.seq h).enabled (s.seq h).pressed with
        phase := .recover, load := some r.id, pImm := some (s.setting 9 + r.hang),
        pClr := some (s.setting 3 + s.setting 10 + r.hang),
        centre := ((started k n s).arbiter.spanOf (.hoist h)).map
          (fun p => 2000 + (((p.first : Int) - 1 + p.last) * s.setting 1) / 24),
        recoverWait := some 0 } := by
  have found := started_inCycleWith k 6 s (by omega) h
  rw [retained, Option.map_some] at found
  have map : (started k 6 s).arbiter = (started k n s).arbiter := by
    rw [started_arbiter, started_arbiter, if_pos (by omega), if_pos (by omega)]
  obtain ⟨cycle, own⟩ := retained_spec retained
  rw [started_seq k n s late, State.startItems, found]
  simp only [started_seq_before k 6 s (by omega), (LoadRec.agree_frame _ r).2.2, LoadRec.agree_span cycle own,
    State.pImmOf, State.pClrOf, State.floorClearance, State.kettleDepth, State.clearMargin, State.kettleLength,
    started_setting, LoadRec.agree_hang, map, Option.map_map]
  rfl

theorem startSkimmer_skimmer :
    (startSkimmer s).skimmer =
      { s.skimmer with
        mode := if s.skimmer.outFlag then .outOfService else .sweeping
        sweep := if s.skimmer.outFlag then none
          else some { hoist := none, span := none, start := s.link.clock, abort := true }
        queue := [], pollsBegun := false } := by
  unfold startSkimmer
  split
  next out => simp only [out]
  next away =>
    simp only [away]
    rfl

theorem started_skimmer :
    (started k n s).skimmer =
      { s.skimmer with
        mode := if n < 7 then .idle else if s.skimmer.outFlag then .outOfService else .sweeping
        sweep := if n < 7 ∨ s.skimmer.outFlag = true then none
          else some { hoist := none, span := none, start := s.link.clock, abort := true }
        queue := [], pollsBegun := false } := by
  have before : (started k 6 s).skimmer = (begun s).skimmer :=
    started_before (m := 7) (by omega) (by omega) (fun _ u => stage_skimmer k u) s
  obtain ⟨skimmer, clock⟩ : (startHoist .B (startHoist .A (started k 6 s))).skimmer = (begun s).skimmer ∧
      (startHoist .B (startHoist .A (started k 6 s))).link.clock = s.link.clock := by simp [before]
  rw [started_writes (m := 7) (by omega) (fun _ u => stage_skimmer k u)]
  by_cases early : n < 7
  · rw [if_neg (by omega), if_pos early, if_pos (.inl early)]
    rfl
  · change (if 7 ≤ n then (startSkimmer (startHoist .B (startHoist .A (started k 6 s)))).skimmer else _) = _
    rw [if_pos (by omega), if_neg early, startSkimmer_skimmer, skimmer, clock]
    simp only [early, false_or]
    rfl

/-! ## The notices and the lines (R84, R145, R188, R194) -/

/-- A notice of the module itself (R181). -/
def moduleNotice (kind : NoticeKind) (time : Nat) (d1 d2 : Option Int) : Notice :=
  { kind := kind, time := time, hoist := none, load := none, data1 := d1, data2 := d2 }

/-- LEVEL_LOW where the depth is below the level warning (R84). -/
def levelNotices (s : State) (depth : Option Int) : List Notice :=
  depth.elim [] fun d =>
    if d < s.setting 22 then [moduleNotice .levelLow s.link.clock (some d) (some (s.setting 22))] else []

theorem compareLevel_link {s : State} (armed : s.bath.levelArmed = true) :
    (compareLevel s).link = (levelNotices s s.bath.hEst).foldl Link.raise s.link := by
  unfold levelNotices
  cases depth : s.bath.hEst with
  | none =>
    rw [compareLevel_unknown depth]
    rfl
  | some d =>
    rw [Option.elim_some]
    by_cases low : d < s.setting 22
    · rw [compareLevel_low depth armed low, if_pos low]
      rfl
    · rw [compareLevel_armed depth armed (not_lt.1 low), if_neg low]
      rfl

/-- The notices that stage `i` raises. -/
def stageNotices (k : ResetKind) (s : State) : Nat → List Notice
  | 2 => [moduleNotice .restarted s.link.clock (some (k.number : Int)) none]
  | 3 => if k = .supply ∧ s.unit.storeLost = true then [moduleNotice .storeLost s.link.clock none none] else []
  | 4 => if s.balance.pending.isSome then [moduleNotice .reconciled s.link.clock (some 2) none] else []
  | 6 => levelNotices s (s.bath.reading.map (fun q => estimatedDepth q s.balance.book))
  | _ => []

theorem startUpNotices_one (d : Option Int) : startUpNotices k 1 d s = [] := by
  cases d <;> simp [startUpNotices]

/-- The list of R198 grows stage by stage. -/
theorem startUpNotices_succ (hn : 1 ≤ n) :
    startUpNotices k (n + 1) (s.bath.reading.map (fun q => estimatedDepth q s.balance.book)) s =
      startUpNotices k n (s.bath.reading.map (fun q => estimatedDepth q s.balance.book)) s ++
        stageNotices k s (n + 1) := by
  unfold startUpNotices
  match n, hn with
  | 1, _ =>
    cases s.bath.reading <;> cases k <;> simp [stageNotices, moduleNotice, ResetKind.number]
  | 2, _ =>
    cases s.bath.reading <;> simp [stageNotices, moduleNotice]
  | 3, _ =>
    cases s.bath.reading <;> simp [stageNotices, moduleNotice]
  | 4, _ =>
    cases s.bath.reading <;> simp [stageNotices]
  | 5, _ =>
    cases reading : s.bath.reading with
    | none => simp [stageNotices, levelNotices, reading]
    | some q => simp [stageNotices, levelNotices, moduleNotice, reading]
  | n + 6, _ =>
    cases s.bath.reading <;> simp [stageNotices]

variable {n}

/-- Stage 2 sets the lines before it raises; the others raise alone. -/
theorem stage_link {i : Nat} (hi : i ≠ 2) : (stage k i s).link = (stageNotices k s i).foldl Link.raise s.link := by
  match i, hi with
  | 0, _ | 1, _ => rfl
  | 3, _ =>
    change (stageStore k s).link = _
    unfold stageStore
    by_cases lost : k = .supply ∧ s.unit.storeLost = true <;> simp only [stageNotices, lost, if_false] <;> rfl
  | 4, _ =>
    change (endRecon .abandoned s).link = _
    cases pending : s.balance.pending with
    | none => simp [endRecon, stageNotices, pending]
    | some p =>
      rw [endRecon_of_pending pending]
      simp only [stageNotices, pending, Option.isSome_some, if_true]
      rfl
  | 5, _ => simp [stage, stageNotices]
  | 6, _ =>
    change (stageBath s).link = _
    rw [stageBath, refreshDepth, compareLevel_link rfl]
    rfl
  | 7, _ => simp [stage, stageNotices, stagePhases]
  | 8, _ => simp [stage, stageNotices]
  | n + 9, _ => rfl

theorem stageNotices_started {n : Nat} (hn : 1 ≤ n) :
    stageNotices k (started k n s) (n + 1) = stageNotices k s (n + 1) := by
  have lost : (started k n s).unit.storeLost = s.unit.storeLost := by
    rw [started_unit]
    split <;> rfl
  match n, hn with
  | 1, _ => simp only [stageNotices, started_clock]
  | 2, _ => simp only [stageNotices, started_clock, lost]
  | 3, _ =>
    have pending : (started k 3 s).balance.pending.isSome = s.balance.pending.isSome := by
      cases pending : s.balance.pending with
      | none => rw [started_balance_of_none k 3 s pending, pending]
      | some p =>
        rw [started_balance_of_some k 3 s pending, if_neg (by omega)]
        rfl
    simp only [stageNotices, started_clock, pending]
  | 4, _ => rfl
  | 5, _ =>
    simp only [stageNotices, levelNotices, started_clock, started_book, started_setting, started_bath]
    rfl
  | n + 6, _ => rfl

theorem started_link {n : Nat} (hn : 2 ≤ n) :
    (started k n s).link =
      (startUpNotices k n (s.bath.reading.map (fun q => estimatedDepth q s.balance.book)) s).foldl Link.raise
        { s.link with rx := .hunting, buffer := [], reply := none }.setLines := by
  induction n, hn using Nat.le_induction with
  | base =>
    rw [startUpNotices_succ k 1 s le_rfl, startUpNotices_one]
    rfl
  | succ n hn ih =>
    rw [startUpNotices_succ k n s (by omega), List.foldl_append, ← ih, ← stageNotices_started k s (by omega)]
    exact (congrArg State.link (stagesTo_succ k (by omega) (begun s))).trans (stage_link k _ (by omega))

end Stages

/-! ## Stage 8: the field line (R32, R160, R170) -/

theorem modStation_ite (p : Prop) [Decidable p] (st : Station) (f : StationState → StationState) (s : State) :
    (if p then modStation st f s else s) = modStation st (fun x => if p then f x else x) s := by
  split
  · rfl
  · cases st <;> rfl

theorem recoverStop_eq (h : Hoist) (s : State) :
    recoverStop h s =
      modStation (driveOf h) (fun x => if (s.seq h).phase = .recover then x.ask .stop s.field.instant else x) s :=
  modStation_ite ..

theorem firstPoll_eq (h : Hoist) (s : State) :
    firstPoll h s =
      modStation (driveOf h) (fun x =>
        if ¬ (s.seq h).phase = .disabled then { x with pollDue := some (x.pollDue.getD s.field.instant) } else x) s := by
  rw [firstPoll, ← ite_not, pollFallsDue_eq, modStation_ite]

/-- A drive at the start of the field line: the stop of a hoist in RECOVER, and the first poll of an enabled one. -/
def StationState.driveStarts (p : Phase) (now : Nat) (x : StationState) : StationState :=
  { x with
    trans := none
    pollDue := if p = .disabled then none else some now
    cmds := if p = .recover then [{ cmd := .stop, due := now }] else [] }

theorem driveStarts_eq (p : Phase) (now : Nat) (x : StationState) :
    x.driveStarts p now =
      (let y := if p = .recover then x.idled.ask .stop now else x.idled
       if ¬ p = .disabled then { y with pollDue := some (y.pollDue.getD now) } else y) := by
  cases p <;> rfl

/-- The first transactions of a field line with nothing in progress. -/
theorem stageField_field {f : FieldLine} {s : State} (idle : s.field = f.idled) :
    (stageField s).field =
      { f.idled with
        driveA := f.driveA.driveStarts s.seqA.phase f.instant
        driveB := f.driveB.driveStarts s.seqB.phase f.instant
        skimmer := if s.skimmer.mode = .sweeping then
          { f.skimmer.idled with cmds := [{ cmd := .abort, due := f.instant }] } else f.skimmer.idled
        thermo := { f.thermo.idled with pollDue := some f.instant } } := by
  simp only [stageField, sendCommand, modStation_ite, recoverStop_eq, firstPoll_eq, pollFallsDue_eq, driveStarts_eq]
  simp only [modStation, setStation, State.station, driveOf, State.seq, idle]
  rfl

end Sys2Proof.Machine
end

section
/-! PROOFS. Start-up as a whole: what it makes of the state that a reset has left (R198, R199). -/

namespace Sys2Proof.Machine

/-! ## The end of a start-up -/

/-- A start-up has ended with stage 8, and is overtaken before (R198, R199). -/
def startedTo (k : ResetKind) (n : Nat) (s : State) : State :=
  if n < 8 then overtakenAt n (started k n s) else endEvent (started k n s)

theorem startUp_ends {k : ResetKind} {s : State} (whole : s.overtaking = none) :
    startUp k (endWork s) = startedTo k 8 s := by
  have whole' : (endWork s).overtaking = none := whole
  rw [startUp, whole', startedTo, if_neg (by decide)]
  rfl

theorem startUp_overtaken {k : ResetKind} {s : State} {i : Fin 7} (overtaken : s.overtaking = some i) :
    startUp k (endWork s) = startedTo k (i.val + 1) s := by
  have overtaken' : (endWork s).overtaking = some i := overtaken
  rw [startUp, overtaken', startedTo, if_pos (by omega)]
  rfl

theorem endEvent_bath {s : State} (quiet : s.bath.quiet = false) (settle : s.bath.settle = 0) :
    (endEvent s).bath = s.bath := by
  have settled : (settleKettle s).bath = s.bath := by
    unfold settleKettle
    split
    · change { s.bath with quiet := false, settle := 0 } = s.bath
      rw [← quiet, ← settle]
    · rfl
  simpa [endEvent, Station.all] using settled

section StartedTo
variable (k : ResetKind) (n : Nat) (s : State)

theorem started_bath_settled {n : Nat} (late : ¬ n < 6) :
    (started k n s).bath.quiet = false ∧ (started k n s).bath.settle = 0 := by
  rw [started_bath, if_neg late]
  exact ⟨rfl, rfl⟩

/-- The end of a start-up leaves every part but the module and the field line. -/
theorem startedTo_frame :
    (startedTo k n s).link = (started k n s).link ∧ (startedTo k n s).seqA = (started k n s).seqA ∧
      (startedTo k n s).seqB = (started k n s).seqB ∧ (startedTo k n s).engA = (started k n s).engA ∧
      (startedTo k n s).engB = (started k n s).engB ∧ (startedTo k n s).arbiter = (started k n s).arbiter ∧
      (startedTo k n s).skimmer = (started k n s).skimmer ∧ (startedTo k n s).bath = (started k n s).bath ∧
      (startedTo k n s).window = (started k n s).window ∧ (startedTo k n s).records = (started k n s).records ∧
      (startedTo k n s).balance = (started k n s).balance ∧ (startedTo k n s).capture = (started k n s).capture ∧
      (startedTo k n s).settings = (started k n s).settings ∧ (startedTo k n s).free = (started k n s).free ∧
      (startedTo k n s).pending = (started k n s).pending := by
  unfold startedTo
  split
  · simp [overtakenAt]
  next ended =>
    obtain ⟨quiet, settle⟩ := started_bath_settled k s (n := n) (by omega)
    simp [endEvent_bath quiet settle]

theorem startedTo_seq (h : Hoist) : (startedTo k n s).seq h = (started k n s).seq h := by
  obtain ⟨-, seqA, seqB, -⟩ := startedTo_frame k n s
  exact seq_congr seqA seqB h

theorem startedTo_unit :
    (startedTo k n s).unit = { s.unit with
      restartPending := false, inReset := decide (n < 8), starting := if n < 8 then some n else none,
      lastReset := if 2 ≤ n then k else s.unit.lastReset, overtaken := Config.nextOvertaken s.free } := by
  unfold startedTo
  split
  next early =>
    rw [overtakenAt, started_unit]
    simp only [early, decide_true]
    split <;> rfl
  next ended =>
    rw [(endEvent_frame _).1, started_unit, if_pos (by omega), if_pos (by omega), decide_eq_false ended]
    rfl

/-- Before stage 6 the depth is not yet compared. -/
theorem startUpNotices_early {n : Nat} (early : n < 6) (d e : Option Int) :
    startUpNotices k n d s = startUpNotices k n e s := by
  have : ¬ 6 ≤ n := by omega
  cases d <;> cases e <;> simp [startUpNotices, this]

theorem startedTo_link {n : Nat} (hn : 1 ≤ n) :
    (startedTo k n s).link = (startUpNotices k n (startedTo k n s).bath.hEst s).foldl Link.raise
      (if 2 ≤ n then { s.link with rx := .hunting, buffer := [], reply := none }.setLines
        else { s.link with rx := .hunting, buffer := [], reply := none, lineF := false, lineP := false }) := by
  obtain ⟨link, -, -, -, -, -, -, bath, -⟩ := startedTo_frame k n s
  rw [link, bath, started_bath]
  by_cases one : n = 1
  · subst one
    rw [startUpNotices_early k s (by omega) _ none, startUpNotices_one]
    rfl
  · rw [started_link k s (by omega), if_pos (show 2 ≤ n by omega)]
    by_cases early : n < 6
    · rw [startUpNotices_early k s early]
    · rw [if_neg early]

theorem startedTo_field {n : Nat} (early : n < 8) : (startedTo k n s).field = s.field.idled := by
  rw [startedTo, if_pos early]
  exact started_before (m := 8) (by omega) early (fun _ u => stage_field k u) s

/-- The line begins its first transactions with the end of stage 8. -/
theorem startedTo_eight :
    startedTo k 8 s = endEvent { startedTo k 8 s with field := (started k 8 s).field } := by
  obtain ⟨quiet, settle⟩ := started_bath_settled k s (n := 8) (by omega)
  have whole : { endEvent (started k 8 s) with field := (started k 8 s).field } = started k 8 s := by
    simp only [endEvent_frame, endEvent_bath quiet settle]
  rw [startedTo, if_neg (by omega), whole]

theorem started_eight : started k 8 s = stageField (started k 7 s) := stagesTo_succ k (n := 7) (by omega) (begun s)

theorem started_field_eight :
    (started k 8 s).field =
      { s.field.idled with
        driveA := s.field.driveA.driveStarts (started k 8 s).seqA.phase s.field.instant
        driveB := s.field.driveB.driveStarts (started k 8 s).seqB.phase s.field.instant
        skimmer := { s.field.skimmer.idled with
          cmds := if s.skimmer.outFlag then [] else [{ cmd := .abort, due := s.field.instant }] }
        thermo := { s.field.thermo.idled with pollDue := some s.field.instant } } := by
  have idle : (started k 7 s).field = s.field.idled :=
    started_before (m := 8) (by omega) (by omega) (fun _ u => stage_field k u) s
  rw [started_eight, stageField_field idle, started_skimmer]
  simp only [stageField_frame]
  cases s.skimmer.outFlag <;> rfl

theorem LoadRec.agree_of_some {r : LoadRec} {h : Hoist} (own : r.hoist = some h) (a : SpanArbiter) :
    r.agree a =
      if r.state = .inCycle then { r with span := (a.spanOf (.hoist h)).map (fun p => (p.first, p.last)) } else r := by
  cases state : r.state <;> simp [LoadRec.agree, own, state]

theorem LoadRec.agree_of_none {r : LoadRec} (free : r.hoist = none) (a : SpanArbiter) : r.agree a = r := by
  cases state : r.state <;> simp [LoadRec.agree, free, state]

theorem JigRec.agree_eq (loads : List LoadRec) (j : JigRec) :
    j.agree loads = { j with carriedBy :=
      (loads.find? (fun r => decide (r.state = .inCycle ∧ r.jig = j.number))).map LoadRec.id } := by
  simp only [JigRec.agree, Bool.decide_and]

/-- Start-up meets what R198 says of the whole state. -/
theorem startedTo_reaches {n : Nat} (h1 : 1 ≤ n) (h8 : n ≤ 8) : StartUpReaches k n s (startedTo k n s) := by
  obtain ⟨-, seqA, seqB, engA, engB, arbiter, skimmer, bath, window, records, balance, capture, settings, free, pending⟩ :=
    startedTo_frame k n s
  obtain ⟨engA', engB', window', capture', free', pending'⟩ := started_frame k n s
  constructor
  case unit => exact startedTo_unit k n s
  case link => exact startedTo_link k s h1
  case hoists =>
    intro h
    rw [startedTo_seq, arbiter]
    split
    next r retained =>
      split
      next late => exact started_seq_of_some k n s retained late
      next early => exact started_seq_before k n s (by omega) h
    next alone => exact started_seq_of_none k n s alone
  case engines =>
    intro h
    cases h
    · exact engA.trans engA'
    · exact engB.trans engB'
  case arbiter =>
    rw [arbiter, started_arbiter]
    rfl
  case skimmer => exact skimmer.trans (started_skimmer k n s)
  case bath => exact bath.trans (started_bath k n s)
  case window => exact window.trans window'
  case orders =>
    rw [records, started_records]
    split <;> rfl
  case loads =>
    rw [records, started_records, arbiter]
    by_cases late : 5 ≤ n
    · rw [if_pos late]
      refine List.map_congr_left fun r _ => ?_
      split
      next h own => simp only [LoadRec.agree_of_some own, late, true_and]
      next free => exact LoadRec.agree_of_none free _
    · rw [if_neg late]
      refine ((List.map_congr_left fun r _ => ?_).trans (List.map_id _)).symm
      cases r.hoist <;> simp [late]
  case jigs =>
    rw [records, started_records]
    by_cases late : 5 ≤ n
    · simp only [late, if_true]
      exact List.map_congr_left fun j _ => JigRec.agree_eq ..
    · simp only [late, if_false, List.map_id']
  case balance =>
    rw [balance]
    split
    next p wait => exact started_balance_of_some k n s wait
    next none => exact started_balance_of_none k n s none
  case idle =>
    intro early
    rw [startedTo_field k s early]
    rfl
  case due =>
    rintro rfl
    have ended := startedTo_eight k s
    rw [started_field_eight, ← seqA, ← seqB] at ended
    exact ended
  case capture => exact capture.trans capture'
  case settings => exact settings.trans (started_settings k n s)
  case model => exact ⟨free.trans free', pending.trans pending'⟩

end StartedTo

end Sys2Proof.Machine
end

section
/-! PROOFS. SUPPLY_ON by the check of the retained store (R193, R194, R198). -/

namespace Sys2Proof.Machine

/-! ## Where a start-up is overtaken (R199) -/

theorem endsStartUp_iff (c : Instr) :
    endsStartUp c = true ↔ c = .resetInputAsserted ∨ ∃ cutOff, c = .supplyLost cutOff := by
  cases c <;> simp [endsStartUp]

theorem interruptWaits_iff (s : State) : s.interruptWaits = true ↔ s.interrupted := by
  simp only [State.interruptWaits, List.any_eq_true, endsStartUp_iff, State.interrupted]

theorem overtaking_of_whole {s : State} (whole : ¬ s.interrupted ∨ s.unit.overtaken = none) : s.overtaking = none := by
  rw [← interruptWaits_iff] at whole
  unfold State.overtaking
  split
  next waits => exact whole.resolve_left (not_not.2 waits)
  next => rfl

theorem overtaking_of_interrupted {s : State} {i : Fin 7} (waits : s.interrupted) (drawn : s.unit.overtaken = some i) :
    s.overtaking = some i := by
  rw [State.overtaking, if_pos ((interruptWaits_iff s).2 waits), drawn]

/-! ## The supply reset (R193, R194) -/

/-- A field line of which nothing is known. -/
def FieldLine.fresh : FieldLine :=
  { driveA := StationState.fresh, driveB := StationState.fresh, scaleA := StationState.fresh,
    scaleB := StationState.fresh, skimmer := StationState.fresh, thermo := StationState.fresh,
    level := StationState.fresh, instant := 0, thermoSecs := 0, levelSecs := 0 }

/-- The Plant Link Interface after a supply reset: the straps are read, and what is not retained is empty. -/
def Link.supplied (fast single : Bool) (l : Link) : Link :=
  { l with fastBaud := fast, singleLine := single, notices := [], overrun := false, maskFault := false,
           maskProgress := false, clock := 0 }

/-- What start-up begins from where the check of the store holds. -/
def storeKept (fast single key : Bool) (s : State) : State :=
  { s with
    unit := { s.unit with powered := true }
    link := s.link.supplied fast single
    engA := { weigh := none, last := none }
    engB := { weigh := none, last := none }
    bath := { s.bath with reading := none, hEst := none }
    window := []
    settings := { s.settings with lock := s.settings.lock && !key }
    capture := { record := none, multiple := false }
    field := FieldLine.fresh }

/-- What start-up begins from where the check fails: every retained item at its default. -/
def storeLost (fast single : Bool) (s : State) : State :=
  { State.reset with
    unit := { s.unit with powered := true, checkGood := true, storeLost := true }
    link := s.link.supplied fast single
    seqA := { s.seqA with enabled := true }
    seqB := { s.seqB with enabled := true }
    bath := { s.bath with reading := none, hEst := none }
    field := FieldLine.fresh
    free := s.free
    pending := s.pending }

theorem stageSupply_kept (fast single key : Bool) {s : State} (good : s.unit.checkGood = true) :
    stageSupply fast single key s = endWork (storeKept fast single key s) := by
  have kept : checkStore (supplyReset fast single s) = supplyReset fast single s := if_pos good
  rw [stageSupply, kept]
  cases key with
  | false =>
    have lock : s.settings = { s.settings with lock := s.settings.lock && !false } := by simp
    rw [storeKept, ← lock]
    rfl
  | true =>
    have lock : { s.settings with lock := s.settings.lock && !true } = { s.settings with lock := false } := by simp
    rw [storeKept, lock]
    rfl

theorem stageSupply_lost (fast single key : Bool) {s : State} (bad : s.unit.checkGood = false) :
    stageSupply fast single key s = endWork (storeLost fast single s) := by
  have lost : checkStore (supplyReset fast single s) = loseStore (supplyReset fast single s) :=
    if_neg (by simp [supplyReset, bad])
  rw [stageSupply, lost]
  cases key <;> rfl

/-- The state after reset, but for the straps, the levels of the buttons and the model's own items. -/
def afterLoss (fast single : Bool) (s : State) : State :=
  { State.reset with
    unit := { State.reset.unit with overtaken := Config.nextOvertaken s.free }
    link := { State.reset.link with fastBaud := fast, singleLine := single, lineP := !single }
    seqA := { State.reset.seqA with pressed := s.seqA.pressed }
    seqB := { State.reset.seqB with pressed := s.seqB.pressed }
    free := s.free + 1
    pending := s.pending }

/-- The first transactions of a lost store's start-up, before the line begins one. -/
def FieldLine.lostDue : FieldLine :=
  { FieldLine.fresh with
    driveA := { StationState.fresh with pollDue := some 0 }
    driveB := { StationState.fresh with pollDue := some 0 }
    skimmer := { StationState.fresh with cmds := [{ cmd := .abort, due := 0 }] }
    thermo := { StationState.fresh with pollDue := some 0 } }

/-- A poll that does not wait, or whose condition holds, is not dropped. -/
theorem dropPoll_of {st : Station} {s : State} (h : s.polled st = true ∨ (s.station st).pollDue = none) :
    dropPoll st s = s := by
  unfold dropPoll
  split
  next => rfl
  next away =>
    have none := h.resolve_left away
    have same : { s.station st with pollDue := Option.none } = s.station st := by rw [← none]
    rw [modStation, same]
    cases st <;> rfl

/-- The line begins the start-up abort, before the polls. -/
theorem endEvent_lostDue (fast single : Bool) (s : State) :
    endEvent { afterLoss fast single s with field := FieldLine.lostDue } = afterLoss fast single s := by
  have settled : settleKettle { afterLoss fast single s with field := FieldLine.lostDue } =
      { afterLoss fast single s with field := FieldLine.lostDue } := rfl
  have polls : Station.all.foldl (fun s st => dropPoll st s) { afterLoss fast single s with field := FieldLine.lostDue } =
      { afterLoss fast single s with field := FieldLine.lostDue } := by
    have kept (st : Station) : dropPoll st { afterLoss fast single s with field := FieldLine.lostDue } =
        { afterLoss fast single s with field := FieldLine.lostDue } := by
      refine dropPoll_of ?_
      cases st
      case driveA | driveB | skimmer | thermo => exact .inl rfl
      case scaleA | scaleB | level => exact .inr rfl
    simp only [Station.all, List.foldl_cons, List.foldl_nil, kept]
  have next : arbitrate { afterLoss fast single s with field := FieldLine.lostDue } =
      modStation .skimmer StationState.begin { afterLoss fast single s with field := FieldLine.lostDue } := rfl
  simp only [endEvent]
  rw [settled, polls, next]
  rfl

theorem state_ext {s t : State} (unit : s.unit = t.unit) (link : s.link = t.link) (seq : ∀ h, s.seq h = t.seq h)
    (eng : ∀ h, s.eng h = t.eng h) (arbiter : s.arbiter = t.arbiter) (skimmer : s.skimmer = t.skimmer)
    (bath : s.bath = t.bath) (window : s.window = t.window) (records : s.records = t.records)
    (balance : s.balance = t.balance) (field : s.field = t.field) (capture : s.capture = t.capture)
    (settings : s.settings = t.settings) (free : s.free = t.free) (pending : s.pending = t.pending) : s = t := by
  have seqA : s.seqA = t.seqA := seq .A
  have seqB : s.seqB = t.seqB := seq .B
  have engA : s.engA = t.engA := eng .A
  have engB : s.engB = t.engB := eng .B
  cases s
  cases t
  simp_all only

theorem started_storeLost (fast single : Bool) (s : State) :
    started .supply 8 (storeLost fast single s) = { afterLoss fast single s with field := FieldLine.lostDue } := by
  have seq (h : Hoist) : (started .supply 8 (storeLost fast single s)).seq h = (afterLoss fast single s).seq h := by
    rw [started_seq_of_none _ _ _ rfl]
    cases h <;> rfl
  obtain ⟨engA, engB, window, capture, free, pending⟩ := started_frame .supply 8 (storeLost fast single s)
  refine state_ext (started_unit ..) ?_ seq ?_ (started_arbiter ..) (started_skimmer ..) (started_bath ..) window
    (started_records ..) (started_balance_of_none _ _ _ rfl) ?_ capture (started_settings ..) free pending
  · rw [started_link _ _ (by decide)]
    cases single <;> rfl
  · intro h
    cases h
    · exact engA
    · exact engB
  · have seqA := seq .A
    have seqB := seq .B
    simp only [State.seq] at seqA seqB
    rw [started_field_eight, seqA, seqB]
    rfl

/-- A start-up from a lost store that is not overtaken brings the state after reset, but for those items. -/
theorem startedTo_storeLost (fast single : Bool) (s : State) :
    startedTo .supply 8 (storeLost fast single s) = afterLoss fast single s := by
  rw [startedTo, if_neg (by decide), started_storeLost, endEvent_lostDue]

end Sys2Proof.Machine

open Sys2Proof Sys2Proof.Machine

/-- Settles O14: the supply reset by the check, and the start-up of what it leaves. -/
theorem supplyOnByTheCheckOfTheStore : Obligations.SupplyOnByTheCheckOfTheStore := by
  refine ⟨fun fast single key s u good hu => ?_, fun fast single key s u bad hu => ?_⟩
  · obtain rfl : u = storeKept fast single key s := hu
    have powered :
        exec (.supplyOn fast single key) s = .next (startUp .supply (endWork (storeKept fast single key s))) := by
      rw [← stageSupply_kept fast single key good]
      rfl
    have same : (storeKept fast single key s).overtaking = s.overtaking := rfl
    rw [powered]
    refine ⟨fun whole => ⟨_, rfl, ?_⟩, fun i waits drawn => ⟨_, rfl, ?_⟩⟩
    · rw [startUp_ends (same.trans (overtaking_of_whole whole))]
      exact startedTo_reaches _ _ (by decide) le_rfl
    · rw [startUp_overtaken (same.trans (overtaking_of_interrupted waits drawn))]
      exact startedTo_reaches _ _ (by omega) (by omega)
  · obtain rfl : u = storeLost fast single s := hu
    have powered :
        exec (.supplyOn fast single key) s = .next (startUp .supply (endWork (storeLost fast single s))) := by
      rw [← stageSupply_lost fast single key bad]
      rfl
    have same : (storeLost fast single s).overtaking = s.overtaking := rfl
    rw [powered]
    refine ⟨fun whole => ?_, fun i waits drawn => ⟨_, rfl, ?_⟩⟩
    · rw [startUp_ends (same.trans (overtaking_of_whole whole)), startedTo_storeLost]
      rfl
    · rw [startUp_overtaken (same.trans (overtaking_of_interrupted waits drawn))]
      exact startedTo_reaches _ _ (by omega) (by omega)

end

section
/-! PROOFS. Samples, windows and the weights taken; the report of a poll at the block that asked for it. -/

namespace Sys2Proof.Machine

/-! ## The figures of a window (R99, R102, R103) -/

/-- The spread is the difference of the bounds that the window attains (R99). -/
theorem windowSpread_eq {l : List Int} {hi lo : Int} (hhi : hi ∈ l) (hlo : lo ∈ l)
    (hbounds : ∀ z ∈ l, lo ≤ z ∧ z ≤ hi) : windowSpread l = hi - lo := by
  have greatest : l.max? = some hi := List.max?_eq_some_iff.2 ⟨hhi, fun z hz => (hbounds z hz).2⟩
  have least : l.min? = some lo := List.min?_eq_some_iff.2 ⟨hlo, fun z hz => (hbounds z hz).1⟩
  cases l with
  | nil => cases hhi
  | cons x xs =>
    rw [List.max?_cons', Option.some_inj] at greatest
    rw [List.min?_cons', Option.some_inj] at least
    rw [windowSpread, greatest, least]

theorem clampWeight_snd (v : Int) :
    (clampWeight v).2 = if v < 0 then some .under else if 200000 < v then some .over else none := by
  unfold clampWeight
  split
  next => rfl
  next => split <;> rfl

theorem LoadFlags.withRange_eq (f : LoadFlags) (r : Option RangeFlag) :
    f.withRange r = { f with overRange := f.overRange || decide (r = some .over),
                             underRange := f.underRange || decide (r = some .under) } := by
  rcases r with _ | _ | _ <;> simp [LoadFlags.withRange]

/-- The mean of `n` readings, rounded half up (R99). -/
theorem windowMean_eq {l : List Int} {n : Nat} (hn : l.length = n) :
    windowMean l = (l.sum + ((n / 2 : Nat) : Int)) / (n : Int) := by
  rw [windowMean, floorDiv, hn]

theorem convert_eq {s : State} {h : Hoist} {mean wt : Int}
    (hwt : wt = ((mean - s.scaleZero h) * s.spanFactor h + 32768) / 65536) :
    s.convert h mean =
      (min wt.toNat 200000, if wt < 0 then some .under else if 200000 < wt then some .over else none) := by
  have raw : s.convert h mean = clampWeight wt := by rw [State.convert, rawWeight, floorDiv, hwt]
  rw [raw, ← clampWeight_fst, ← clampWeight_snd]

/-! ## Samples (R97, R99 to R101) -/

section Samples
variable {h : Hoist} {w : Weigh} {s : State} {v : Int}

theorem badSample_weighing (hw : (s.eng h).weigh = some w) :
    badSample h s = setEng h { s.eng h with weigh := some { w with window := [], bad := w.bad + 1 } } s := by
  simp only [badSample, hw]

theorem goodSample_filling (hw : (s.eng h).weigh = some w) (hlt : w.window.length + 1 < w.size) :
    goodSample h v s = (setEng h { s.eng h with weigh := some { w with window := w.window ++ [v] } } s, none) := by
  have filling : (w.window ++ [v]).length < w.size := by simpa using hlt
  simp only [goodSample, hw, if_pos filling]

/-- A complete window is judged by its spread against the band (R100, R101). -/
theorem goodSample_complete {mean spread : Int} {wt : Nat × Option RangeFlag} {last : LastWindow}
    (hw : (s.eng h).weigh = some w) (hfull : w.window.length + 1 = w.size)
    (hmean : windowMean (w.window ++ [v]) = mean) (hspread : windowSpread (w.window ++ [v]) = spread)
    (hwt : s.convert h mean = wt)
    (hlast : last = { kind := w.kind, size := w.size, mean := mean, spread := spread,
                      stable := decide (spread ≤ w.band), weight := wt.1, range := wt.2, time := s.link.clock }) :
    goodSample h v s =
      if spread ≤ w.band then (setEng h { weigh := none, last := some last } s, some (w.kind, wt))
      else
        (setEng h
          { weigh := some { w with
              window := []
              best := some (betterWindow w.best { mean := mean, spread := spread, time := s.link.clock })
              completed := w.completed + 1 }
            last := some last } s, none) := by
  have full : ¬ (w.window ++ [v]).length < w.size := by simp [hfull]
  simp only [goodSample, hw, if_neg full, hmean, hspread, hwt, decide_eq_true_eq, hlast, State.clock]

/-- A sample reaches the engine alone: what the weight is taken into stands as it did. -/
theorem goodSample_keeps {s' : State} {o : Option (WeighKind × Nat × Option RangeFlag)}
    (hg : goodSample h v s = (s', o)) :
    s'.seq h = s.seq h ∧ s'.arbiter = s.arbiter ∧ s'.link = s.link ∧ s'.records = s.records ∧
      s'.settings = s.settings := by
  have hs' : s' = (goodSample h v s).1 := by rw [hg]
  subst hs'
  exact ⟨seq_congr (by simp) (by simp) h, by simp, by simp, by simp, by simp⟩

end Samples

/-! ## Weights taken (R8, R20, R50, R130) -/

section Taken
variable {h : Hoist} {w id : Nat} {rg : Option RangeFlag} {s : State}

/-- The weight of a weigh-in is W_in, and the hoist's claim joins the queue, tried at once where that was empty (R8,
R50). -/
theorem weighInStable_weighIn {r : LoadRec} (hp : (s.seq h).phase = .weighIn) (hl : (s.seq h).load = some id)
    (hr : s.records.loads.find? (fun r => r.id == id) = some r) {u : State}
    (hu : u = setSeq h { s.seq h with phase := .awaitSpan }
      (withClaim h r.zones (withLoad id (fun l => { l with wIn := some w, flags := l.flags.withRange rg }) s))) :
    weighInStable h w rg s = if s.arbiter.queue = [] then placeClaims u else u := by
  have hzones : ((setSeq h (s.seq h)
      (withLoad id (fun l => { l with wIn := some w, flags := l.flags.withRange rg }) s)).carried h).map
        LoadRec.zones = some r.zones := by
    rw [carried_setSeq (by rw [seq_withLoad]), carried_eq (by rw [seq_withLoad, hl])]
    exact zones_withLoad (fun _ => rfl) (fun _ => rfl) hr
  have written := modCarried_setSeq (h := h) hl
    (fun l => { l with wIn := some w, flags := l.flags.withRange rg }) s
  rw [setSeq_seq] at written
  rw [weighInStable, if_pos hp, written, enterAwaitSpan_setSeq hzones, hu]
  rfl

theorem weighInStable_elsewhere (hp : (s.seq h).phase ≠ .weighIn) : weighInStable h w rg s = s := by
  rw [weighInStable, if_neg hp]

/-- The weight of a weigh-out is W_out, but for a load already posted, and the load is posted (R20, R130). -/
theorem weighOutWith_weighOut (hp : (s.seq h).phase = .weighOut) (hl : (s.seq h).load = some id) :
    weighOutWith h w rg false s = finishDip h
      (withLoad id (fun l => if l.postingTime.isSome then l
        else { l with wOut := some w, flags := l.flags.withRange rg }) s) := by
  have settled (f : LoadFlags) : { f.withRange rg with unsettled := f.unsettled || false } = f.withRange rg := by
    rw [Bool.or_false, LoadFlags.withRange_eq]
  rw [weighOutWith, if_pos hp, recordOut, modCarried_eq hl]
  simp only [settled]

theorem weighOutWith_elsewhere (hp : (s.seq h).phase ≠ .weighOut) (unsettled : Bool) :
    weighOutWith h w rg unsettled s = s := by
  rw [weighOutWith, if_neg hp]

theorem scaleReading_unjudged {v : Int} {s' : State} (hg : goodSample h v s = (s', none)) :
    scaleReading h v s = s' := by
  rw [scaleReading, hg]

theorem scaleReading_weighIn {v : Int} {s' : State} (hg : goodSample h v s = (s', some (.weighIn, w, rg))) :
    scaleReading h v s = weighInStable h w rg s' := by
  rw [scaleReading, hg]

theorem scaleReading_weighOut {v : Int} {s' : State} (hg : goodSample h v s = (s', some (.weighOut, w, rg))) :
    scaleReading h v s = weighOutWith h w rg false s' := by
  rw [scaleReading, hg]

end Taken

/-! ## Reports at their owners (R158) -/

theorem deliverReport_drive (h : Hoist) (l y : Int) (rest : Bool) (s : State) :
    deliverReport (driveOf h) (.drive l y rest) s = driveReport h l y rest s := by
  cases h <;> rfl

/-- A scale's report at its engine, and the trials of R85 where a posting has changed the depth (log entry 20). -/
theorem deliverReport_scale (h : Hoist) (x : Int) (s : State) :
    deliverReport (scaleOf h) (.scale x) s = withTrials s (scaleReading h x s) := by
  cases h <;> exact withDepthTrials_eq _ s

end Sys2Proof.Machine

open Sys2Proof Sys2Proof.Machine

/-- Settles O51: a window by its length and its spread, a weight by its kind and the phase, a report by its station. -/
theorem samplesFillAndJudgeTheWindow : Obligations.SamplesFillAndJudgeTheWindow := by
  refine ⟨fun h w s v hw => ⟨badSample_weighing hw, goodSample_filling hw,
      fun mean spread wt rg last hfull _ hmean hbounds hwt hrg hlast => ?_⟩,
    fun h v id w rg s s' r f hl hr hf => ?_,
    fun h s => ⟨fun l y rest => deliverReport_drive h l y rest s, fun x => deliverReport_scale h x s, rfl, rfl,
      fun _ _ _ _ => rfl, fun d => withDepthTrials_eq _ s⟩⟩
  · obtain ⟨hi, hhi, lo, hlo, hbetween, hdiff⟩ := hbounds
    have hspread : windowSpread (w.window ++ [v]) = spread := by rw [windowSpread_eq hhi hlo hbetween, hdiff]
    have hwindow : windowMean (w.window ++ [v]) = mean := by
      rw [hmean]
      exact windowMean_eq (by simp [hfull])
    have hweight : s.convert h mean = (min wt.toNat 200000, rg) := by rw [hrg, convert_eq hwt]
    have judged := goodSample_complete hw hfull hwindow hspread hweight hlast
    refine ⟨fun stable => by rw [judged, if_pos stable], fun unstable =>
      ⟨_, by rw [judged, if_neg (by omega)], fun hbest => ?_, fun o hbest => ?_⟩⟩
    · rw [hbest, betterWindow]
    · rw [hbest, betterWindow]
  · have hranged (b : LoadFlags) : f b = b.withRange rg := by rw [hf, LoadFlags.withRange_eq]
    refine ⟨scaleReading_unjudged, fun u hg hu => ?_, fun hg => ?_⟩
    · obtain ⟨hseq, harbiter, hlink, hrecords, -⟩ := goodSample_keeps hg
      rw [scaleReading_weighIn hg, ← hseq, ← harbiter]
      rw [← hseq] at hl
      rw [← hrecords] at hr
      have hu : u = setSeq h { s'.seq h with phase := .awaitSpan }
          (withClaim h r.zones
            (withLoad id (fun l => { l with wIn := some w, flags := l.flags.withRange rg }) s')) := by
        rw [hu, ← hseq, ← harbiter, ← hlink]
        simp only [hranged]
        rfl
      refine ⟨fun hp hqueue => ?_, fun hp hqueue => ?_, weighInStable_elsewhere⟩
      · rw [weighInStable_weighIn hp hl hr hu, if_neg hqueue]
      · rw [weighInStable_weighIn hp hl hr hu, if_pos hqueue]
    · obtain ⟨hseq, -, -, -, hsettings⟩ := goodSample_keeps hg
      rw [scaleReading_weighOut hg, ← hseq]
      refine ⟨fun hp => weighOutWith_elsewhere hp false, fun x y pc hp hx hpc hle hy hfar => ?_⟩
      rw [weighOutWith_weighOut hp (hseq ▸ hl)]
      simp only [hranged]
      have hstation (g : LoadRec → LoadRec) : (withLoad id g s').stationPosition h = s.stationPosition h := by
        cases h <;> exact setting_congr hsettings _
      exact finishDip_far (by rwa [seq_withLoad]) (by rwa [seq_withLoad]) hle (by rwa [seq_withLoad])
        (by rwa [hstation])

end

section
/-! PROOFS. The tables and the carried loads: what their laws read of a state, and which operations leave it as it is
(R3, R22, R112). -/

namespace Sys2Proof.Machine

/-! ## What the laws of the tables and of the carried loads read -/

/-- IDLE and DISABLED, in which a hoist carries no load. -/
def Phase.atRest : Phase → Bool
  | .idle | .disabled => true
  | _ => false

theorem Phase.atRest_iff (p : Phase) : p.atRest = true ↔ p ∈ [Phase.idle, .disabled] := by
  cases p <;> decide

/-- What they read of a hoist: its phase, its held phase, its load, and whether a motion is in flight. -/
structure CarryStage where
  phase : Phase
  held : Option Phase
  load : Option Nat
  moves : Bool

def Sequencer.carryStage (q : Sequencer) : CarryStage :=
  { phase := q.phase, held := q.heldPhase, load := q.load, moves := q.motion.isSome }

/-- The keys of the three tables (R112). -/
structure TableKeys where
  orders : List Nat
  loads : List Nat
  jigs : List Nat

def Records.keys (r : Records) : TableKeys :=
  { orders := r.orders.map OrderRec.number, loads := r.loads.map LoadRec.id, jigs := r.jigs.map JigRec.number }

/-- The loads IN_CYCLE, each with the hoist that its record names. -/
def Records.inCycle (r : Records) : List (Nat × Option Hoist) :=
  (r.loads.filter (fun l => decide (l.state = .inCycle))).map (fun l => (l.id, l.hoist))

/-- What they read of a state. -/
structure CarryView where
  stage : Hoist → CarryStage
  keys : TableKeys
  inCycle : List (Nat × Option Hoist)
  working : Bool

def State.carryView (s : State) : CarryView :=
  { stage := fun h => (s.seq h).carryStage, keys := s.records.keys, inCycle := s.records.inCycle, working := s.active }

theorem carryView_stage (s : State) (h : Hoist) : s.carryView.stage h = (s.seq h).carryStage := rfl

/-! ## The laws as laws of the view -/

/-- R112 of the keys. -/
def TableKeys.Lawful (k : TableKeys) : Prop :=
  k.orders.length ≤ 32 ∧ k.loads.length ≤ 48 ∧ k.jigs.length ≤ 64 ∧ k.orders.Nodup ∧ k.loads.Nodup ∧ k.jigs.Nodup

theorem tablesLawful_iff (s : State) : s.tablesLawful ↔ s.records.keys.Lawful := by
  simp [State.tablesLawful, TableKeys.Lawful, Records.keys]

/-- A hoist carries a load exactly at work, moves only then, and is never held in a phase of rest (R3, R22). -/
structure CarryStage.Sound (x : CarryStage) : Prop where
  load : x.load = none ↔ x.phase.atRest = true
  moves : x.phase.atRest = true → x.moves = false
  held : ∀ p, x.held = some p → p.atRest = false

/-- The law of the carried loads, each load IN_CYCLE standing once (R3, R21, R118). -/
structure CarryView.Lawful (v : CarryView) : Prop where
  hoisted : ∀ e ∈ v.inCycle, e.2 ≠ none
  alone : ∀ e ∈ v.inCycle, ∀ d ∈ v.inCycle, e.2 = d.2 → e.1 = d.1
  single : ∀ e ∈ v.inCycle, ∀ d ∈ v.inCycle, e.1 = d.1 → e = d
  sound : v.working = true → ∀ h, (v.stage h).Sound
  carried : v.working = true → ∀ h id, (id, some h) ∈ v.inCycle ↔ (v.stage h).load = some id

theorem Records.mem_inCycle {r : Records} {e : Nat × Option Hoist} :
    e ∈ r.inCycle ↔ ∃ l ∈ r.loads, l.state = .inCycle ∧ l.id = e.1 ∧ l.hoist = e.2 := by
  simp [Records.inCycle, Prod.ext_iff, and_assoc]

theorem Sequencer.carryStage_sound_iff (q : Sequencer) :
    q.carryStage.Sound ↔
      (q.load = none ↔ q.phase ∈ [Phase.idle, .disabled]) ∧ (q.phase ∈ [Phase.idle, .disabled] → q.motion = none) ∧
        q.heldPhase ≠ some .idle ∧ q.heldPhase ≠ some .disabled := by
  have held : (∀ p, q.heldPhase = some p → p.atRest = false) ↔
      q.heldPhase ≠ some .idle ∧ q.heldPhase ≠ some .disabled := by
    cases q.heldPhase with
    | none => simp
    | some p => cases p <;> simp [Phase.atRest]
  rw [← held, ← Phase.atRest_iff]
  constructor
  · rintro ⟨load, moves, held⟩
    exact ⟨load, fun hp => by simpa [Sequencer.carryStage] using moves hp, held⟩
  · rintro ⟨load, moves, held⟩
    exact ⟨load, fun hp => by simp [Sequencer.carryStage, moves hp], held⟩

theorem carryLawful_iff {s : State} (tables : s.tablesLawful) : s.carryLawful ↔ s.carryView.Lawful := by
  obtain ⟨-, -, -, -, ids, -⟩ := tables
  have mem (l : LoadRec) : l ∈ s.records.loads → l.state = .inCycle → (l.id, l.hoist) ∈ s.carryView.inCycle :=
    fun hl hs => Records.mem_inCycle.2 ⟨l, hl, hs, rfl, rfl⟩
  constructor
  · rintro ⟨hoisted, alone, hoists⟩
    have each (h : Hoist) (working : s.active = true) := hoists working h (by cases h <;> simp)
    refine ⟨fun e he => ?_, fun e he d hd same => ?_, fun e he d hd same => ?_, fun working h => ?_,
      fun working h id => ⟨fun he => ?_, fun hload => ?_⟩⟩
    · obtain ⟨l, hl, cycle, -, hh⟩ := Records.mem_inCycle.1 he
      exact hh ▸ hoisted l hl cycle
    · obtain ⟨l, hl, cycle, hid, hh⟩ := Records.mem_inCycle.1 he
      obtain ⟨k, hk, cycle', hid', hh'⟩ := Records.mem_inCycle.1 hd
      rw [← hid, ← hid']
      exact alone l hl k hk cycle cycle' (by rw [hh, hh', same])
    · obtain ⟨l, hl, -, hid, hh⟩ := Records.mem_inCycle.1 he
      obtain ⟨k, hk, -, hid', hh'⟩ := Records.mem_inCycle.1 hd
      obtain rfl : l = k := List.inj_on_of_nodup_map ids hl hk (by rw [hid, hid', same])
      exact Prod.ext same (hh.symm.trans hh')
    · obtain ⟨load, moves, idle, disabled, -, -⟩ := each h working
      exact (Sequencer.carryStage_sound_iff _).2 ⟨load, moves, idle, disabled⟩
    · obtain ⟨-, -, -, -, names, -⟩ := each h working
      obtain ⟨l, hl, cycle, rfl, hh⟩ := Records.mem_inCycle.1 he
      exact names l hl cycle hh
    · obtain ⟨-, -, -, -, -, record⟩ := each h working
      obtain ⟨l, hl, hid, cycle, hh⟩ := record id (Option.mem_toList.2 hload)
      exact Records.mem_inCycle.2 ⟨l, hl, cycle, hid, hh⟩
  · rintro ⟨hoisted, alone, -, sound, carried⟩
    refine ⟨fun l hl cycle => hoisted _ (mem l hl cycle), fun l hl k hk cycle cycle' same =>
      alone _ (mem l hl cycle) _ (mem k hk cycle') same, fun working h _ => ?_⟩
    obtain ⟨load, moves, idle, disabled⟩ := (Sequencer.carryStage_sound_iff _).1 (sound working h)
    refine ⟨load, moves, idle, disabled, fun l hl cycle hh => ?_, fun id hid => ?_⟩
    · exact (carried working h l.id).1 (hh ▸ mem l hl cycle)
    · obtain ⟨l, hl, cycle, hid, hh⟩ := Records.mem_inCycle.1 ((carried working h id).2 (Option.mem_toList.1 hid))
      exact ⟨l, hl, hid, cycle, hh⟩

end Sys2Proof.Machine
end

section
/-! PROOFS. The tables and the carried loads: the operations that leave what the laws read as it is. -/

namespace Sys2Proof.Machine

/-! ## Equal views -/

theorem carryView_congr {s t : State} (hu : t.unit = s.unit) (hA : t.seqA.carryStage = s.seqA.carryStage)
    (hB : t.seqB.carryStage = s.seqB.carryStage) (keys : t.records.keys = s.records.keys)
    (inCycle : t.records.inCycle = s.records.inCycle) : t.carryView = s.carryView := by
  have stage : (fun h => (t.seq h).carryStage) = fun h => (s.seq h).carryStage := by
    funext h
    cases h <;> assumption
  simp only [State.carryView, State.active, hu, stage, keys, inCycle]

/-- Changes of the records of a table that leave their keys. -/
theorem map_map_key {α β : Type} {key : α → β} {f : α → α} (hf : ∀ x, key (f x) = key x) (l : List α) :
    (l.map f).map key = l.map key := by
  rw [List.map_map]
  exact List.map_congr_left fun x _ => hf x

/-- Changes of load records that leave what is read of them. -/
theorem inCycle_map {f : LoadRec → LoadRec} (hi : ∀ r, (f r).id = r.id) (hs : ∀ r, (f r).state = r.state)
    (hh : ∀ r, (f r).hoist = r.hoist) (r : Records) :
    Records.inCycle { r with loads := r.loads.map f } = r.inCycle := by
  simp [Records.inCycle, List.filter_map, Function.comp_def, hi, hs, hh]

@[simp] theorem carryView_modOrder {n : Nat} {f : OrderRec → OrderRec} (hf : ∀ o, (f o).number = o.number) (s : State) :
    (modOrder n f s).carryView = s.carryView := by
  refine carryView_congr (by simp) (by simp) (by simp) ?_ rfl
  simp only [modOrder, Records.keys]
  rw [map_map_key]
  intro o
  split <;> simp [hf]

@[simp] theorem carryView_modJig {n : Nat} {f : JigRec → JigRec} (hf : ∀ j, (f j).number = j.number) (s : State) :
    (modJig n f s).carryView = s.carryView := by
  refine carryView_congr (by simp) (by simp) (by simp) ?_ rfl
  simp only [modJig, Records.keys]
  rw [map_map_key]
  intro j
  split <;> simp [hf]

@[simp] theorem carryView_freeJig (id : Nat) (s : State) : (freeJig id s).carryView = s.carryView := by
  refine carryView_congr rfl rfl rfl ?_ rfl
  simp only [freeJig, Records.keys]
  rw [map_map_key]
  intro j
  split <;> rfl

@[simp] theorem carryView_modLoad_of {f : LoadRec → LoadRec} (hi : ∀ r, (f r).id = r.id)
    (hs : ∀ r, (f r).state = r.state) (hh : ∀ r, (f r).hoist = r.hoist) (id : Nat) (s : State) :
    (modLoad id f s).carryView = s.carryView := by
  refine carryView_congr (by simp) (by simp) (by simp) ?_ (inCycle_map ?_ ?_ ?_ _)
  · simp only [modLoad, Records.keys]
    rw [map_map_key]
    intro r
    split <;> simp [hi]
  all_goals
    intro r
    split <;> simp [hi, hs, hh]

@[simp] theorem carryView_modCarried_of {f : LoadRec → LoadRec} (hi : ∀ r, (f r).id = r.id)
    (hs : ∀ r, (f r).state = r.state) (hh : ∀ r, (f r).hoist = r.hoist) (h : Hoist) (s : State) :
    (modCarried h f s).carryView = s.carryView := by
  unfold modCarried
  split
  · exact carryView_modLoad_of hi hs hh _ s
  · rfl

@[simp] theorem carryView_recordOut {f : LoadRec → LoadRec} (hi : ∀ r, (f r).id = r.id)
    (hs : ∀ r, (f r).state = r.state) (hh : ∀ r, (f r).hoist = r.hoist) (h : Hoist) (s : State) :
    (recordOut h f s).carryView = s.carryView := by
  refine carryView_modCarried_of (fun r => ?_) (fun r => ?_) (fun r => ?_) h s <;> split <;> simp [hi, hs, hh]

theorem seq_setSeq_of_ne {h k : Hoist} (hk : k ≠ h) (q : Sequencer) (s : State) : (setSeq h q s).seq k = s.seq k := by
  obtain rfl : k = h.other := by cases h <;> cases k <;> simp_all [Hoist.other]
  exact seq_setSeq_other h q s

theorem carryView_setSeq {h : Hoist} {q : Sequencer} {s : State} (hq : q.carryStage = (s.seq h).carryStage) :
    (setSeq h q s).carryView = s.carryView := by
  cases h
  · exact carryView_congr rfl hq rfl rfl rfl
  · exact carryView_congr rfl rfl hq rfl rfl

/-- A change of other items of a hoist. -/
@[simp] theorem carryView_modSeq_of {f : Sequencer → Sequencer} (hp : ∀ q, (f q).phase = q.phase)
    (hh : ∀ q, (f q).heldPhase = q.heldPhase) (hl : ∀ q, (f q).load = q.load) (hm : ∀ q, (f q).motion = q.motion)
    (h : Hoist) (s : State) : (modSeq h f s).carryView = s.carryView :=
  carryView_setSeq (by simp only [Sequencer.carryStage, hp, hh, hl, hm])

/-! ## Operations that leave the view as it is -/

/-- The operations that write neither a hoist's items nor a record. -/
@[simp] theorem carryView_leaves (s : State) :
    (∀ k ho l a b, (raise k ho l a b s).carryView = s.carryView) ∧
    (∀ h k a b, (raiseFor h k a b s).carryView = s.carryView) ∧
    (∀ st c, (sendCommand st c s).carryView = s.carryView) ∧ (∀ st f, (modStation st f s).carryView = s.carryView) ∧
    (∀ st, (pollFallsDue st s).carryView = s.carryView) ∧ ((startSweep s).carryView = s.carryView) ∧
    (∀ h k, (startWeigh h k s).carryView = s.carryView) ∧ (∀ h, (stopWeigh h s).carryView = s.carryView) ∧
    (∀ h, (badSample h s).carryView = s.carryView) ∧ (∀ h x, (goodSample h x s).1.carryView = s.carryView) ∧
    (∀ h, (withdrawSkim h s).carryView = s.carryView) ∧
    (∀ k n a b, (noteSaturation k n a b s).carryView = s.carryView) ∧
    (∀ f, (changeBalance f s).carryView = s.carryView) ∧ ((refreshDepth s).carryView = s.carryView) ∧
    ((compareLevel s).carryView = s.carryView) ∧ (∀ o, (endRecon o s).carryView = s.carryView) ∧
    (∀ r, (capture r s).carryView = s.carryView) ∧ (∀ h, (weighInPasses h s).carryView = s.carryView) ∧
    (∀ d, (levelAnswer d s).carryView = s.carryView) ∧ ((fallQuiet s).carryView = s.carryView) ∧
    (∀ c, (skimmerTook c s).carryView = s.carryView) ∧ (∀ st, (duePoll st s).carryView = s.carryView) ∧
    (∀ st, (dueRetry st s).carryView = s.carryView) ∧ ((endEvent s).carryView = s.carryView) := by
  and_intros <;> intros <;> refine carryView_congr ?_ ?_ ?_ ?_ ?_ <;> simp

theorem carryView_raise (k : NoticeKind) (ho : Option Hoist) (l : Option Nat) (a b : Option Int) (s : State) :
    (raise k ho l a b s).carryView = s.carryView := by simp

theorem carryView_sendCommand (st : Station) (c : Command) (s : State) :
    (sendCommand st c s).carryView = s.carryView := by simp

theorem carryView_pollFallsDue (st : Station) (s : State) : (pollFallsDue st s).carryView = s.carryView := by simp

theorem carryView_startSweep (s : State) : (startSweep s).carryView = s.carryView := by simp

theorem carryView_startWeigh (h : Hoist) (k : WeighKind) (s : State) : (startWeigh h k s).carryView = s.carryView := by
  simp

theorem carryView_stopWeigh (h : Hoist) (s : State) : (stopWeigh h s).carryView = s.carryView := by simp

theorem carryView_endEvent (s : State) : (endEvent s).carryView = s.carryView := by simp

section Fields
variable (s : State)

@[simp] theorem carryView_skimmer (k : Skimmer) : State.carryView { s with skimmer := k } = s.carryView := rfl

@[simp] theorem carryView_window (w : List WindowEntry) : State.carryView { s with window := w } = s.carryView := rfl

@[simp] theorem carryView_free (n : Nat) : State.carryView { s with free := n } = s.carryView := rfl

@[simp] theorem carryView_arbiter (a : SpanArbiter) : State.carryView { s with arbiter := a } = s.carryView := rfl

end Fields

section Hoists
variable (h : Hoist) (s : State)

@[simp] theorem carryView_markMissed : (markMissed h s).carryView = s.carryView := by
  unfold markMissed
  dsimp only
  split <;> simp

@[simp] theorem carryView_requestSkim (due : Nat) : (requestSkim h due s).carryView = s.carryView := by
  unfold requestSkim
  dsimp only
  split
  · simp
  · rw [carryView_startSweep, carryView_skimmer]
    simp

@[simp] theorem carryView_sendSkimAtLead : (sendSkimAtLead h s).carryView = s.carryView := by
  unfold sendSkimAtLead
  split <;> simp

@[simp] theorem carryView_notifyCauses (l : List AdmitCause) : (l.foldl (notifyCause h) s).carryView = s.carryView := by
  induction l generalizing s with
  | nil => rfl
  | cons c l ih =>
    rw [List.foldl_cons, ih]
    unfold notifyCause
    split <;> simp

@[simp] theorem carryView_compareOverdip : (compareOverdip h s).carryView = s.carryView := by
  unfold compareOverdip exceedOverdip
  split <;> simp

@[simp] theorem carryView_stopOverdip : (stopOverdip h s).carryView = s.carryView := by
  unfold stopOverdip writeOverdip
  split <;> simp

@[simp] theorem carryView_startOverdip : (startOverdip h s).carryView = s.carryView := by
  simp [startOverdip]

@[simp] theorem carryView_releaseButton : (releaseButton h s).carryView = s.carryView := by
  simp [releaseButton]

@[simp] theorem carryView_holdLevel (b : Bool) : (holdLevel h b s).carryView = s.carryView := by
  simp [holdLevel]

@[simp] theorem carryView_markLate : (markLate h s).carryView = s.carryView := by
  unfold markLate
  split <;> simp

@[simp] theorem carryView_lateOverdue : (lateOverdue h s).carryView = s.carryView := by
  unfold lateOverdue
  split <;> simp

@[simp] theorem carryView_post : (post h s).carryView = s.carryView := by
  unfold post
  dsimp only
  (repeat' split) <;> simp [LoadRec.post, OrderRec.post, JigRec.post]

@[simp] theorem carryView_countSecond : (countSecond s).carryView = s.carryView := by
  have second (q : Sequencer) : q.second.carryStage = q.carryStage := by
    simp [Sequencer.second, Sequencer.carryStage]
  exact carryView_congr rfl (second _) (second _) rfl rfl

end Hoists

end Sys2Proof.Machine
end

section
/-! PROOFS. The carried loads: a hoist that stays at work with its load, and the end of a dip (R3, R21). -/

namespace Sys2Proof.Machine

/-! ## A hoist at work with its load -/

/-- In `t` hoist `h` is at work with the load that it has in `s`, and nothing else that the laws read has changed. -/
structure Bears (h : Hoist) (s t : State) : Prop where
  others : ∀ k, k ≠ h → (t.seq k).carryStage = (s.seq k).carryStage
  load : (t.seq h).load = (s.seq h).load
  works : (t.seq h).phase.atRest = false
  held : (∀ p, (s.seq h).heldPhase = some p → p.atRest = false) → ∀ p, (t.seq h).heldPhase = some p → p.atRest = false
  keys : t.records.keys = s.records.keys
  inCycle : t.records.inCycle = s.records.inCycle
  active : t.active = s.active

theorem carryStage_congr {s t : State} (ht : t.carryView = s.carryView) (h : Hoist) :
    (t.seq h).carryStage = (s.seq h).carryStage :=
  congrFun (congrArg CarryView.stage ht) h

theorem phase_congr {s t : State} (ht : t.carryView = s.carryView) (h : Hoist) : (t.seq h).phase = (s.seq h).phase :=
  congrArg CarryStage.phase (carryStage_congr ht h)

section Bears
variable {h : Hoist} {s t u : State}

theorem Bears.trans (ha : Bears h s t) (hb : Bears h t u) : Bears h s u where
  others k hk := (hb.others k hk).trans (ha.others k hk)
  load := hb.load.trans ha.load
  works := hb.works
  held hs := hb.held (ha.held hs)
  keys := hb.keys.trans ha.keys
  inCycle := hb.inCycle.trans ha.inCycle
  active := hb.active.trans ha.active

/-- A hoist at work bears its load through what leaves the view. -/
theorem Bears.of_view (works : (s.seq h).phase.atRest = false) (ht : t.carryView = s.carryView) : Bears h s t where
  others k _ := carryStage_congr ht k
  load := congrArg CarryStage.load (carryStage_congr ht h)
  works := by rw [phase_congr ht, works]
  held hs p hp := hs p ((congrArg CarryStage.held (carryStage_congr ht h)).symm.trans hp)
  keys := congrArg CarryView.keys ht
  inCycle := congrArg CarryView.inCycle ht
  active := congrArg CarryView.working ht

theorem Bears.still (ht : Bears h s t) (hu : u.carryView = t.carryView) : Bears h s u :=
  ht.trans (.of_view ht.works hu)

theorem Bears.after (hu : u.carryView = s.carryView) (ht : Bears h u t) : Bears h s t where
  others k hk := (ht.others k hk).trans (carryStage_congr hu k)
  load := ht.load.trans (congrArg CarryStage.load (carryStage_congr hu h))
  works := ht.works
  held hs := ht.held fun p hp => hs p ((congrArg CarryStage.held (carryStage_congr hu h)).symm.trans hp)
  keys := ht.keys.trans (congrArg CarryView.keys hu)
  inCycle := ht.inCycle.trans (congrArg CarryView.inCycle hu)
  active := ht.active.trans (congrArg CarryView.working hu)

theorem bears_setSeq {q : Sequencer} (works : q.phase.atRest = false) (load : q.load = (s.seq h).load)
    (held : (∀ p, (s.seq h).heldPhase = some p → p.atRest = false) → ∀ p, q.heldPhase = some p → p.atRest = false) :
    Bears h s (setSeq h q s) where
  others k hk := by rw [seq_setSeq_of_ne hk]
  load := by rw [seq_setSeq, load]
  works := by rw [seq_setSeq, works]
  held := by rwa [seq_setSeq]
  keys := by simp
  inCycle := by simp
  active := by simp [State.active]

/-- The hoist passes to a phase of work, its held phase standing. -/
theorem bears_modSeq {f : Sequencer → Sequencer} (works : (f (s.seq h)).phase.atRest = false)
    (load : (f (s.seq h)).load = (s.seq h).load) (held : (f (s.seq h)).heldPhase = (s.seq h).heldPhase) :
    Bears h s (modSeq h f s) :=
  bears_setSeq works load (by rw [held]; exact id)

theorem bears_setPhase {p : Phase} (works : p.atRest = false) : Bears h s (setPhase h p s) :=
  bears_modSeq works rfl rfl

/-- The hoist passes to a phase of work, held in one or in none. -/
theorem bears_hold {f : Sequencer → Sequencer} (works : (f (s.seq h)).phase.atRest = false)
    (load : (f (s.seq h)).load = (s.seq h).load) (held : ∀ p, (f (s.seq h)).heldPhase = some p → p.atRest = false) :
    Bears h s (modSeq h f s) :=
  bears_setSeq works load fun _ => held

end Bears

/-! ## What keeps the keys and the law -/

/-- The keys stand, and the law of the carried loads is kept. -/
def Carries (s t : State) : Prop :=
  t.records.keys = s.records.keys ∧ (s.carryView.Lawful → t.carryView.Lawful)

section Carries
variable {h : Hoist} {s t u : State}

theorem Carries.trans (ha : Carries s t) (hb : Carries t u) : Carries s u :=
  ⟨hb.1.trans ha.1, hb.2 ∘ ha.2⟩

theorem Carries.of_view (ht : t.carryView = s.carryView) : Carries s t :=
  ⟨congrArg CarryView.keys ht, fun hs => by rwa [ht]⟩

@[refl] theorem Carries.refl (s : State) : Carries s s := .of_view rfl

theorem Carries.after (hu : u.carryView = s.carryView) (ht : Carries u t) : Carries s t :=
  (Carries.of_view hu).trans ht

theorem Carries.still (ht : Carries s t) (hu : u.carryView = t.carryView) : Carries s u :=
  ht.trans (.of_view hu)

theorem Carries.ended (ht : Carries s t) : Carries s (endEvent t) :=
  ht.still (carryView_endEvent t)

theorem Carries.ite {p : Prop} [Decidable p] (ht : p → Carries s t) (hu : ¬ p → Carries s u) :
    Carries s (if p then t else u) := by
  split
  · exact ht ‹_›
  · exact hu ‹_›

theorem Carries.when {p : Prop} [Decidable p] (ht : p → Carries s t) : Carries s (if p then t else s) :=
  .ite ht fun _ => .refl s

/-- The law stands where the loads IN_CYCLE are the same, and each hoist at its stage carries the same load. -/
theorem Carries.of_stages (keys : t.records.keys = s.records.keys) (inCycle : t.records.inCycle = s.records.inCycle)
    (active : t.active = s.active)
    (stages : s.carryView.Lawful → s.active = true →
      ∀ k, (t.seq k).carryStage.Sound ∧ (t.seq k).load = (s.seq k).load) : Carries s t := by
  refine ⟨keys, fun hs => ?_⟩
  have same : t.carryView.inCycle = s.carryView.inCycle := inCycle
  refine ⟨same ▸ hs.hoisted, same ▸ hs.alone, same ▸ hs.single, fun ha k => ?_, fun ha k id => ?_⟩
  · exact (stages hs (active.symm.trans ha) k).1
  · obtain ⟨-, load⟩ := stages hs (active.symm.trans ha) k
    rw [same, show (t.carryView.stage k).load = (s.carryView.stage k).load from load]
    exact hs.carried (active.symm.trans ha) k id

/-- A hoist at work that stays so with its load keeps the law (R3). -/
theorem Bears.carries (ht : Bears h s t) (works : (s.seq h).phase.atRest = false) : Carries s t := by
  refine .of_stages ht.keys ht.inCycle ht.active fun hs ha k => ?_
  have sound : (s.seq k).carryStage.Sound := hs.sound ha k
  by_cases hk : k = h
  · subst hk
    have carries : (s.seq k).load ≠ none := fun hl => by
      have rests : (s.seq k).phase.atRest = true := sound.load.1 hl
      rw [works] at rests
      cases rests
    refine ⟨⟨?_, fun hr => ?_, ht.held sound.held⟩, ht.load⟩
    · simp [Sequencer.carryStage, ht.load, ht.works, carries]
    · exact absurd hr (by simp [Sequencer.carryStage, ht.works])
  · exact ⟨ht.others k hk ▸ sound, congrArg CarryStage.load (ht.others k hk)⟩

/-! ## The end of a dip (R21, R27) -/

theorem keys_endDip (h : Hoist) (s : State) : (endDip h s).records.keys = s.records.keys := by
  have freed (id : Nat) (u : State) : (freeJig id u).records.keys = u.records.keys :=
    congrArg CarryView.keys (carryView_freeJig id u)
  have ended : (modCarried h (fun r => if r.admitted then r.completed else r.returned) s).records.keys =
      s.records.keys := by
    unfold modCarried
    split
    · simp only [modLoad, Records.keys]
      rw [map_map_key]
      intro r
      (repeat' split) <;> rfl
    · rfl
  unfold endDip
  dsimp only
  split <;> simp [freed, ended]

/-- The load that the hoist carries is IN_CYCLE no more. -/
theorem inCycle_endDip (h : Hoist) (s : State) :
    (endDip h s).records.inCycle = s.records.inCycle.filter (fun e => decide ((s.seq h).load ≠ some e.1)) := by
  unfold endDip modCarried
  dsimp only
  cases (s.seq h).load with
  | none => simp
  | some id =>
    simp only [modSeq_frame, Records.inCycle, freeJig, modLoad]
    induction s.records.loads with
    | nil => rfl
    | cons r l ih =>
      by_cases hid : r.id = id
      · have left : (if r.admitted then r.completed else r.returned).state ≠ .inCycle := by
          split <;> simp [LoadRec.completed, LoadRec.returned]
        by_cases cycle : r.state = .inCycle <;> simp_all
      · have other : id ≠ r.id := Ne.symm hid
        by_cases cycle : r.state = .inCycle <;> simp_all

theorem endDip_seq (h : Hoist) (s : State) : (endDip h s).seq h = (s.seq h).cleared := by
  unfold endDip
  dsimp only
  rw [modSeq, seq_setSeq]
  congr 1
  refine seq_congr ?_ ?_ h <;> split <;> simp [freeJig]

theorem endDip_seq_of_ne {k : Hoist} (hk : k ≠ h) (s : State) : (endDip h s).seq k = s.seq k := by
  unfold endDip
  dsimp only
  rw [modSeq, seq_setSeq_of_ne hk]
  refine seq_congr ?_ ?_ k <;> split <;> simp [freeJig]

theorem endDip_carries (h : Hoist) (s : State) : Carries s (endDip h s) := by
  refine ⟨keys_endDip h s, fun hs => ?_⟩
  have inCycle (e : Nat × Option Hoist) :
      e ∈ (endDip h s).carryView.inCycle ↔ e ∈ s.carryView.inCycle ∧ (s.seq h).load ≠ some e.1 := by
    rw [show (endDip h s).carryView.inCycle = _ from inCycle_endDip h s]
    simp [State.carryView]
  have working (ha : (endDip h s).carryView.working = true) : s.carryView.working = true := by
    simpa [State.carryView, State.active] using ha
  refine ⟨fun e he => hs.hoisted e ((inCycle e).1 he).1,
    fun e he d hd => hs.alone e ((inCycle e).1 he).1 d ((inCycle d).1 hd).1,
    fun e he d hd => hs.single e ((inCycle e).1 he).1 d ((inCycle d).1 hd).1, fun ha k => ?_, fun ha k id => ?_⟩
  · by_cases hk : k = h
    · subst hk
      rw [carryView_stage, endDip_seq]
      exact ⟨by simp [Sequencer.carryStage, Sequencer.cleared, Phase.atRest], fun _ => rfl, fun p hp => by cases hp⟩
    · rw [carryView_stage, endDip_seq_of_ne hk]
      exact hs.sound (working ha) k
  · have carried := hs.carried (working ha) k id
    rw [inCycle, carryView_stage]
    by_cases hk : k = h
    · subst hk
      rw [endDip_seq]
      exact ⟨fun ⟨he, hne⟩ => absurd (carried.1 he) hne, fun hl => by cases hl⟩
    · rw [endDip_seq_of_ne hk]
      refine ⟨fun ⟨he, _⟩ => carried.1 he, fun hl => ⟨carried.2 hl, fun hload => hk ?_⟩⟩
      have mine := (hs.carried (working ha) h id).2 hload
      simpa using hs.single _ (carried.2 hl) _ mine rfl

end Carries

end Sys2Proof.Machine
end

section
/-! PROOFS. The carried loads: the work of the dip cycle up to the withdrawal (R4, R8 to R20). -/

namespace Sys2Proof.Machine

/-! ## Motions (R4) -/

section Motions
variable {h : Hoist} {s : State} (works : (s.seq h).phase.atRest = false)
include works

theorem bears_motion (m : Option Motion) : Bears h s (modSeq h (fun q => { q with motion := m }) s) :=
  bears_modSeq works rfl rfl

theorem issueMotion_bears (axis : Axis) (target speed : Int) : Bears h s (issueMotion h axis target speed s).1 := by
  unfold issueMotion
  split
  · exact bears_motion works _
  · split
    · exact bears_motion works _
    · exact (bears_motion works _).still (carryView_sendCommand ..)

theorem issueLift_bears (target : Option Int) (speed : Int) : Bears h s (issueLift h target speed s).1 := by
  unfold issueLift
  split
  · exact issueMotion_bears works ..
  · exact .of_view works rfl

theorem issueTravel_bears (target : Int) : Bears h s (issueTravel h target s).1 := by
  unfold issueTravel
  split
  · exact issueMotion_bears works ..
  · exact bears_motion works _

end Motions

/-! ## Travel in, the gate and the entry (R10 to R13) -/

section TravelIn
variable (h : Hoist) (s : State)

theorem enterImmerse_bears : Bears h s (enterImmerse h s) :=
  Bears.still (bears_modSeq rfl rfl rfl) (carryView_sendSkimAtLead h _)

theorem beginEntry_bears : Bears h s (beginEntry h s) := by
  have entry : Bears h s (setPhase h .entry s) := bears_setPhase rfl
  have lowered := entry.trans (issueLift_bears entry.works (s.seq h).pImm (s.entrySpeed h))
  unfold beginEntry
  dsimp only
  split
  · exact lowered.trans (enterImmerse_bears h _)
  · exact lowered

theorem admitLoad_bears (r : LoadRec) (theta : Int) : Bears h s (admitLoad h r theta s) :=
  .after (by simp) (beginEntry_bears h _)

variable {h s}

theorem trial_bears (works : (s.seq h).phase.atRest = false) : Bears h s (trial h s) := by
  unfold trial
  split
  · split
    · exact .of_view works rfl
    · split
      · exact admitLoad_bears ..
      · exact .of_view works (by simp)
  · exact .of_view works rfl

variable (h s)

theorem trial_carries : Carries s (trial h s) := by
  by_cases hp : (s.seq h).phase = .awaitAdmit
  · have works : (s.seq h).phase.atRest = false := by rw [hp]; rfl
    exact (trial_bears works).carries works
  · rw [trial, if_neg hp]

theorem tryWaiting_carries : Carries s (tryWaiting s) := by
  have both (h k : Hoist) (u : State) : Carries u (trial h (trial k u)) :=
    (trial_carries k u).trans (trial_carries h _)
  refine .ite (fun _ => ?_) fun _ => both .B .A s
  exact .ite (fun _ => .after (carryView_free s _) (both .B .A _)) fun _ => .after (carryView_free s _) (both .A .B _)

theorem withDepthTrials_carries {f : State → State} (hf : Carries s (f s)) : Carries s (withDepthTrials f s) :=
  .ite (fun _ => hf) fun _ => hf.trans (tryWaiting_carries _)

theorem enterAwaitAdmit_bears : Bears h s (enterAwaitAdmit h s) := by
  have entered : Bears h s (modSeq h (fun q => { q with phase := .awaitAdmit, motion := none }) s) :=
    bears_modSeq rfl rfl rfl
  exact entered.trans (trial_bears entered.works)

theorem beginTravelIn_bears : Bears h s (beginTravelIn h s) := by
  have begun : Bears h s (setPhase h .travelIn s) := bears_setPhase rfl
  have travels := begun.trans (issueTravel_bears begun.works ((s.seq h).centre.getD 0))
  unfold beginTravelIn
  dsimp only
  split
  · exact travels.trans (enterAwaitAdmit_bears h _)
  · exact travels

end TravelIn

/-! ## Claims and spans (R49 to R58) -/

section Claims
variable (s : State)

/-- A grant to a hoist in AWAIT_SPAN sends it on, with the load it has waited with (R10, R56). -/
theorem grant_carries (o : Owner) (first last : Nat) : Carries s (grant o first last s) := by
  unfold grant
  dsimp only
  split
  · exact .of_view rfl
  · refine .after (u := modSeq _ _ _) ?_ (.when fun hp => ?_)
    · simp
    · exact (beginTravelIn_bears _ _).carries (by rw [hp]; rfl)

theorem tryPlacement_carries (n : Nat) : Carries s (tryPlacement n s) := by
  induction n generalizing s with
  | zero => exact .refl s
  | succ n ih =>
    unfold tryPlacement
    split
    · exact .refl s
    · split
      · exact .refl s
      · exact .after (carryView_arbiter s _) ((grant_carries ..).trans (ih _))

theorem placeClaims_carries : Carries s (placeClaims s) := tryPlacement_carries s _

theorem joinClaim_carries (c : Claim) : Carries s (joinClaim c s) :=
  .after (u := { s with arbiter := s.arbiter.joined c }) rfl (.when fun _ => placeClaims_carries _)

theorem withdrawClaim_carries (o : Owner) : Carries s (withdrawClaim o s) :=
  .after (u := { s with arbiter := s.arbiter.withdraw o }) rfl (.when fun _ => placeClaims_carries _)

theorem releaseSpan_carries (o : Owner) : Carries s (releaseSpan o s) :=
  .after (u := { s with arbiter := s.arbiter.release o }) rfl (placeClaims_carries _)

theorem enterAwaitSpan_carries {h : Hoist} {s : State} (works : (s.seq h).phase.atRest = false) :
    Carries s (enterAwaitSpan h s) :=
  ((bears_setPhase rfl).carries works).trans (joinClaim_carries _ _)

end Claims

/-! ## Travel out and the end of a dip (R20, R21) -/

theorem travelOutArrival_carries (h : Hoist) (s : State) : Carries s (travelOutArrival h s) :=
  (endDip_carries h s).trans (releaseSpan_carries _ _)

section Works
variable {h : Hoist} {s : State}

theorem enterWeighOut_bears : Bears h s (enterWeighOut h s) :=
  Bears.still (bears_modSeq rfl rfl rfl) (carryView_startWeigh ..)

variable (works : (s.seq h).phase.atRest = false)
include works

theorem beginTravelOut_carries : Carries s (beginTravelOut h s) := by
  have begun : Bears h s (setPhase h .travelOut s) := bears_setPhase rfl
  have travels := begun.trans (issueTravel_bears begun.works (s.stationPosition h))
  unfold beginTravelOut
  dsimp only
  split
  · exact (travels.carries works).trans (travelOutArrival_carries h _)
  · exact travels.carries works

/-! ## Withdrawal, drain and weigh-out (R17 to R20) -/

theorem runDrain_bears : Bears h s (runDrain h s) := by
  unfold runDrain
  split
  · exact enterWeighOut_bears
  · exact bears_modSeq works rfl rfl

theorem withdrawArrival_carries : Carries s (withdrawArrival h s) := by
  refine .ite (fun _ => ?_) fun _ => beginTravelOut_carries works
  have drains : Bears h s (modSeq h (fun q =>
      { q with phase := .drain, motion := none, vibrate := (s.latched h).map Latched.vibrate,
               drain := (s.latched h).map Latched.drain }) s) := bears_modSeq rfl rfl rfl
  exact (drains.trans (runDrain_bears drains.works)).carries works

theorem liftOut_carries : Carries s (liftOut h s) := by
  have begun : Bears h s (setPhase h .withdraw s) := bears_setPhase rfl
  have lifts := begun.trans (issueLift_bears begun.works (s.seq h).pClr (s.withdrawSpeed h))
  unfold liftOut
  dsimp only
  split
  · exact (lifts.carries works).trans (withdrawArrival_carries lifts.works)
  · exact lifts.carries works

theorem startWithdraw_carries : Carries s (startWithdraw h s) := by
  have stopped : (modCarried h (fun r => { r with withdrawTime := some s.clock }) (stopOverdip h s)).carryView =
      s.carryView := by simp
  exact .after stopped (liftOut_carries (by rw [phase_congr stopped, works]))

end Works

/-! ## The end-of-immersion decision (R15, R16) -/

section Skim
variable (h : Hoist) (s : State)

/-- A hoist in AWAIT_SKIM withdraws its load; in any other phase it stays (R14, R16). -/
theorem withdrawFromAwaitSkim_carries :
    Carries s (if (s.seq h).phase = .awaitSkim then startWithdraw h s else s) :=
  .when fun hp => startWithdraw_carries (by rw [hp]; rfl)

theorem checkSkimWait_carries : Carries s (checkSkimWait h s) :=
  .when fun _ => .after (by simp) (withdrawFromAwaitSkim_carries h (withdrawSkim h (markMissed h s)))

theorem skimDone_carries : Carries s (skimDone h s) :=
  .when fun _ => .after (by simp)
    (withdrawFromAwaitSkim_carries h (modSeq h (fun q => { q with skim := .done s.clock }) s))

theorem skimMissedAnswer_carries : Carries s (skimMissedAnswer h s) :=
  .when fun _ => .after (by simp) (withdrawFromAwaitSkim_carries h (markMissed h s))

variable {h s} (works : (s.seq h).phase.atRest = false)
include works

theorem askSkimAgain_carries (wait : Nat) : Carries s (askSkimAgain h wait s) := by
  have waits : Bears h s (modSeq h (fun q => { q with phase := .awaitSkim, skimWait := some wait }) s) :=
    bears_modSeq rfl rfl rfl
  have asked := waits.still (carryView_requestSkim h _ (dueIn 0 s))
  exact (asked.carries works).trans
    (.ite (fun _ => startWithdraw_carries asked.works) fun _ => checkSkimWait_carries h _)

theorem endDecision_carries : Carries s (endDecision h s) := by
  have waits : Bears h s (modSeq h (fun q => { q with phase := .awaitSkim, skimWait := some (q.skimWait.getD 0) }) s) :=
    bears_modSeq rfl rfl rfl
  unfold endDecision
  split
  · exact .ite (fun _ => startWithdraw_carries works) fun _ => askSkimAgain_carries works _
  · exact startWithdraw_carries works
  · exact (waits.carries works).trans (checkSkimWait_carries h _)
  · exact askSkimAgain_carries works _

omit works
variable (h s)

theorem countdownZero_carries : Carries s (countdownZero h s) :=
  .after (carryView_startOverdip h s)
    (.ite (fun hp => endDecision_carries (by rw [hp]; rfl)) fun _ => checkSkimWait_carries h _)

end Skim

end Sys2Proof.Machine
end

section
/-! PROOFS. The carried loads: weights taken, holding, arrivals and recovery, and the stations (R4, R22, R26, R32). -/

namespace Sys2Proof.Machine

/-! ## Weights taken (R8, R20, R26) -/

section Weights
variable {h : Hoist} {s : State}

theorem weighInStable_carries (w : Nat) (r : Option RangeFlag) : Carries s (weighInStable h w r s) := by
  refine .when fun hp => .after ?_ (enterAwaitSpan_carries ?_)
  · simp
  · rw [seq_modCarried, hp]
    rfl

theorem finishDip_carries (works : (s.seq h).phase.atRest = false) : Carries s (finishDip h s) := by
  have posted (d e : Option Int) : (raiseFor h .dipPosted d e (post h s)).carryView = s.carryView := by simp
  exact .after (posted ..) (beginTravelOut_carries (by rw [phase_congr (posted ..), works]))

theorem weighOutWith_carries (w : Nat) (r : Option RangeFlag) (unsettled : Bool) :
    Carries s (weighOutWith h w r unsettled s) := by
  refine .when fun hp => .after ?_ (finishDip_carries ?_)
  · simp
  · rw [recordOut, seq_modCarried, hp]
    rfl

theorem weighOutNone_carries (works : (s.seq h).phase.atRest = false) : Carries s (weighOutNone h s) := by
  refine .after ?_ (finishDip_carries ?_)
  · simp
  · rwa [recordOut, seq_modCarried]

theorem weighOutPasses_carries : Carries s (weighOutPasses h s) := by
  have stopped := carryView_stopWeigh h s
  unfold weighOutPasses
  split
  · exact .after stopped (weighOutWith_carries ..)
  · exact .ite (fun hp => .after stopped (weighOutNone_carries (by rw [phase_congr stopped, hp]; rfl)))
      fun _ => .of_view stopped

theorem scaleReading_carries (x : Int) : Carries s (scaleReading h x s) := by
  have sampled : (goodSample h x s).1.carryView = s.carryView := by simp
  unfold scaleReading
  split
  next hg => exact .of_view (by rw [← sampled, hg])
  next hg => exact .after (by rw [← sampled, hg]) (weighInStable_carries ..)
  next hg => exact .after (by rw [← sampled, hg]) (weighOutWith_carries ..)

end Weights

/-! ## Holding and raising (R22, R29) -/

section Hold
variable (h : Hoist) (s : State)

/-- A hoist at work keeps a phase of work as it becomes HELD (R22). -/
theorem heldFrom_works {q : Sequencer} (works : q.phase.atRest = false)
    (held : ∀ p, q.heldPhase = some p → p.atRest = false) : ∀ p, q.heldFrom = some p → p.atRest = false := by
  unfold Sequencer.heldFrom
  split
  · exact held
  · exact held
  · rintro p ⟨⟩
    exact works

theorem enterHeld_bears {h : Hoist} {s : State} (works : (s.seq h).phase.atRest = false) :
    Bears h s (enterHeld h s) := by
  have stopped : (stopWeigh h (if (s.seq h).motion.isSome then sendCommand (driveOf h) .stop s else s)).seq h =
      s.seq h := by
    split <;> exact seq_congr (by simp) (by simp) h
  have view : (stopWeigh h (if (s.seq h).motion.isSome then sendCommand (driveOf h) .stop s else s)).carryView =
      s.carryView := by
    split <;> simp
  unfold enterHeld
  refine .after view (bears_setSeq rfl rfl ?_)
  rw [stopped]
  exact heldFrom_works works

/-- MOTION_OVERDUE finds a hoist with a motion in flight, and such a hoist is at work (R3, R5). -/
theorem enterHeld_carries (moves : (s.seq h).phase.atRest = false ∨ (s.seq h).motion.isSome = true) :
    Carries s (enterHeld h s) := by
  cases hr : (s.seq h).phase.atRest with
  | false => exact (enterHeld_bears hr).carries hr
  | true =>
    refine .of_stages (by simp) (by simp) (by simp [State.active]) fun hs ha => ?_
    have still : (s.seq h).motion.isSome = false := (hs.sound ha h).moves hr
    simp [hr, still] at moves

theorem raisingArrival_bears : Bears h s (raisingArrival h s) :=
  bears_hold rfl rfl (by rintro p ⟨⟩; rfl)

theorem liftRaise_bears : Bears h s (liftRaise h s) := by
  have raises : Bears h s (modSeq h (fun q => { q with phase := .raising, heldPhase := none }) s) :=
    bears_hold rfl rfl (by rintro p ⟨⟩)
  have lifts := raises.trans (issueLift_bears raises.works (s.seq h).pClr s.raiseSpeed)
  unfold liftRaise
  dsimp only
  split
  · exact lifts.trans (raisingArrival_bears h _)
  · exact lifts

theorem enterRaising_carries {h : Hoist} {s : State} (works : (s.seq h).phase.atRest = false) :
    Carries s (enterRaising h s) := by
  have raise {u : State} (hu : u.carryView = s.carryView) : Carries s (withdrawClaim (.hoist h) (liftRaise h u)) :=
    (((liftRaise_bears h u).after hu).carries works).trans (withdrawClaim_carries _ _)
  refine raise ?_
  split <;> simp

/-! ## Arrivals (R4) -/

/-- Every motion may end. -/
theorem motionEnds_carries : Carries s (modSeq h (fun q => { q with motion := none }) s) := by
  refine .of_stages (by simp) (by simp) (by simp [State.active]) fun hs ha k => ?_
  have sound := hs.sound ha k
  by_cases hk : k = h
  · subst hk
    rw [modSeq, seq_setSeq]
    exact ⟨⟨sound.load, fun _ => rfl, sound.held⟩, rfl⟩
  · rw [modSeq, seq_setSeq_of_ne hk]
    exact ⟨sound, rfl⟩

theorem arrival_carries : Carries s (arrival h s) := by
  refine (motionEnds_carries h s).trans ?_
  unfold arrival
  dsimp only
  generalize modSeq h (fun q => { q with motion := none }) s = u
  split
  next hp => exact (enterAwaitAdmit_bears h u).carries (by rw [hp]; rfl)
  next hp => exact (enterImmerse_bears h u).carries (by rw [hp]; rfl)
  next hp => exact withdrawArrival_carries (by rw [hp]; rfl)
  next hp =>
    have works : (u.seq h).phase.atRest = false := by rw [hp]; rfl
    exact (runDrain_bears works).carries works
  next hp => exact enterWeighOut_bears.carries (by rw [hp]; rfl)
  next hp => exact travelOutArrival_carries h u
  next hp => exact (raisingArrival_bears h u).carries (by rw [hp]; rfl)
  next hp => exact (bears_setPhase rfl).carries (by rw [hp]; rfl)
  next => exact .refl u

theorem issueKeptTravel_carries : Carries s (issueKeptTravel h s) := by
  refine .when fun _ => ?_
  split
  next hp => exact (beginTravelIn_bears h s).carries (by rw [hp]; rfl)
  next hp => exact beginTravelOut_carries (by rw [hp]; rfl)
  next => exact .refl s

/-! ## Recovery (R32) -/

theorem recoverHeld_bears {p : Phase} (hp : p.atRest = false) : Bears h s (recoverHeld h p s) :=
  bears_hold rfl rfl (by rintro _ ⟨⟩; exact hp)

section Recover
variable {h s} (works : (s.seq h).phase.atRest = false)
include works

theorem recoverInBath_carries : Carries s (recoverInBath h s) := by
  have flagged : (modCarried h (fun r =>
      { r with flags := { r.flags with interrupted := true, nonconforming := true } }) s).carryView = s.carryView := by
    simp
  have held := (recoverHeld_bears h _ (p := .withdraw) rfl).after flagged
  refine (held.carries works).still ?_
  simp [recoverInBath]

theorem recoveryOutcome_carries : Carries s (recoveryOutcome h s) := by
  refine .ite (fun _ => .ite (fun _ => ?_) fun _ => .ite (fun _ => ?_) fun _ => endDip_carries h s)
    fun _ => recoverInBath_carries works
  · have flagged : (modCarried h (fun r => { r with flags := { r.flags with interrupted := true } }) s).carryView =
        s.carryView := by simp
    exact ((recoverHeld_bears h _ rfl).after flagged).carries works
  · have waited : (modSeq h (fun q => { q with recoverWait := none }) s).carryView = s.carryView := by simp
    exact .after waited (beginTravelOut_carries (by rw [phase_congr waited, works]))

end Recover

theorem driveReport_carries (lift travel : Int) (rest : Bool) : Carries s (driveReport h lift travel rest s) := by
  have reported : (modSeq h (fun q => { q with lift := some lift, travel := some travel }) s).carryView =
      s.carryView := by simp
  refine .ite (fun _ => .refl s) fun _ => .after reported (.ite (fun hp => .when fun _ => ?_) fun _ => ?_)
  · exact recoveryOutcome_carries (by rw [hp]; rfl)
  · exact .ite (fun _ => arrival_carries h _) fun _ => issueKeptTravel_carries h _

theorem driveFault_carries : Carries s (driveFault h s) := by
  unfold driveFault
  split
  next => exact .refl s
  next => exact .refl s
  next => exact .refl s
  next hp => exact recoverInBath_carries (by rw [hp]; rfl)
  next idle _ disabled _ =>
    refine .after (carryView_markLate h s) (enterHeld_carries h _ (.inl ?_))
    rw [phase_congr (carryView_markLate h s), Bool.eq_false_iff]
    exact fun hr => (List.mem_pair.1 ((Phase.atRest_iff _).1 hr)).elim idle disabled

end Hold

/-! ## The skimmer and the stations (R66, R71, R158) -/

section Field
variable (s : State)

theorem skimmerAtRest_carries : Carries s (skimmerAtRest s) := by
  unfold skimmerAtRest
  split
  · refine .still (.ite (fun _ => .of_view (carryView_skimmer s _)) fun _ => ?_) (carryView_startSweep _)
    split
    · exact .after (carryView_skimmer s _) (skimDone_carries _ _)
    · exact .of_view (carryView_skimmer s _)
  · exact .refl s

theorem skimMissedAnswers_carries (l : List Hoist) : Carries s (l.foldl (fun s h => skimMissedAnswer h s) s) := by
  induction l generalizing s with
  | nil => exact .refl s
  | cons h l ih => exact (skimMissedAnswer_carries h s).trans (ih _)

theorem skimmerFault_carries (code : Nat) : Carries s (skimmerFault code s) := by
  unfold skimmerFault
  dsimp only
  split
  · exact .refl s
  · refine Carries.still (Carries.after ?_ (skimMissedAnswers_carries _ s.skimmer.cutOff)) (carryView_raise ..)
    rw [carryView_skimmer]
    split <;> simp

theorem thermoEnd_carries (cs : List ChannelView) : Carries s (thermoEnd cs s) :=
  .after (carryView_congr (by simp) (by simp) (by simp) (by simp) (by simp)) (tryWaiting_carries _)

theorem deliverReport_carries (st : Station) (r : FieldReport) : Carries s (deliverReport st r s) := by
  unfold deliverReport
  split
  · exact driveReport_carries ..
  · exact driveReport_carries ..
  · exact withDepthTrials_carries s (scaleReading_carries _)
  · exact withDepthTrials_carries s (scaleReading_carries _)
  · exact .when fun _ => skimmerAtRest_carries s
  · exact thermoEnd_carries s _
  · exact withDepthTrials_carries s (.of_view (by simp))
  · exact .refl s

theorem deliverMasked_carries (st : Station) (k : TransKind) : Carries s (deliverMasked st k s) := by
  unfold deliverMasked
  split
  · exact .of_view (by simp)
  · exact .of_view (by simp)
  · exact thermoEnd_carries s _
  · exact .of_view (by simp)
  · exact .refl s

theorem deliverFault_carries (st : Station) (code : Nat) : Carries s (deliverFault st code s) := by
  unfold deliverFault
  split
  · exact driveFault_carries ..
  · exact driveFault_carries ..
  · exact .of_view (by simp)
  · exact .of_view (by simp)
  · exact skimmerFault_carries ..
  · exact thermoEnd_carries s _
  · exact .refl s

theorem transactionEnd_carries (st : Station) (code : Nat) (k : TransKind) (attempts : Nat) (r : FieldReport) :
    Carries s (transactionEnd st code k attempts r s) :=
  .ite (fun _ => .ite (fun _ => deliverReport_carries s st r) fun _ => deliverMasked_carries s st k)
    fun _ => .after (by simp) (deliverFault_carries _ st code)

theorem attemptEnds_carries (st : Station) (code : Nat) (r : FieldReport) (t : Transaction) :
    Carries s (attemptEnds st code r t s) :=
  .ite (fun _ => .ite (fun _ => .of_view (by simp)) fun _ => .of_view (by simp))
    fun _ => .after (by simp) (transactionEnd_carries _ st code t.kind (t.attempts + 1) r)

theorem answer_carries (st : Station) (code : Nat) (r : FieldReport) : Carries s (answer st code r s) := by
  unfold answer
  split
  · exact attemptEnds_carries ..
  · exact .refl s

theorem noAnswer_carries (st : Station) : Carries s (noAnswer st s) := by
  unfold noAnswer
  split
  · exact attemptEnds_carries ..
  · exact .refl s

end Field

end Sys2Proof.Machine
end

section
/-! PROOFS. The carried loads: events and the requests of a hoist (R5 to R31). -/

namespace Sys2Proof.Machine

/-! ## Events -/

/-- Every event of the blocks' work leaves the keys and keeps the law of the carried loads. -/
theorem effect_carries {i : Instr} {e : State → State} (he : eventOf i = some e) (s : State) : Carries s (e s) := by
  cases i <;> simp only [eventOf, Option.some.injEq, reduceCtorEq] at he <;> subst he
  case holdButton4sMark h =>
    refine .when fun hd => .ite (fun _ => enterRaising_carries ?_) fun _ => .of_view (by simp)
    rw [((fourSecondsDue_iff h s).1 hd).2.1]
    rfl
  case motionOverdue h =>
    refine .ite (fun hd => ?_) fun _ => .of_view (carryView_lateOverdue h s)
    obtain ⟨m, hm, -⟩ := (overdueDue_iff h s).1 hd
    have captured : (capture (overdueFault s h) s).carryView = s.carryView := by simp
    have moves := congrArg CarryStage.moves (carryStage_congr captured h)
    exact .after captured (enterHeld_carries h _ (.inr (moves.trans (by simp [Sequencer.carryStage, hm]))))
  case skimLeadReached h => exact .of_view (carryView_sendSkimAtLead h s)
  case immersionCountdownZero h => exact .when fun _ => countdownZero_carries h s
  case skimWaitExpired h => exact checkSkimWait_carries h s
  case overdipLimitExceeded h => exact .of_view (carryView_compareOverdip h s)
  case vibrateEnd h =>
    refine .when fun hd => ?_
    have works : (s.seq h).phase.atRest = false := by
      rw [((vibrateDue_iff h s).1 hd).1]
      rfl
    exact (runDrain_bears works).carries works
  case drainEnd h =>
    refine .when fun hd => enterWeighOut_bears.carries ?_
    rw [((drainDue_iff h s).1 hd).1]
    rfl
  case recoveryTimeout h =>
    refine .when fun hd => recoverInBath_carries ?_
    rw [((recoveryDue_iff h s).1 hd).1]
    rfl
  case weighInTimeout h => exact .when fun _ => .of_view (by simp)
  case weighOutTimeout h => exact .when fun _ => withDepthTrials_carries s weighOutPasses_carries
  case gateTrialTick h => exact trial_carries h s
  case windowEntryExpiry => exact .when fun _ => .after (carryView_window s _) (tryWaiting_carries _)
  case kettleQuiet => exact .when fun _ => .of_view (by simp)
  case reconcileTimeout => exact .when fun _ => .of_view (by simp)
  case fieldPollDue st => exact .of_view (by simp)
  case fieldRetryDue st => exact .of_view (by simp)
  case fieldNoAnswer st => exact noAnswer_carries s st
  case fieldAnswerReceived st code r => exact answer_carries s st code r

theorem Phase.works_of_taken {p : Phase} (hp : (p.inCycle || decide (p = .jogging)) = true) : p.atRest = false := by
  revert hp
  cases p <;> decide

theorem pressButton_carries (h : Hoist) (s : State) : Carries s (pressButton h s) := by
  have pressed : (modSeq h (fun q => { q with pressed := true }) s).carryView = s.carryView := by simp
  refine .after pressed (.ite (fun hp => ?_) fun _ => .when fun _ => .of_view (by simp))
  exact .still (enterHeld_carries h _ (.inl (Phase.works_of_taken hp))) (by simp)

/-! ## RESUME (R24) -/

/-- A hoist that is moved back to p_imm stands in IMMERSE or AWAIT_SKIM, at work (R24). -/
theorem returnToImm_carries (h : Hoist) (s : State) : Carries s (returnToImm h s) := by
  refine .when fun hp => (issueLift_bears ?_ ..).carries ?_ <;> rcases hp.1 with hp | hp <;> rw [hp] <;> rfl

section TakeUp
variable {h : Hoist} {u : State} (works : (u.seq h).phase.atRest = false)
include works

theorem resumeImmerse_carries : Carries u (resumeImmerse h u) := by
  have begun : (if (u.seq h).overdip.isNone then startOverdip h u else u).carryView = u.carryView := by
    split <;> simp
  exact .when fun _ => .after begun (endDecision_carries (by rw [phase_congr begun, works]))

theorem resumeWithdraw_carries : Carries u (resumeWithdraw h u) := by
  refine .after ?_ (liftOut_carries ?_)
  · simp
  · rwa [seq_modCarried]

theorem resumeDrain_carries : Carries u (resumeDrain h u) := by
  have counts : (modSeq h (fun q =>
      { q with vibrate := some (q.vibrate.getD (((u.latched h).map Latched.vibrate).getD 0)),
               drain := some (q.drain.getD (((u.latched h).map Latched.drain).getD 0)) }) u).carryView =
      u.carryView := by
    simp
  have works' := (phase_congr counts h ▸ works :)
  refine .ite (fun _ => .after counts (.ite (fun _ => ?_) fun _ => ?_)) fun _ => beginTravelOut_carries works
  · exact (runDrain_bears works').carries works'
  · exact (issueLift_bears works' ..).carries works'

theorem resumeWeighOut_carries : Carries u (resumeWeighOut h u) :=
  .ite (fun _ => enterWeighOut_bears.carries works) fun _ => (issueLift_bears works ..).carries works

end TakeUp

section Requests
variable {h : Hoist} {s : State}

/-- RESUME takes up the held phase, which is one of work (R22, R24). -/
theorem takeUp_carries {p : Phase} (held : (s.seq h).phase = .held) (hp : (s.seq h).heldPhase = some p) :
    Carries s (takeUp h p s) := by
  have works : (s.seq h).phase.atRest = false := by rw [held]; rfl
  unfold takeUp
  dsimp only
  generalize hu : modSeq h (fun q => { q with phase := p, heldPhase := none, holdTimer := none }) s = u
  cases hr : p.atRest with
  | true =>
    have never : Carries s u := by
      refine .of_stages (by simp [← hu]) (by simp [← hu]) (by simp [← hu, State.active]) fun hs ha => ?_
      have := (hs.sound ha h).held p hp
      simp [hr] at this
    rcases List.mem_pair.1 ((Phase.atRest_iff p).1 hr) with rfl | rfl <;> exact never
  | false =>
    have resumed : Bears h s u := hu ▸ bears_hold hr rfl (by rintro _ ⟨⟩)
    have works' := resumed.works
    refine (resumed.carries works).trans ?_
    split
    · exact .of_view (carryView_startWeigh ..)
    · exact .when fun _ => (beginTravelIn_bears h u).carries works'
    · exact (beginTravelIn_bears h u).carries works'
    · exact trial_carries h u
    · exact (beginEntry_bears h u).carries works'
    · exact (resumeImmerse_carries works').trans (returnToImm_carries h _)
    · exact (endDecision_carries works').trans (returnToImm_carries h _)
    · exact resumeWithdraw_carries works'
    · exact resumeDrain_carries works'
    · exact resumeWeighOut_carries works'
    · exact beginTravelOut_carries works'
    · exact (liftRaise_bears h u).carries works'
    · exact .refl u

/-! ## Requests of a hoist (R6 to R31) -/

theorem onHoist_carries {f : Hoist → State → State × Answer}
    (hf : ∀ h, (s.seq h).phase ≠ .disabled → Carries s (f h s).1) (n : Nat) : Carries s (onHoist n f s).1 := by
  unfold onHoist
  split
  · exact .refl s
  · split
    · exact .refl s
    · split
      · exact .refl s
      · exact hf _ ‹_›

theorem hold_carries (n : Nat) : Carries s (hold n s).1 := by
  refine onHoist_carries (fun h enabled => ?_) n
  split
  · exact .refl s
  · exact .refl s
  · exact .refl s
  next idle _ _ =>
    refine (enterHeld_carries h s (.inl ?_)).ended
    rw [Bool.eq_false_iff]
    exact fun hr => (List.mem_pair.1 ((Phase.atRest_iff _).1 hr)).elim idle enabled

theorem resume_carries (n : Nat) : Carries s (resume n s).1 := by
  refine onHoist_carries (fun h _ => ?_) n
  split
  next held =>
    split
    · exact .refl s
    · split
      next p hp => exact (takeUp_carries held hp).ended
      next => exact .refl s
  next => exact .refl s
  next => exact .refl s

theorem jogTo_carries (held : (s.seq h).phase = .held) (target : Int) : Carries s (jogTo h target s) := by
  have stopped : (modSeq h (fun q => { q with holdTimer := none }) s).carryView = s.carryView := by simp
  refine .after stopped (.ite (fun _ => .refl _) fun _ => ?_)
  have jogs : Bears h _ (setPhase h .jogging (modSeq h (fun q => { q with holdTimer := none }) s)) := bears_setPhase rfl
  exact (jogs.trans (issueMotion_bears jogs.works ..)).carries (by rw [phase_congr stopped, held]; rfl)

theorem jog_carries (n : Nat) (d : Int) : Carries s (jog n d s).1 := by
  unfold jog
  split
  · exact .refl s
  · refine onHoist_carries (fun h _ => ?_) n
    split
    next held =>
      split
      · exact .refl s
      · exact (jogTo_carries held _).ended
    next => exact .refl s
    next => exact .refl s

theorem cancel_carries (n : Nat) : Carries s (cancel n s).1 := by
  refine onHoist_carries (fun h _ => ?_) n
  have before : Carries s (endEvent (withdrawClaim (.hoist h) (endDip h (stopWeigh h s)))) :=
    .ended (.after (carryView_stopWeigh h s) ((endDip_carries h _).trans (withdrawClaim_carries _ _)))
  split
  next => exact before
  next => exact before
  next hp => exact (beginTravelOut_carries (by rw [hp]; rfl)).ended
  next hp => exact (beginTravelOut_carries (by rw [hp]; rfl)).ended
  next => exact .refl s

theorem acceptUnweighed_carries (n : Nat) : Carries s (acceptUnweighed n s).1 := by
  refine onHoist_carries (fun h _ => ?_) n
  split
  next hp =>
    have stopped := carryView_stopWeigh h s
    refine (Carries.after ?_ (enterAwaitSpan_carries ?_)).ended
    · simp
    · rw [seq_modCarried, phase_congr stopped, hp]
      rfl
  next => exact .refl s

theorem finishWithout_carries (hf : finishable (s.seq h) = true) : Carries s (finishWithout h s) := by
  have held : (s.seq h).phase = .held := by
    simp only [finishable, Bool.and_eq_true, decide_eq_true_eq] at hf
    exact hf.1.1
  have works : (s.seq h).phase.atRest = false := by rw [held]; rfl
  have freed : Bears h s (modSeq h (fun q =>
      { q with heldPhase := none, holdTimer := none, vibrate := none, drain := none }) s) :=
    bears_hold works rfl (by rintro _ ⟨⟩)
  refine (freed.carries works).trans (.ite (fun _ => weighOutNone_carries freed.works) fun _ => ?_)
  refine .after ?_ (beginTravelOut_carries ?_)
  · simp
  · rw [recordOut, seq_modCarried]
    exact freed.works

theorem finishUnweighed_carries (n : Nat) : Carries s (finishUnweighed n s).1 := by
  refine onHoist_carries (fun h _ => ?_) n
  split
  · exact .refl s
  · split
    next hf => exact (withDepthTrials_carries s (finishWithout_carries hf)).ended
    next => exact .refl s

/-- A hoist may pass from one phase of rest to the other (R31). -/
theorem rest_carries {f : Sequencer → Sequencer} (before : (s.seq h).phase.atRest = true)
    (after : (f (s.seq h)).phase.atRest = true) (held : (f (s.seq h)).heldPhase = (s.seq h).heldPhase)
    (load : (f (s.seq h)).load = (s.seq h).load) (motion : (f (s.seq h)).motion = (s.seq h).motion) :
    Carries s (modSeq h f s) := by
  refine .of_stages (by simp) (by simp) (by simp [State.active]) fun hs ha k => ?_
  have sound : (s.seq k).carryStage.Sound := hs.sound ha k
  by_cases hk : k = h
  · subst hk
    obtain ⟨empty, still, kept⟩ := sound
    rw [modSeq, seq_setSeq]
    refine ⟨⟨?_, fun _ => ?_, ?_⟩, load⟩
    · simpa [Sequencer.carryStage, load, before, after] using empty
    · simpa [Sequencer.carryStage, motion] using still before
    · simpa [Sequencer.carryStage, held] using kept
  · rw [modSeq, seq_setSeq_of_ne hk]
    exact ⟨sound, rfl⟩

theorem enableHoist_carries (n : Nat) : Carries s (enableHoist n s).1 := by
  unfold enableHoist
  split
  · exact .refl s
  · split
    next hp => exact (Carries.still (rest_carries (by rw [hp]; rfl) rfl rfl rfl rfl) (carryView_pollFallsDue ..)).ended
    all_goals exact .refl s

theorem disableHoist_carries (n : Nat) : Carries s (disableHoist n s).1 := by
  unfold disableHoist
  split
  · exact .refl s
  · split
    next hp => exact (rest_carries (by rw [hp]; rfl) rfl rfl rfl rfl).ended
    all_goals exact .refl s

/-! ## Requests of the Span Arbiter and of the Balance Unit (R51 to R60, R139, R140) -/

theorem setZoneService_carries (z st : Nat) : Carries s (setZoneService z st s).1 := by
  have served (b : Bool) : (setService z b s).carryView = s.carryView := rfl
  unfold setZoneService
  split
  · exact .refl s
  · split
    · exact .refl s
    · split
      · split
        · exact .refl s
        · exact (Carries.after (served true) (placeClaims_carries _)).ended
      · split
        · exact .refl s
        · exact .of_view (served false)

theorem claimZones_carries (n f l : Nat) : Carries s (claimZones n f l s).1 := by
  unfold claimZones
  split
  · exact .refl s
  · split
    · exact .refl s
    · split
      · exact .refl s
      · exact (joinClaim_carries s _).ended

theorem releaseZones_carries (n : Nat) : Carries s (releaseZones n s).1 := by
  unfold releaseZones
  split
  · exact .refl s
  · split
    · exact (releaseSpan_carries s _).ended
    · split
      · exact (withdrawClaim_carries s _).ended
      · exact .refl s

theorem bookChange_carries (f : Balance → Balance) : Carries s (bookChange f s).1 :=
  (withDepthTrials_carries s (.of_view (by simp))).ended

end Requests

/-! ## Requests -/

/-- The requests that bring a record or take one away, and PRESENT. -/
def writesTable : Instr → Bool
  | .openOrder .. => true
  | .removeOrder _ => true
  | .registerLoad .. => true
  | .removeLoad _ => true
  | .addJig .. => true
  | .removeJig _ => true
  | .present .. => true
  | _ => false

/-- Every other request leaves the keys and keeps the law of the carried loads. -/
theorem owner_carries {i : Instr} {f : State → State × Answer} (ho : ownerOf i = some f) (hi : writesTable i = false)
    (s : State) : Carries s (f s).1 := by
  cases i <;> simp only [ownerOf, Option.some.injEq, reduceCtorEq] at ho <;> subst ho
  case openOrder | removeOrder | registerLoad | removeLoad | addJig | removeJig | present => simp [writesTable] at hi
  case hold n => exact hold_carries n
  case resume n => exact resume_carries n
  case jog n d => exact jog_carries n d
  case cancel n => exact cancel_carries n
  case acceptUnweighed n => exact acceptUnweighed_carries n
  case finishUnweighed n => exact finishUnweighed_carries n
  case enableHoist n => exact enableHoist_carries n
  case disableHoist n => exact disableHoist_carries n
  case setZoneService z st => exact setZoneService_carries z st
  case claimZones n f l => exact claimZones_carries n f l
  case releaseZones n => exact releaseZones_carries n
  case chargeZinc | reportDross | reportAsh =>
    simp only [chargeZinc, reportDross, reportAsh]
    split
    · exact .refl s
    · exact bookChange_carries _
  case identify | setClock | restart | lockCalibration | readZones | readBalance | readFault | ackFault => exact .refl s
  case readStatus | readSetting | readClass | readOrder | readLoad | readJig | readPeriod =>
    simp only [readStatus, readSetting, readClass, readOrder, readLoad, readJig, readPeriod]
    (repeat' split) <;> exact .refl s
  case writeClass | restoreSkimmer | reconcile | discardPeriod | setNoticeMask | fetchNotice =>
    simp only [writeClass, restoreSkimmer, reconcile, discardPeriod, setNoticeMask, fetchNotice]
    (repeat' split) <;> exact .refl s
  case writeSetting | closePeriod | readFieldStatus =>
    simp only [writeSetting, closePeriod, readFieldStatus]
    (repeat' split) <;> refine .of_view (carryView_congr ?_ ?_ ?_ ?_ ?_) <;>
      simp [putSetting, emptyAccumulators, Station.all]
  case closeOrder | stripJig =>
    simp only [closeOrder, stripJig]
    (repeat' split) <;> exact .of_view (by simp [JigRec.stripped])

end Sys2Proof.Machine
end

section
/-! PROOFS. The tables and the carried loads at the requests that write the tables (R7, R112 to R126). -/

namespace Sys2Proof.Machine

/-! ## Keys (R112) -/

theorem nodup_keys_append {α : Type} {key : α → Nat} {l : List α} (hl : (l.map key).Nodup) {x : α}
    (hx : ∀ y ∈ l, key y ≠ key x) : ((l ++ [x]).map key).Nodup := by
  rw [List.map_append, List.nodup_append]
  refine ⟨hl, List.nodup_singleton _, fun k hk j hj => ?_⟩
  obtain ⟨y, hy, rfl⟩ := List.mem_map.1 hk
  rw [List.mem_singleton.1 hj]
  exact hx y hy

theorem nodup_keys_filter {α : Type} {key : α → Nat} {l : List α} (hl : (l.map key).Nodup) (p : α → Bool) :
    ((l.filter p).map key).Nodup :=
  hl.sublist (List.filter_sublist.map key)

theorem keys_modJig {n : Nat} {f : JigRec → JigRec} (hf : ∀ j, (f j).number = j.number) (s : State) :
    (modJig n f s).records.keys = s.records.keys :=
  congrArg CarryView.keys (carryView_modJig hf s)

theorem keys_startDip (h : Hoist) (r : LoadRec) (s : State) : (startDip h r s).records.keys = s.records.keys := by
  have loads : (modLoad r.id (fun l => { l with state := .inCycle, hoist := some h }) s).records.keys =
      s.records.keys := by
    simp only [modLoad, Records.keys]
    rw [map_map_key]
    intro l
    split <;> rfl
  simp [startDip, keys_modJig, loads]

section Requests
variable {s : State} {i : Instr} {f : State → State × Answer}

/-- The requests of the Record Store keep the capacities and the keys single; PRESENT writes no key (R112). -/
theorem owner_tables (ho : ownerOf i = some f) (hi : writesTable i = true) (tables : s.tablesLawful) :
    (f s).1.tablesLawful := by
  have ⟨lo, ll, lj, no, nl, nj⟩ := tables
  have fewer {α : Type} {l : List α} {n : Nat} (hl : l.length ≤ n) (p : α → Bool) : (l.filter p).length ≤ n :=
    (List.length_filter_le p l).trans hl
  have room {α : Type} {l : List α} {n : Nat} (x : α) (hl : ¬ n ≤ l.length) : (l ++ [x]).length ≤ n := by
    simp only [List.length_append, List.length_singleton]
    omega
  cases i <;> simp only [writesTable, Bool.false_eq_true] at hi <;>
    simp only [ownerOf, Option.some.injEq] at ho <;> subst ho
  case openOrder n text =>
    unfold openOrder
    (repeat' split) <;> try exact tables
    next hnew hroom =>
    have hnew : s.order? n = none := by simpa using hnew
    exact ⟨room _ hroom, ll, lj, nodup_keys_append no (order?_eq_none_iff.1 hnew), nl, nj⟩
  case removeOrder n =>
    unfold removeOrder
    (repeat' split) <;> try exact tables
    exact ⟨fewer lo _, ll, lj, nodup_keys_filter no _, nl, nj⟩
  case registerLoad id _ _ _ _ _ _ _ _ _ =>
    unfold registerLoad
    (repeat' split) <;> try exact tables
    next hnew hroom =>
    have hnew : s.load? id = none := by simpa using hnew
    exact ⟨lo, room _ hroom, lj, no, nodup_keys_append nl (load?_eq_none_iff.1 hnew), nj⟩
  case removeLoad n =>
    unfold removeLoad
    (repeat' split) <;> try exact tables
    exact ⟨lo, fewer ll _, lj, no, nodup_keys_filter nl _, nj⟩
  case addJig n base allowance =>
    unfold addJig
    split <;> try exact tables
    split
    next =>
      split <;> try exact tables
      simpa [tablesLawful_iff, keys_modJig] using (tablesLawful_iff s).1 tables
    next hnew =>
      split <;> try exact tables
      next hroom => exact ⟨lo, ll, room _ hroom, no, nl, nodup_keys_append nj (jig?_eq_none_iff.1 hnew)⟩
  case removeJig n =>
    unfold removeJig
    (repeat' split) <;> try exact tables
    exact ⟨lo, ll, fewer lj _, no, nl, nodup_keys_filter nj _⟩
  case present n id =>
    unfold present
    (repeat' split) <;> try exact tables
    rw [taken_fst, tablesLawful_iff, (endEvent_frame _).2.2.2.2.2.2.2.2.2.1, keys_startDip]
    exact (tablesLawful_iff s).1 tables

/-! ## The law of the carried loads (R3, R7) -/

/-- The law reads no key. -/
theorem lawful_of_sameHoists {t : State} (hs : s.carryView.Lawful) (seq : ∀ h, t.seq h = s.seq h)
    (active : t.active = s.active) (inCycle : t.records.inCycle = s.records.inCycle) : t.carryView.Lawful := by
  have same : t.carryView.inCycle = s.carryView.inCycle := inCycle
  refine ⟨same ▸ hs.hoisted, same ▸ hs.alone, same ▸ hs.single, fun ha h => ?_, fun ha h id => ?_⟩
  · rw [carryView_stage, seq]
    exact hs.sound (active.symm.trans ha) h
  · rw [same, carryView_stage, seq]
    exact hs.carried (active.symm.trans ha) h id

section Record
variable {r : LoadRec} (tables : s.tablesLawful) (hr : r ∈ s.records.loads) (hstate : r.state ≠ .inCycle)
include tables hr hstate

/-- The record of a load IN_CYCLE has another id than a record in another state. -/
theorem id_ne_of_inCycle {l : LoadRec} (hl : l ∈ s.records.loads) (cycle : l.state = .inCycle) : l.id ≠ r.id := by
  obtain ⟨-, -, -, -, ids, -⟩ := tables
  exact fun same => hstate (List.inj_on_of_nodup_map ids hl hr same ▸ cycle)

/-- A load record that is not IN_CYCLE may leave the table (R121). -/
theorem inCycle_removed :
    Records.inCycle { s.records with loads := s.records.loads.filter (fun l => !decide (l.id = r.id)) } =
      s.records.inCycle := by
  simp only [Records.inCycle, List.filter_filter]
  congr 1
  refine List.filter_congr fun l hl => ?_
  by_cases cycle : l.state = .inCycle
  · simp [id_ne_of_inCycle tables hr hstate hl cycle]
  · simp [cycle]

/-- PRESENT brings its load into the cycle, and no other (R7). -/
theorem mem_inCycle_startDip {h : Hoist} (e : Nat × Option Hoist) :
    e ∈ (startDip h r s).records.inCycle ↔ e ∈ s.records.inCycle ∨ e = (r.id, some h) := by
  have loads : (startDip h r s).records.loads =
      s.records.loads.map (fun l => if l.id = r.id then { l with state := .inCycle, hoist := some h } else l) := by
    rw [startDip_eq rfl]
    simp
  rw [Records.mem_inCycle, Records.mem_inCycle, loads]
  constructor
  · rintro ⟨x, hx, cycle, hid, hh⟩
    obtain ⟨l, hl, rfl⟩ := List.mem_map.1 hx
    split at cycle
    next same =>
      simp only [same, if_true] at hid hh
      exact .inr (Prod.ext hid.symm hh.symm)
    next other =>
      simp only [other, if_false] at hid hh
      exact .inl ⟨l, hl, cycle, hid, hh⟩
  · rintro (⟨l, hl, cycle, hid, hh⟩ | rfl)
    · exact ⟨l, List.mem_map.2 ⟨l, hl, if_neg (id_ne_of_inCycle tables hr hstate hl cycle)⟩, cycle, hid, hh⟩
    · exact ⟨_, List.mem_map_of_mem hr, by rw [if_pos rfl], by rw [if_pos rfl], by rw [if_pos rfl]⟩

/-- A dip starts at a hoist without a load, with a load that is not IN_CYCLE (R7). -/
theorem startDip_lawful {h : Hoist} (hp : (s.seq h).phase = .idle) (active : s.active = true)
    (hs : s.carryView.Lawful) : (startDip h r s).carryView.Lawful := by
  have mem (e : Nat × Option Hoist) :
      e ∈ (startDip h r s).carryView.inCycle ↔ e ∈ s.carryView.inCycle ∨ e = (r.id, some h) :=
    mem_inCycle_startDip tables hr hstate e
  have hoist : ((startDip h r s).seq h).carryStage =
      { (s.seq h).carryStage with phase := .weighIn, load := some r.id } := by
    rw [startDip_eq rfl]
    cases h <;> rfl
  have others (k : Hoist) (hk : k ≠ h) : (startDip h r s).seq k = s.seq k := by
    rw [startDip_eq rfl]
    match h, k, hk with
    | .A, .B, _ | .B, .A, _ => rfl
    | .A, .A, hk | .B, .B, hk => exact absurd rfl hk
  have fresh {e : Nat × Option Hoist} (he : e ∈ s.carryView.inCycle) : e.1 ≠ r.id := by
    obtain ⟨l, hl, cycle, hid, -⟩ := Records.mem_inCycle.1 he
    exact hid ▸ id_ne_of_inCycle tables hr hstate hl cycle
  have empty : (s.seq h).load = none :=
    (hs.sound active h).load.2 (by simp [carryView_stage, Sequencer.carryStage, hp, Phase.atRest])
  have unborne {e : Nat × Option Hoist} (he : e ∈ s.carryView.inCycle) : e.2 ≠ some h := fun hh => by
    have := (hs.carried active h e.1).1 (hh ▸ he)
    rw [carryView_stage, Sequencer.carryStage, empty] at this
    cases this
  refine ⟨fun e he => ?_, fun e he d hd same => ?_, fun e he d hd same => ?_, fun _ k => ?_, fun _ k id => ?_⟩
  · rcases (mem e).1 he with he | rfl
    · exact hs.hoisted e he
    · simp
  · rcases (mem e).1 he with he | rfl <;> rcases (mem d).1 hd with hd | rfl
    · exact hs.alone e he d hd same
    · exact absurd same (unborne he)
    · exact absurd same.symm (unborne hd)
    · rfl
  · rcases (mem e).1 he with he | rfl <;> rcases (mem d).1 hd with hd | rfl
    · exact hs.single e he d hd same
    · exact absurd same (fresh he)
    · exact absurd same.symm (fresh hd)
    · rfl
  · by_cases hk : k = h
    · subst hk
      rw [carryView_stage, hoist]
      exact ⟨by simp [Phase.atRest], nofun, (hs.sound active k).held⟩
    · rw [carryView_stage, others k hk]
      exact hs.sound active k
  · rw [mem, carryView_stage]
    by_cases hk : k = h
    · subst hk
      rw [hoist]
      refine ⟨fun he => he.elim (fun he => absurd rfl (unborne he)) fun he => ?_, fun hl => .inr ?_⟩
      · simp [(Prod.mk.inj he).1]
      · simpa [eq_comm] using hl
    · rw [others k hk]
      refine ⟨fun he => (hs.carried active k id).1 (he.resolve_right fun he => ?_),
        fun hl => .inl ((hs.carried active k id).2 hl)⟩
      exact hk (by simpa using (Prod.mk.inj he).2)

end Record

/-- The requests of the Record Store and PRESENT keep the law. -/
theorem owner_lawful (ho : ownerOf i = some f) (hi : writesTable i = true) (active : s.active = true)
    (tables : s.tablesLawful) (hs : s.carryView.Lawful) : (f s).1.carryView.Lawful := by
  have found {id : Nat} {r : LoadRec} (hf : s.load? id = some r) : r ∈ s.records.loads ∧ r.id = id :=
    ⟨List.mem_of_find?_eq_some hf, by simpa using List.find?_some hf⟩
  cases i <;> simp only [writesTable, Bool.false_eq_true] at hi <;>
    simp only [ownerOf, Option.some.injEq] at ho <;> subst ho
  case openOrder | removeOrder | removeJig =>
    simp only [openOrder, removeOrder, removeJig]
    (repeat' split) <;> exact lawful_of_sameHoists hs (fun _ => rfl) rfl rfl
  case addJig =>
    unfold addJig
    (repeat' split) <;> exact lawful_of_sameHoists hs (fun _ => rfl) rfl rfl
  case registerLoad =>
    unfold registerLoad
    (repeat' split) <;> try exact hs
    refine lawful_of_sameHoists hs (fun _ => rfl) rfl ?_
    simp [Records.inCycle, LoadRec.made]
  case removeLoad id =>
    unfold removeLoad
    split <;> try exact hs
    split <;> try exact hs
    next r hf =>
    split <;> try exact hs
    next hstate =>
    obtain ⟨hr, rfl⟩ := found hf
    exact lawful_of_sameHoists hs (fun _ => rfl) rfl (inCycle_removed tables hr hstate)
  case present n id =>
    unfold present
    split <;> try exact hs
    next h _ =>
    (repeat' split) <;> try exact hs
    next hp _ r hf ready =>
    have registered : r.state ≠ .inCycle := by
      rw [(presentable_iff.1 ready).1]
      decide
    rw [taken_fst, carryView_endEvent]
    exact startDip_lawful tables (found hf).1 registered (not_not.1 hp) active hs

end Requests

end Sys2Proof.Machine
end

section
/-! PROOFS. The tables and the carried loads at the resets, and what every step keeps (R3, R32, R112, R194,
R197, R198). -/

namespace Sys2Proof.Machine

/-! ## The records through start-up -/

theorem keys_stageRecords (s : State) : (stageRecords s).records.keys = s.records.keys := by
  rw [stageRecords_records]
  simp only [Records.keys]
  rw [map_map_key fun r => (LoadRec.agree_frame _ r).2.2, map_map_key (f := JigRec.agree s.records.loads) fun _ => rfl]

theorem inCycle_stageRecords (s : State) : (stageRecords s).records.inCycle = s.records.inCycle := by
  rw [stageRecords_records]
  exact inCycle_map (fun r => (LoadRec.agree_frame _ r).2.2) (fun r => (LoadRec.agree_frame _ r).1)
    (fun r => (LoadRec.agree_frame _ r).2.1) s.records

/-- A part of the records that stage 5 leaves is left by every stage. -/
theorem stagesTo_keeps_records {α : Type} {f : Records → α} (agree : ∀ s, f (stageRecords s).records = f s.records)
    (k : ResetKind) (n : Nat) (s : State) : f (stagesTo k n s).records = f s.records := by
  refine stagesTo_keeps (f := fun u => f u.records) (fun i u => ?_) n s
  by_cases hi : i = 5
  · subst hi
    exact agree u
  · rw [stage_records k u hi]

theorem stagesTo_loads (k : ResetKind) (n : Nat) (s : State) :
    (stagesTo k n s).records.keys = s.records.keys ∧ (stagesTo k n s).records.inCycle = s.records.inCycle :=
  ⟨stagesTo_keeps_records keys_stageRecords k n s, stagesTo_keeps_records inCycle_stageRecords k n s⟩

/-- A hoist starts with the load IN_CYCLE with it, in RECOVER, or without one (R3, R32). -/
theorem startItems_carries {s : State} (alone : ∀ e ∈ s.records.inCycle, ∀ d ∈ s.records.inCycle, e.2 = d.2 → e.1 = d.1)
    (h : Hoist) : (s.startItems h).carryStage.Sound ∧
      ∀ id, (id, some h) ∈ s.records.inCycle ↔ (s.startItems h).load = some id := by
  have mem {r : LoadRec} (hr : s.inCycleWith h = some r) : (r.id, some h) ∈ s.records.inCycle := by
    obtain ⟨cycle, hh⟩ : r.state = .inCycle ∧ r.hoist = some h := by simpa using List.find?_some hr
    exact Records.mem_inCycle.2 ⟨r, List.mem_of_find?_eq_some hr, cycle, rfl, hh⟩
  unfold State.startItems
  split
  next hno =>
    refine ⟨⟨?_, fun _ => rfl, nofun⟩, fun id => ⟨fun he => ?_, nofun⟩⟩
    · cases he : (s.seq h).enabled <;> simp [Sequencer.carryStage, Sequencer.fresh, Phase.atRest]
    · obtain ⟨l, hl, cycle, -, hh⟩ := Records.mem_inCycle.1 he
      have := List.find?_eq_none.1 hno l hl
      simp [cycle, hh] at this
  next r hr =>
    refine ⟨⟨by simp [Sequencer.carryStage, Phase.atRest], nofun, nofun⟩, fun id => ⟨fun he => ?_, fun hl => ?_⟩⟩
    · exact congrArg some (alone _ (mem hr) _ he rfl)
    · obtain rfl : r.id = id := Option.some.inj hl
      exact mem hr

theorem stagesTo_eight_seq (k : ResetKind) (s : State) (h : Hoist) :
    (stagesTo k 8 s).seq h = (stagesTo k 6 s).startItems h := by
  rw [stagesTo_writes (f := fun u => u.seq h) (m := 7) (by omega) (fun _ u hi => stage_seq k u hi h), if_pos (by omega)]
  exact stagePhases_seq _ h

/-- The law holds where every hoist has the items in which it starts. -/
theorem lawful_of_startItems {s t u : State} (hs : s.carryView.Lawful) (before : u.records.inCycle = s.records.inCycle)
    (inCycle : t.records.inCycle = s.records.inCycle) (seq : ∀ h, t.seq h = u.startItems h) : t.carryView.Lawful := by
  have same : t.carryView.inCycle = s.carryView.inCycle := inCycle
  have alone : ∀ e ∈ u.records.inCycle, ∀ d ∈ u.records.inCycle, e.2 = d.2 → e.1 = d.1 := by
    rw [before]
    exact hs.alone
  refine ⟨same ▸ hs.hoisted, same ▸ hs.alone, same ▸ hs.single, fun _ h => ?_, fun _ h id => ?_⟩
  · rw [carryView_stage, seq]
    exact (startItems_carries alone h).1
  · rw [carryView_stage, seq, show t.carryView.inCycle = u.records.inCycle from inCycle.trans before.symm]
    exact (startItems_carries alone h).2 id

/-- The stages take the loads IN_CYCLE up again, each with its hoist (R32, R198). -/
theorem stagesTo_eight_carries (k : ResetKind) (s : State) : Carries s (stagesTo k 8 s) := by
  obtain ⟨keys, inCycle⟩ := stagesTo_loads k 8 s
  obtain ⟨-, before⟩ := stagesTo_loads k 6 s
  exact ⟨keys, fun hs => lawful_of_startItems hs before inCycle (stagesTo_eight_seq k s)⟩

/-- With the module in reset or without supply the law reads the records alone. -/
theorem Carries.of_stopped {s t : State} (keys : t.records.keys = s.records.keys)
    (inCycle : t.records.inCycle = s.records.inCycle) (stopped : t.active = false) : Carries s t := by
  have same : t.carryView.inCycle = s.carryView.inCycle := inCycle
  have never (ha : t.carryView.working = true) : False := by
    rw [show t.carryView.working = t.active from rfl, stopped] at ha
    cases ha
  exact ⟨keys, fun hs => ⟨same ▸ hs.hoisted, same ▸ hs.alone, same ▸ hs.single,
    fun ha => (never ha).elim, fun ha => (never ha).elim⟩⟩

theorem startUp_carries (k : ResetKind) (s : State) : Carries s (startUp k s) := by
  have drawn : (drawOvertaken s).carryView = s.carryView := rfl
  unfold startUp
  split
  · exact .after drawn (stagesTo_eight_carries k _).ended
  · obtain ⟨keys, inCycle⟩ := stagesTo_loads k (‹Fin 7›.val + 1) (drawOvertaken s)
    exact .of_stopped keys inCycle (by simp [State.active, overtakenAt])

/-! ## Resets (R194, R197) -/

theorem endWork_carries (s : State) : Carries s (endWork s) :=
  .of_stopped rfl rfl (by simp [State.active, endWork])

theorem powerDown_carries (cutOff : Bool) (s : State) : Carries s (powerDown cutOff s) :=
  .of_stopped rfl rfl (by simp [State.active, powerDown])

/-- A lost store has empty tables; a store that is found good stands as it was (R194). -/
theorem stageSupply_records (fast single key : Bool) (s : State) :
    (stageSupply fast single key s).records = s.records ∨
      (stageSupply fast single key s).records = { orders := [], loads := [], jigs := [] } := by
  have worked : (stageSupply fast single key s).records = (checkStore (supplyReset fast single s)).records := by
    cases key <;> rfl
  rw [worked, checkStore]
  split
  · exact .inl rfl
  · exact .inr rfl

theorem stageSupply_inactive (fast single key : Bool) (s : State) : (stageSupply fast single key s).active = false := by
  cases key <;> simp [stageSupply, readKey, endWork, State.active]

theorem powerUp_tables (fast single key : Bool) {s : State} (tables : s.tablesLawful) :
    (powerUp fast single key s).tablesLawful := by
  obtain ⟨started, -⟩ := startUp_carries .supply (stageSupply fast single key s)
  rw [tablesLawful_iff, powerUp, started]
  rcases stageSupply_records fast single key s with same | lost
  · rw [same]
    exact (tablesLawful_iff s).1 tables
  · rw [lost]
    simp [TableKeys.Lawful, Records.keys]

theorem powerUp_lawful (fast single key : Bool) {s : State} (hs : s.carryView.Lawful) :
    (powerUp fast single key s).carryView.Lawful := by
  refine (startUp_carries .supply _).2 ?_
  have stopped := stageSupply_inactive fast single key s
  rcases stageSupply_records fast single key s with same | lost
  · exact (Carries.of_stopped (s := s) (by rw [same]) (by rw [same]) stopped).2 hs
  · have noLoads : (stageSupply fast single key s).carryView.inCycle = [] := by
      simp [State.carryView, lost, Records.inCycle]
    have never (ha : (stageSupply fast single key s).carryView.working = true) : False := by
      rw [show (stageSupply fast single key s).carryView.working = _ from stopped] at ha
      cases ha
    refine ⟨?_, ?_, ?_, fun ha => (never ha).elim, fun ha => (never ha).elim⟩ <;> simp [noLoads]

/-! ## Every step -/

theorem Carries.tables {s t : State} (ht : Carries s t) (tables : s.tablesLawful) : t.tablesLawful := by
  rw [tablesLawful_iff, ht.1]
  exact (tablesLawful_iff s).1 tables

/-- A law that goes with the keys and the carried loads, and that the requests of the Record Store, PRESENT and
SUPPLY_ON keep, is kept by every step. -/
theorem step_keeps_carried {P : State → Prop} (carries : ∀ s t, Carries s t → P s → P t)
    (owner : ∀ i f s, ownerOf i = some f → writesTable i = true → s.active = true → P s → P (f s).1)
    (up : ∀ fast single key s, P s → P (powerUp fast single key s)) {s t : State} (hs : P s) (ht : step s = .next t) :
    P t := by
  refine step_keeps P (queue := fun s q => carries _ _ (.of_view rfl))
    (link := fun s _ _ _ _ => carries _ _ (.of_view rfl))
    (owner := fun i f s ho ha => ?_) (effect := fun i e s he _ => carries _ _ (effect_carries he s))
    (ends := fun s => carries _ _ (.of_view (carryView_endEvent s)))
    (press := fun h s _ => carries _ _ (pressButton_carries h s))
    (release := fun h s _ => carries _ _ (.of_view (carryView_releaseButton h s)))
    (level := fun h b s _ => carries _ _ (.of_view (carryView_holdLevel h s b)))
    (work := fun s => carries _ _ (endWork_carries s)) (start := fun k s _ => carries _ _ (startUp_carries k s))
    (down := fun x s => carries _ _ (powerDown_carries x s)) (up := up)
    (second := fun s _ => carries _ _ (.of_view (carryView_countSecond s))) hs ht
  cases hi : writesTable i with
  | true => exact owner i f s ho hi ha
  | false => exact carries _ _ (owner_carries ho hi s)

theorem step_keeps_tablesLawful {s t : State} (tables : s.tablesLawful) (ht : step s = .next t) : t.tablesLawful :=
  step_keeps_carried (P := State.tablesLawful) (fun _ _ carries => carries.tables)
    (fun _ _ _ ho hi _ => owner_tables ho hi) (fun fast single key _ => powerUp_tables fast single key) tables ht

/-- The law of the carried loads is kept with the tables lawful, where a load that is not IN_CYCLE has a key of
its own. -/
theorem step_keeps_carryLawful {s t : State} (tables : s.tablesLawful) (carry : s.carryLawful) (ht : step s = .next t) :
    t.carryLawful := by
  have both : t.tablesLawful ∧ t.carryView.Lawful :=
    step_keeps_carried (P := fun s => s.tablesLawful ∧ s.carryView.Lawful)
      (fun _ _ carries hs => ⟨carries.tables hs.1, carries.2 hs.2⟩)
      (fun _ _ _ ho hi active hs => ⟨owner_tables ho hi hs.1, owner_lawful ho hi active hs.1 hs.2⟩)
      (fun fast single key _ hs => ⟨powerUp_tables fast single key hs.1, powerUp_lawful fast single key hs.2⟩)
      ⟨tables, (carryLawful_iff tables).1 carry⟩ ht
  exact (carryLawful_iff both.1).2 both.2

end Sys2Proof.Machine

open Sys2Proof Sys2Proof.Machine

/-- Settles O53: the blocks' work leaves the keys, and each hoist at work with its load until its dip ends; the requests
of the Record Store, PRESENT and the resets are taken one by one. -/
theorem tablesAndCarriedLoadsStayLawful : Obligations.TablesAndCarriedLoadsStayLawful :=
  ⟨fun _ _ tables ht => step_keeps_tablesLawful tables ht,
    fun _ _ tables carry ht => step_keeps_carryLawful tables carry ht⟩

end

section
/-! PROOFS. Orders, loads and jigs by their tables (R112 to R126, R148). -/

namespace Sys2Proof.Machine

/-! ## Key ranges and the records that name a key (R112, R116, R126) -/

theorem orderOk_eq_false_iff (n : Nat) : orderOk n = false ↔ n = 0 ∨ 4294967295 < n := by
  simp only [orderOk, Bool.and_eq_false_iff, decide_eq_false_iff_not]
  omega

theorem loadOk_eq_false_iff (n : Nat) : loadOk n = false ↔ n = 0 ∨ 65535 < n := by
  simp only [loadOk, Bool.and_eq_false_iff, decide_eq_false_iff_not]
  omega

theorem jigOk_eq_false_iff (n : Nat) : jigOk n = false ↔ n = 0 ∨ 255 < n := by
  simp only [jigOk, Bool.and_eq_false_iff, decide_eq_false_iff_not]
  omega

theorem orderOk_of_range {n : Nat} (h1 : 1 ≤ n) (h2 : n ≤ 4294967295) : ¬ orderOk n = false := by
  rw [orderOk_eq_false_iff]
  omega

theorem loadOk_of_range {id : Nat} (h1 : 1 ≤ id) (h2 : id ≤ 65535) : ¬ loadOk id = false := by
  rw [loadOk_eq_false_iff]
  omega

theorem jigOk_of_range {n : Nat} (h1 : 1 ≤ n) (h2 : n ≤ 255) : ¬ jigOk n = false := by
  rw [jigOk_eq_false_iff]
  omega

theorem referenceOk_iff (text : List Nat) :
    referenceOk text = true ↔ text.length ≤ 16 ∧ ∀ c ∈ text, 0x20 ≤ c ∧ c ≤ 0x7E := by
  simp [referenceOk]

theorem order?_isSome_iff {s : State} {n : Nat} : (s.order? n).isSome ↔ ∃ o ∈ s.records.orders, o.number = n := by
  simp [State.order?]

theorem naming_isEmpty_iff {s : State} {n : Nat} :
    (s.naming n).isEmpty = false ↔ ∃ r ∈ s.records.loads, r.order = n := by
  simp [State.naming]

theorem namingInCycle_isEmpty_iff {s : State} {n : Nat} :
    (s.namingInCycle n).isEmpty = false ↔ ∃ r ∈ s.records.loads, r.order = n ∧ r.state = .inCycle := by
  simp [State.namingInCycle, State.naming, and_comm]

theorem onJig_isEmpty_iff {s : State} {n : Nat} :
    (s.onJig n).isEmpty = false ↔ ∃ r ∈ s.records.loads, r.jig = n ∧ r.state ≠ .complete := by
  simp [State.onJig]

theorem naming_length (s : State) (n : Nat) :
    (s.naming n).length = s.records.loads.countP (fun r => decide (r.order = n)) := by
  rw [State.naming, List.countP_eq_length_filter]

theorem namingInCycle_length (s : State) (n : Nat) :
    (s.namingInCycle n).length =
      s.records.loads.countP (fun r => decide (r.order = n) && decide (r.state = .inCycle)) := by
  simp only [State.namingInCycle, State.naming, List.filter_filter, List.countP_eq_length_filter, Bool.and_comm]

theorem onJig_length (s : State) (n : Nat) :
    (s.onJig n).length = s.records.loads.countP (fun r => decide (r.jig = n) && decide (r.state ≠ .complete)) := by
  rw [State.onJig, List.countP_eq_length_filter]

/-! ## Orders (R113 to R116) -/

section Orders
variable {n : Nat} {s : State}

/-- With a number and a reference of their ranges, OPEN_ORDER goes by the table. -/
theorem openOrder_checked {text : List Nat} (hn : ¬ orderOk n = false) (ht : ¬ referenceOk text = false) :
    openOrder n text s =
      if (s.order? n).isSome then refuse .exists s
      else if 32 ≤ s.records.orders.length then refuse .full s
      else taken { s with records :=
        { s.records with orders := s.records.orders ++ [OrderRec.made n text s.clock] } } := by
  rw [openOrder, if_neg hn, if_neg ht]
  rfl

theorem order_range (hn : orderOk n = false) :
    closeOrder n s = refuse .range s ∧ readOrder n s = refuse .range s ∧ removeOrder n s = refuse .range s :=
  ⟨if_pos hn, if_pos hn, if_pos hn⟩

variable (hn : ¬ orderOk n = false)
include hn

theorem order_notFound (ho : s.order? n = none) :
    closeOrder n s = refuse .notFound s ∧ readOrder n s = refuse .notFound s ∧
      removeOrder n s = refuse .notFound s := by
  simp [closeOrder, readOrder, removeOrder, hn, ho]

variable {o : OrderRec} (ho : s.order? n = some o)
include ho

theorem closeOrder_found :
    closeOrder n s =
      if ∃ r ∈ s.records.loads, r.order = n ∧ r.state = .inCycle then refuse .state s
      else if o.isOpen then taken (modOrder n (fun o => { o with isOpen := false, closed := some s.clock }) s)
      else taken s := by
  simp only [closeOrder, if_neg hn, ho, namingInCycle_isEmpty_iff]

theorem readOrder_found :
    readOrder n s =
      takenWith (.order o (s.records.loads.countP (fun r => decide (r.order = n)))
        (s.records.loads.countP (fun r => decide (r.order = n) && decide (r.state = .inCycle)))) s := by
  simp only [readOrder, if_neg hn, ho, naming_length, namingInCycle_length]

theorem removeOrder_found :
    removeOrder n s =
      if o.isOpen = true ∨ ∃ r ∈ s.records.loads, r.order = n then refuse .state s
      else taken { s with records :=
        { s.records with orders := s.records.orders.filter (fun o => !decide (o.number = n)) } } := by
  simp only [removeOrder, if_neg hn, ho, naming_isEmpty_iff]

end Orders

/-! ## Loads (R120, R121) -/

section Loads
variable {id : Nat} {s : State}

theorem load_range (hid : loadOk id = false) :
    readLoad id s = refuse .range s ∧ removeLoad id s = refuse .range s :=
  ⟨if_pos hid, if_pos hid⟩

variable (hid : ¬ loadOk id = false)
include hid

theorem load_notFound (hr : s.load? id = none) :
    readLoad id s = refuse .notFound s ∧ removeLoad id s = refuse .notFound s := by
  simp [readLoad, removeLoad, hid, hr]

variable {r : LoadRec} (hr : s.load? id = some r)
include hr

theorem readLoad_found : readLoad id s = takenWith (.load r r.perMille) s := by
  simp only [readLoad, if_neg hid, hr]

theorem removeLoad_found :
    removeLoad id s =
      if r.state = .inCycle then refuse .state s
      else taken { s with records :=
        { s.records with loads := s.records.loads.filter (fun r => !decide (r.id = id)) } } := by
  simp only [removeLoad, if_neg hid, hr]

end Loads

theorem LoadRec.perMille_eq_some {r : LoadRec} {p b : Nat} (hp : r.loadPickup = some p) (hb : r.blackNet = some b)
    (hpos : 0 < b) : r.perMille = some (p * 1000 / b) := by
  simp [LoadRec.perMille, hp, hb, hpos]

theorem LoadRec.perMille_eq_none {r : LoadRec}
    (h : r.loadPickup = none ∨ r.blackNet = none ∨ r.blackNet = some 0) : r.perMille = none := by
  unfold LoadRec.perMille
  rcases h with h | h | h
  · rw [h]
  · cases r.loadPickup <;> rw [h]
  · cases r.loadPickup <;> rw [h]; rfl

/-! ## Jigs (R122 to R126) -/

section Jigs
variable {n base allowance : Nat} {s : State}

theorem addJig_range (h : n = 0 ∨ 255 < n ∨ 50000 < base ∨ 2000 < allowance) :
    addJig n base allowance s = refuse .range s := by
  rw [addJig, if_pos]
  rw [jigOk_eq_false_iff]
  omega

theorem jig_range (hn : jigOk n = false) : readJig n s = refuse .range s ∧ removeJig n s = refuse .range s :=
  ⟨if_pos hn, if_pos hn⟩

variable (hn : ¬ jigOk n = false)
include hn

section Add
variable (hb : base ≤ 50000) (ha : allowance ≤ 2000)
include hb ha

theorem addJig_new (hj : s.jig? n = none) :
    addJig n base allowance s =
      if 64 ≤ s.records.jigs.length then refuse .full s
      else takenWith (.jigMade true) { s with records := { s.records with
        jigs := s.records.jigs ++ [{ number := n, base := base, allowance := allowance, buildUp := 0, dips := 0,
                                     overflow := false, carriedBy := none }] } } := by
  rw [addJig, if_neg (by simp [hn]; omega), hj]
  rfl

theorem addJig_found {j : JigRec} (hj : s.jig? n = some j) :
    addJig n base allowance s =
      if j.carriedBy.isSome then refuse .state s
      else takenWith (.jigMade false) (modJig n (fun j => { j with base := base, allowance := allowance }) s) := by
  rw [addJig, if_neg (by simp [hn]; omega), hj]

end Add

theorem jig_notFound (hj : s.jig? n = none) :
    readJig n s = refuse .notFound s ∧ removeJig n s = refuse .notFound s := by
  simp [readJig, removeJig, hn, hj]

variable {j : JigRec} (hj : s.jig? n = some j)
include hj

theorem readJig_found :
    readJig n s =
      takenWith (.jig j (j.base + j.buildUp)
        (s.records.loads.countP (fun r => decide (r.jig = n) && decide (r.state ≠ .complete)))) s := by
  simp only [readJig, if_neg hn, hj, onJig_length, JigRec.tare]

theorem removeJig_found :
    removeJig n s =
      if ∃ r ∈ s.records.loads, r.jig = n ∧ r.state ≠ .complete then refuse .state s
      else taken { s with records :=
        { s.records with jigs := s.records.jigs.filter (fun j => !decide (j.number = n)) } } := by
  simp only [removeJig, if_neg hn, hj, onJig_isEmpty_iff]

end Jigs

/-! ## STRIP_JIG (R125, R148, R152) -/

section Strip
variable {n : Nat} {tare : Option Nat} {s : State}

theorem stripJig_range (h : n = 0 ∨ 255 < n ∨ ∃ b, tare = some b ∧ 50000 < b) :
    stripJig n tare s = refuse .range s := by
  rw [stripJig, if_pos]
  rw [jigOk_eq_false_iff]
  rcases h with h | h | ⟨b, rfl, hb⟩
  · exact .inl (.inl h)
  · exact .inl (.inr h)
  · exact .inr hb

section Checked
variable (hn : ¬ jigOk n = false) (ht : ∀ b, tare = some b → b ≤ 50000)
include hn ht

theorem stripJig_values : ¬ (jigOk n = false ∨ 50000 < tare.getD 0) := by
  cases tare with
  | none => simp [hn]
  | some b => simpa [hn] using ht b rfl

theorem stripJig_notFound (hj : s.jig? n = none) : stripJig n tare s = refuse .notFound s := by
  rw [stripJig, if_neg (stripJig_values hn ht), hj]

theorem stripJig_found {j : JigRec} (hj : s.jig? n = some j) :
    stripJig n tare s =
      if j.carriedBy.isSome then refuse .state s
      else taken (changeBalance (fun b => b.strip j.buildUp) (modJig n (fun j => j.stripped tare) s)) := by
  rw [stripJig, if_neg (stripJig_values hn ht), hj]

end Checked

/-- The build-up goes to the jig-strip total of the open period, which stops at its limit (R148, R152). -/
theorem Balance.strip_eq (b : Balance) (w : Nat) :
    b.strip w = { b with current := { b.current with
      jigStrip := min (b.current.jigStrip + w) 4294967295
      overflow := b.current.overflow || decide (4294967295 < b.current.jigStrip + w) } } := by
  rw [Balance.strip, satAdd_eq_min]
  rfl

end Strip

end Sys2Proof.Machine

open Sys2Proof Sys2Proof.Machine

/-- Settles O18: each request by the range of its number, then by whether the order exists, then by its state and
loads. -/
theorem ordersAreOpenedClosedReadAndRemoved : Obligations.OrdersAreOpenedClosedReadAndRemoved := by
  refine ⟨fun n text s hl => ⟨fun hn => refused_of rfl hl (if_pos ((orderOk_eq_false_iff n).2 hn)), fun ht => ?_,
      fun h1 h2 hlen hchars => ?_⟩,
    fun n s hl => ⟨fun hn => ?_, fun h1 h2 => ⟨fun hnone => ?_, fun o ho => ?_⟩⟩⟩
  · have bad : referenceOk text = false := by
      rw [← Bool.not_eq_true, referenceOk_iff]
      rintro ⟨hlen, hchars⟩
      rcases ht with ht | ⟨c, hc, hout⟩
      · omega
      · have := hchars c hc
        omega
    refine refused_of rfl hl ?_
    unfold openOrder
    rw [if_pos bad, ite_self]
  · have good : ¬ referenceOk text = false := by simp [(referenceOk_iff text).2 ⟨hlen, hchars⟩]
    have checked := openOrder_checked (s := s) (orderOk_of_range h1 h2) good
    refine ⟨fun hex => refused_of rfl hl ?_, fun hnew => ⟨fun hfull => refused_of rfl hl ?_,
      fun hroom => taken_of rfl hl ?_⟩⟩
    · rw [checked, if_pos (order?_isSome_iff.2 hex)]
    · rw [checked, order?_eq_none_iff.2 hnew, if_neg (by simp), if_pos hfull]
    · rw [checked, order?_eq_none_iff.2 hnew, if_neg (by simp), if_neg (not_le.2 hroom)]
      cases text <;> rfl
  · obtain ⟨close, read, remove⟩ := order_range (s := s) ((orderOk_eq_false_iff n).2 hn)
    exact ⟨refused_of rfl hl close, refused_of rfl hl read, refused_of rfl hl remove⟩
  · obtain ⟨close, read, remove⟩ := order_notFound (orderOk_of_range h1 h2) (order?_eq_none_iff.2 hnone)
    exact ⟨refused_of rfl hl close, refused_of rfl hl read, refused_of rfl hl remove⟩
  · have hn := orderOk_of_range h1 h2
    have close := closeOrder_found hn ho
    have remove := removeOrder_found hn ho
    refine ⟨takenWith_of rfl hl (readOrder_found hn ho), fun hcycle => refused_of rfl hl (close.trans (if_pos hcycle)),
      fun hnone => ?_, fun hbusy => refused_of rfl hl (remove.trans (if_pos hbusy)),
      fun hclosed hnone => taken_of rfl hl ?_⟩
    · rw [if_neg (by simpa using hnone)] at close
      exact ⟨fun hclosed => taken_of rfl hl (by rw [close, if_neg (by simp [hclosed])]),
        fun hopen => taken_of rfl hl (by rw [close, if_pos hopen]; rfl)⟩
    · rw [remove, if_neg (by simpa [hclosed] using hnone)]

/-- Settles O20: each request by the range of its number, then by whether the record exists, then by its state. -/
theorem loadsAndJigsAreReadAndRemoved : Obligations.LoadsAndJigsAreReadAndRemoved := by
  refine ⟨fun id s hl => ⟨fun hid => ?_, fun h1 h2 => ⟨fun hnone => ?_, fun r hr => ?_⟩⟩,
    fun n base a s hl => ⟨fun hbad => refused_of rfl hl (addJig_range hbad), fun hn => ?_, fun h1 h2 =>
      ⟨fun hb ha => ⟨fun hnone hfull => ?_, fun hnone hroom => ?_, fun j hj => ?_⟩, fun hnone => ?_, fun j hj => ?_⟩⟩⟩
  · obtain ⟨read, remove⟩ := load_range (s := s) ((loadOk_eq_false_iff id).2 hid)
    exact ⟨refused_of rfl hl read, refused_of rfl hl remove⟩
  · obtain ⟨read, remove⟩ := load_notFound (loadOk_of_range h1 h2) (load?_eq_none_iff.2 hnone)
    exact ⟨refused_of rfl hl read, refused_of rfl hl remove⟩
  · have read := readLoad_found (loadOk_of_range h1 h2) hr
    have remove := removeLoad_found (loadOk_of_range h1 h2) hr
    exact ⟨fun p b hp hb hpos => takenWith_of rfl hl (by rw [read, LoadRec.perMille_eq_some hp hb hpos]),
      fun hno => takenWith_of rfl hl (by rw [read, LoadRec.perMille_eq_none hno]),
      fun hcycle => refused_of rfl hl (remove.trans (if_pos hcycle)),
      fun hcycle => taken_of rfl hl (remove.trans (if_neg hcycle))⟩
  · obtain ⟨read, remove⟩ := jig_range (s := s) ((jigOk_eq_false_iff n).2 hn)
    exact ⟨refused_of rfl hl read, refused_of rfl hl remove⟩
  · have add := addJig_new (jigOk_of_range h1 h2) hb ha (jig?_eq_none_iff.2 hnone)
    exact refused_of rfl hl (add.trans (if_pos hfull))
  · have add := addJig_new (jigOk_of_range h1 h2) hb ha (jig?_eq_none_iff.2 hnone)
    exact takenWith_of rfl hl (add.trans (if_neg (not_le.2 hroom)))
  · have add := addJig_found (jigOk_of_range h1 h2) hb ha hj
    refine ⟨fun hcarried => refused_of rfl hl ?_, fun hfree => takenWith_of rfl hl ?_⟩
    · rw [add, if_pos (Option.isSome_iff_ne_none.2 hcarried)]
    · rw [add, hfree, if_neg (by simp)]
      rfl
  · obtain ⟨read, remove⟩ := jig_notFound (jigOk_of_range h1 h2) (jig?_eq_none_iff.2 hnone)
    exact ⟨refused_of rfl hl read, refused_of rfl hl remove⟩
  · have remove := removeJig_found (jigOk_of_range h1 h2) hj
    exact ⟨takenWith_of rfl hl (readJig_found (jigOk_of_range h1 h2) hj),
      fun hnamed => refused_of rfl hl (remove.trans (if_pos hnamed)),
      fun hnone => taken_of rfl hl (remove.trans (if_neg (by simpa using hnone)))⟩

/-- Settles O21: `changeBalance` with the build-up of the jig found, whose record is emptied. -/
theorem stripHandsTheBuildUpToThePeriod : Obligations.StripHandsTheBuildUpToThePeriod := by
  refine fun n tare s hl => ⟨fun hbad => refused_of rfl hl (stripJig_range hbad), fun h1 h2 ht => ?_⟩
  have hn := jigOk_of_range h1 h2
  refine ⟨fun hnone => refused_of rfl hl (stripJig_notFound hn ht (jig?_eq_none_iff.2 hnone)), fun j hj => ?_⟩
  have found := stripJig_found hn ht hj
  refine ⟨fun hcarried => refused_of rfl hl ?_, fun spill hspill hfree => taken_of rfl hl ?_⟩
  · rw [found, if_pos (Option.isSome_iff_ne_none.2 hcarried)]
  · rw [found, hfree, if_neg (by simp), changeBalance_eq, Balance.strip_eq, hspill]
    rfl

end

section
/-! PROOFS. The entries of the Balance Unit: each keeps the book and the periods in their ranges and in balance (R138,
R147 to R152). -/

namespace Sys2Proof.Machine

/-! ## The law of the books, on the Balance Unit's own items -/

/-- What the law of the books asks of a closed period (R147, R150). -/
def Period.closedLawful (p : Period) : Prop :=
  p.lawful ∧ p.closeTime.isSome = true ∧ p.closingBook.isSome = true ∧ ∀ b ∈ p.closingBook.toList, p.balances b

/-- The law of the books, clause by clause. -/
structure Balance.Lawful (b : Balance) : Prop where
  low : -2000000000 ≤ b.book
  high : b.book ≤ 2000000000
  range : b.current.lawful
  balances : b.current.balances b.book
  noCloseTime : b.current.closeTime = none
  noClosingBook : b.current.closingBook = none
  room : b.closed.length ≤ 4
  closed : ∀ p ∈ b.closed, p.closedLawful

theorem booksLawful_iff (s : State) : s.booksLawful ↔ s.balance.Lawful :=
  ⟨fun ⟨low, high, range, balances, time, book, room, closed⟩ => ⟨low, high, range, balances, time, book, room, closed⟩,
    fun ⟨low, high, range, balances, time, book, room, closed⟩ => ⟨low, high, range, balances, time, book, room, closed⟩⟩

theorem Period.lawful_iff (p : Period) :
    p.lawful ↔ 1 ≤ p.number ∧ p.number ≤ 65535 ∧
      (p.charged ≤ 4294967295 ∧ p.pickup ≤ 4294967295 ∧ p.jigPickup ≤ 4294967295 ∧ p.dross ≤ 4294967295 ∧
        p.ash ≤ 4294967295 ∧ p.jigStrip ≤ 4294967295 ∧ p.steelLost ≤ 4294967295 ∧ p.dips ≤ 4294967295) ∧
      -2147483648 ≤ p.adjustment ∧ p.adjustment ≤ 2147483647 := by
  simp [Period.lawful]

/-! ## The entries in figures (R137, R139, R140, R143, R152) -/

theorem Balance.charge_eq (b : Balance) (w : Nat) :
    b.charge w = { b with
      book := b.book + w
      current := { b.current with
        charged := min (b.current.charged + w) 4294967295
        overflow := b.current.overflow || decide (4294967295 < b.current.charged + w) } } := by
  rw [Balance.charge, satAdd_eq_min]
  rfl

theorem Balance.takeDross_eq (b : Balance) (w : Nat) :
    b.takeDross w = { b with
      book := max (b.book - w) (-2000000000)
      current := { b.current with
        dross := min (b.current.dross + w) 4294967295
        overflow := b.current.overflow || decide (b.book - w < -2000000000) ||
          decide (4294967295 < b.current.dross + w) } } := by
  rw [Balance.takeDross, satAdd_eq_min, bookDown_eq_max]
  rfl

theorem Balance.takeAsh_eq (b : Balance) (w : Nat) :
    b.takeAsh w = { b with
      book := max (b.book - w) (-2000000000)
      current := { b.current with
        ash := min (b.current.ash + w) 4294967295
        overflow := b.current.overflow || decide (b.book - w < -2000000000) ||
          decide (4294967295 < b.current.ash + w) } } := by
  rw [Balance.takeAsh, satAdd_eq_min, bookDown_eq_max]
  rfl

theorem Balance.rebase_eq (b : Balance) (mass : Int) :
    b.rebase mass = { b with
      book := mass
      current := { b.current with
        adjustment := max (-2147483648) (min 2147483647 (b.current.adjustment + (mass - b.book)))
        overflow := b.current.overflow || decide (b.current.adjustment + (mass - b.book) < -2147483648 ∨
          2147483647 < b.current.adjustment + (mass - b.book)) } } := by
  rw [← rebase_overflow, ← satAdjust_eq]
  rfl

theorem Balance.post_eq (b : Balance) (f : Figures) {pick jig lost : Nat} (hpick : pick = f.loadPickup.getD 0)
    (hjig : jig = f.jigPickup.getD 0) (hlost : lost = f.steelLost.getD 0) {fall : Int}
    (hfall : fall = b.book - ((pick + jig : Nat) : Int)) :
    b.post f = { b with
      book := max fall (-2000000000)
      current := { b.current with
        pickup := min (b.current.pickup + pick) 4294967295
        jigPickup := min (b.current.jigPickup + jig) 4294967295
        steelLost := min (b.current.steelLost + lost) 4294967295
        dips := min (b.current.dips + 1) 4294967295
        overflow := b.current.overflow || decide (fall < -2000000000 ∨ 4294967295 < b.current.pickup + pick ∨
          4294967295 < b.current.jigPickup + jig ∨ 4294967295 < b.current.steelLost + lost ∨
          4294967295 < b.current.dips + 1) } } := by
  subst hpick hjig hlost hfall
  simp only [Balance.post, satAdd_eq_min, bookDown_eq_max, Bool.decide_or, ← Bool.or_assoc]
  rfl

/-! ## Each entry keeps the law -/

namespace Balance.Lawful

variable {b : Balance} (hb : b.Lawful)

include hb

/-- An entry of the open period that leaves its times keeps the law where its new figures do. -/
theorem enter {book : Int} {p : Period} (low : -2000000000 ≤ book) (high : book ≤ 2000000000) (range : p.lawful)
    (balances : p.balances book) (time : p.closeTime = b.current.closeTime)
    (closing : p.closingBook = b.current.closingBook) : Balance.Lawful { b with book := book, current := p } :=
  ⟨low, high, range, balances, time.trans hb.noCloseTime, closing.trans hb.noClosingBook, hb.room, hb.closed⟩

/-- The zinc of a posting leaves the book as pick-up of the load and of the jig (R137). -/
theorem post (f : Figures) : (b.post f).Lawful := by
  obtain ⟨low, high, range, balances, -⟩ := id hb
  rw [b.post_eq f rfl rfl rfl rfl]
  refine hb.enter (by omega) (by omega) ?_ (fun exact => ?_) rfl rfl
  · rw [Period.lawful_iff] at range ⊢
    simp [range]
  · simp only [Bool.or_eq_false_iff, decide_eq_false_iff_not] at exact
    have := balances exact.1
    dsimp only
    omega

/-- Ingots are charged only where the book has room for them (R139). -/
theorem charge {w : Nat} (room : b.book + w ≤ 2000000000) : (b.charge w).Lawful := by
  obtain ⟨low, high, range, balances, -⟩ := id hb
  rw [b.charge_eq]
  refine hb.enter (by omega) room ?_ (fun exact => ?_) rfl rfl
  · rw [Period.lawful_iff] at range ⊢
    simp [range]
  · simp only [Bool.or_eq_false_iff, decide_eq_false_iff_not] at exact
    have := balances exact.1
    dsimp only
    omega

/-- Dross and ash leave the book as two of the period's totals (R140). -/
theorem takeOut (w : Nat) : (b.takeDross w).Lawful ∧ (b.takeAsh w).Lawful := by
  obtain ⟨low, high, range, balances, -⟩ := id hb
  rw [b.takeDross_eq, b.takeAsh_eq]
  constructor <;> refine hb.enter (by omega) (by omega) ?_ (fun exact => ?_) rfl rfl
  case left.refine_1 | right.refine_1 =>
    rw [Period.lawful_iff] at range ⊢
    simp [range]
  case left.refine_2 | right.refine_2 =>
    simp only [Bool.or_eq_false_iff, decide_eq_false_iff_not] at exact
    have := balances exact.1.1
    dsimp only
    omega

/-- The jig-strip total is no part of the balance (R147, R148). -/
theorem strip (w : Nat) : (b.strip w).Lawful := by
  obtain ⟨low, high, range, balances, -⟩ := id hb
  rw [b.strip_eq]
  refine hb.enter low high ?_ (fun exact => ?_) rfl rfl
  · rw [Period.lawful_iff] at range ⊢
    simp [range]
  · exact balances (Bool.or_eq_false_iff.1 exact).1

/-- A rebase moves the book by what it enters as adjustment, and keeps its range where the mass has it (R143). -/
theorem rebase {mass : Int} (low : -2000000000 ≤ mass) (high : mass ≤ 2000000000) : (b.rebase mass).Lawful := by
  obtain ⟨-, -, range, balances, -⟩ := id hb
  rw [b.rebase_eq]
  refine hb.enter low high ?_ (fun exact => ?_) rfl rfl
  · rw [Period.lawful_iff] at range ⊢
    simp [range]
  · simp only [Bool.or_eq_false_iff, decide_eq_false_iff_not] at exact
    have := balances exact.1
    dsimp only
    omega

/-- The closed period keeps its figures and the book it ends with; the new one opens with that book (R149). -/
theorem closePeriod (room : b.closed.length < 4) (now : Nat) : (b.closePeriod now).Lawful := by
  obtain ⟨low, high, range, balances, -, -, -, closed⟩ := hb
  refine ⟨low, high, ?_, fun _ => ?_, rfl, rfl, ?_, fun p hp => ?_⟩
  · have numbered : 1 ≤ nextPeriod b.current.number ∧ nextPeriod b.current.number ≤ 65535 := by
      unfold nextPeriod
      split <;> omega
    rw [Period.lawful_iff]
    simp [Balance.closePeriod, Period.open, Period.fresh, numbered]
  · simp [Balance.closePeriod, Period.open, Period.fresh]
  · rw [Balance.closePeriod, List.length_append]
    exact room
  · rcases List.mem_append.1 hp with old | new
    · exact closed p old
    · obtain rfl := List.mem_singleton.1 new
      exact ⟨range, rfl, rfl, List.forall_mem_singleton.2 balances⟩

theorem discard {p : Period} {rest : List Period} (head : b.closed = p :: rest) :
    Balance.Lawful { b with closed := rest } := by
  obtain ⟨low, high, range, balances, time, closing, room, closed⟩ := hb
  rw [head] at room closed
  exact ⟨low, high, range, balances, time, closing, (Nat.le_succ _).trans room,
    fun q hq => closed q (List.mem_cons_of_mem _ hq)⟩

end Balance.Lawful

end Sys2Proof.Machine
end

section
/-! PROOFS. Every step keeps the book and the periods (R138, R147, R150, R152). -/

namespace Sys2Proof.Machine

/-! ## What the law of the books reads -/

/-- The book and the periods, without the reconciliations. -/
def State.books (s : State) : Int × Period × List Period := (s.balance.book, s.balance.current, s.balance.closed)

theorem booksLawful_congr {s t : State} (h : t.books = s.books) : t.booksLawful ↔ s.booksLawful := by
  simp only [State.books, Prod.mk.injEq] at h
  obtain ⟨book, current, closed⟩ := h
  simp only [State.booksLawful, book, current, closed]

theorem booksLawful_of_balance {s t : State} (h : t.balance = s.balance) : t.booksLawful ↔ s.booksLawful :=
  booksLawful_congr (by simp only [State.books, h])

@[simp] theorem changeBalance_balance (f : Balance → Balance) (s : State) :
    (changeBalance f s).balance = f s.balance := by
  simp [changeBalance]

@[simp] theorem withDepthTrials_balance (f : State → State) (s : State) :
    (withDepthTrials f s).balance = (f s).balance := by
  unfold withDepthTrials
  split <;> simp

@[simp] theorem lateOverdue_balance (h : Hoist) (s : State) : (lateOverdue h s).balance = s.balance := by
  unfold lateOverdue
  split <;> simp

@[simp] theorem bookChange_balance (f : Balance → Balance) (s : State) : (bookChange f s).1.balance = f s.balance := by
  simp [bookChange]

theorem booksLawful_bookChange {f : Balance → Balance} {s : State} (hf : (f s.balance).Lawful) :
    (bookChange f s).1.booksLawful := by
  rwa [booksLawful_iff, bookChange_balance]

@[simp] theorem endRecon_books (o : ReconOutcome) (s : State) : (endRecon o s).books = s.books := by
  unfold endRecon
  split <;> simp [State.books]

/-! ## The measured mass (R141, R143) -/

theorem density_range {t : Int} (low : 4000 ≤ t) (high : t ≤ 5500) : 0 ≤ density t ∧ density t ≤ 7000 := by
  unfold density floorDiv
  omega

/-- The largest kettle full of zinc is well within the book. -/
theorem measuredMass_range {q : QuietReading} (length : 0 ≤ q.length ∧ q.length ≤ 24000)
    (width : 0 ≤ q.width ∧ q.width ≤ 3000) (depth : 0 ≤ q.depth ∧ q.depth ≤ 4000)
    (density : 0 ≤ q.density ∧ q.density ≤ 7000) : 0 ≤ measuredMass q ∧ measuredMass q ≤ 2000000000 := by
  have area : 0 ≤ q.length * q.width ∧ q.length * q.width ≤ 24000 * 3000 :=
    ⟨mul_nonneg length.1 width.1, mul_le_mul length.2 width.2 width.1 (by decide)⟩
  have volume : 0 ≤ q.length * q.width * q.depth ∧ q.length * q.width * q.depth ≤ 24000 * 3000 * 4000 :=
    ⟨mul_nonneg area.1 depth.1, mul_le_mul area.2 depth.2 depth.1 (by decide)⟩
  have mass : 0 ≤ q.length * q.width * q.depth * q.density ∧
      q.length * q.width * q.depth * q.density ≤ 24000 * 3000 * 4000 * 7000 :=
    ⟨mul_nonneg volume.1 density.1, mul_le_mul volume.2 density.2 density.1 (by decide)⟩
  have bounds := measuredMass_bounds q
  omega

/-- The kettle's length, width and depth lie in their ranges (R190). -/
theorem kettle_range {s : State} (hs : s.settingsLawful) :
    (0 ≤ s.setting 1 ∧ s.setting 1 ≤ 24000) ∧ (0 ≤ s.setting 2 ∧ s.setting 2 ≤ 3000) ∧ s.setting 3 ≤ 4000 := by
  obtain ⟨-, range, -⟩ := hs
  have length := range 1 (by decide) (by decide)
  have width := range 2 (by decide) (by decide)
  have depth := range 3 (by decide) (by decide)
  simp only [State.settingRange] at length width depth
  omega

theorem quietMass_range {s : State} (hs : s.settingsLawful) {d t : Int} (valid : LevelValid s d t) :
    0 ≤ measuredMass (s.quietReading (s.setting 4 - d) t) ∧
      measuredMass (s.quietReading (s.setting 4 - d) t) ≤ 2000000000 := by
  obtain ⟨length, width, depth⟩ := kettle_range hs
  exact measuredMass_range length width ⟨valid.above.le, valid.within.trans depth⟩ (density_range valid.low valid.high)

/-! ## The work of a dip and of the bath -/

section Work

variable {h : Hoist} {s : State} (hs : s.booksLawful)

include hs

theorem booksLawful_post : (post h s).booksLawful := by
  unfold post
  dsimp only
  split
  · exact hs
  next r _ =>
    split
    · exact hs
    · rw [booksLawful_iff] at hs ⊢
      simpa [apply_ite State.balance] using hs.post _

theorem booksLawful_finishDip : (finishDip h s).booksLawful :=
  (booksLawful_of_balance (by simp [finishDip])).2 (booksLawful_post (h := h) hs)

theorem booksLawful_weighOutWith (w : Nat) (r : Option RangeFlag) (unsettled : Bool) :
    (weighOutWith h w r unsettled s).booksLawful := by
  unfold weighOutWith
  split
  · exact booksLawful_finishDip ((booksLawful_of_balance (by simp)).2 hs)
  · exact hs

theorem booksLawful_weighOutNone : (weighOutNone h s).booksLawful :=
  booksLawful_finishDip ((booksLawful_of_balance (by simp)).2 hs)

theorem booksLawful_weighOutPasses : (weighOutPasses h s).booksLawful := by
  have stopped : (stopWeigh h s).booksLawful := (booksLawful_of_balance (by simp)).2 hs
  unfold weighOutPasses
  split
  · exact booksLawful_weighOutWith stopped ..
  · split
    · exact booksLawful_weighOutNone stopped
    · exact stopped

theorem booksLawful_finishWithout : (finishWithout h s).booksLawful := by
  unfold finishWithout
  dsimp only
  split
  · exact booksLawful_weighOutNone ((booksLawful_of_balance (by simp)).2 hs)
  · exact (booksLawful_of_balance (by simp)).2 hs

theorem booksLawful_scaleReading (x : Int) : (scaleReading h x s).booksLawful := by
  have sampled : (goodSample h x s).1.booksLawful := (booksLawful_of_balance (by simp)).2 hs
  unfold scaleReading
  split
  next heq => rw [heq] at sampled; exact sampled
  next heq => rw [heq] at sampled; exact (booksLawful_of_balance (by simp)).2 sampled
  next heq => rw [heq] at sampled; exact booksLawful_weighOutWith sampled ..

/-- Without a rebase the book stands; with one it becomes the mass (R143). -/
theorem booksLawful_completeRecon {q : QuietReading} (mass : 0 ≤ measuredMass q ∧ measuredMass q ≤ 2000000000) :
    (completeRecon q s).booksLawful := by
  obtain ⟨low, high⟩ := mass
  unfold completeRecon
  split
  · exact hs
  next p _ =>
    cases p.rebase with
    | false => exact (booksLawful_congr (by simp [State.books])).2 hs
    | true =>
      have rebased : (changeBalance (fun b => b.rebase (measuredMass q)) s).booksLawful := by
        rw [booksLawful_iff] at hs ⊢
        simpa using hs.rebase (by omega) high
      exact (booksLawful_congr (by simp [State.books])).2 rebased

theorem booksLawful_levelAnswer (settings : s.settingsLawful) (d : Int) : (levelAnswer d s).booksLawful := by
  by_cases valid : ∃ t, LevelValid s d t
  · obtain ⟨t, valid⟩ := valid
    rw [levelAnswer_valid valid]
    have completed := booksLawful_completeRecon hs (quietMass_range settings valid)
    exact (booksLawful_of_balance (by simp [takeReading]; rfl)).2 completed
  · rwa [levelAnswer_invalid (not_exists.1 valid)]

theorem booksLawful_deliverReport (settings : s.settingsLawful) (st : Station) (r : FieldReport) :
    (deliverReport st r s).booksLawful := by
  have trials {f : State → State} (hf : (f s).booksLawful) : (withDepthTrials f s).booksLawful :=
    (booksLawful_of_balance (withDepthTrials_balance f s)).2 hf
  unfold deliverReport
  split
  · exact (booksLawful_of_balance (by simp)).2 hs
  · exact (booksLawful_of_balance (by simp)).2 hs
  · exact trials (booksLawful_scaleReading hs _)
  · exact trials (booksLawful_scaleReading hs _)
  · exact (booksLawful_of_balance (by split <;> simp)).2 hs
  · exact (booksLawful_of_balance (by simp)).2 hs
  · exact trials (booksLawful_levelAnswer hs settings _)
  · exact hs

/-- Of the ends of an attempt only a report of a scale or of the level gauge comes to the books. -/
theorem booksLawful_attemptEnds (settings : s.settingsLawful) (st : Station) (code : Nat) (r : FieldReport)
    (t : Transaction) : (attemptEnds st code r t s).booksLawful := by
  unfold attemptEnds transactionEnd
  split
  · exact (booksLawful_of_balance (by split <;> simp)).2 hs
  · split
    · split
      · exact booksLawful_deliverReport ((booksLawful_of_balance (by simp)).2 hs)
          ((settingsLawful_congr (by simp)).2 settings) ..
      · exact (booksLawful_of_balance (by simp)).2 hs
    · exact (booksLawful_of_balance (by simp)).2 hs

theorem booksLawful_attempt (settings : s.settingsLawful) (st : Station) (code : Nat) (r : FieldReport) :
    (answer st code r s).booksLawful ∧ (noAnswer st s).booksLawful := by
  unfold answer noAnswer
  split
  · exact ⟨booksLawful_attemptEnds hs settings .., booksLawful_attemptEnds hs settings ..⟩
  · exact ⟨hs, hs⟩

/-! ## The requests of the Balance Unit (R139 to R150) -/

theorem booksLawful_chargeZinc (w : Nat) : (chargeZinc w s).1.booksLawful := by
  unfold chargeZinc bookHigh
  split
  · exact hs
  next room => exact booksLawful_bookChange (((booksLawful_iff s).1 hs).charge (by omega))

theorem booksLawful_report (w : Nat) : (reportDross w s).1.booksLawful ∧ (reportAsh w s).1.booksLawful := by
  obtain ⟨dross, ash⟩ := ((booksLawful_iff s).1 hs).takeOut w
  unfold reportDross reportAsh
  split
  · exact ⟨hs, hs⟩
  · exact ⟨booksLawful_bookChange dross, booksLawful_bookChange ash⟩

theorem booksLawful_reconcile (choice : Nat) : (reconcile choice s).1.booksLawful := by
  unfold reconcile
  (repeat' split) <;> exact hs

theorem booksLawful_closePeriod : (closePeriod s).1.booksLawful := by
  rw [booksLawful_iff] at hs
  unfold closePeriod
  split
  next full => rwa [refuse_fst, booksLawful_iff]
  next room =>
    rw [taken_fst, booksLawful_iff]
    simpa using hs.closePeriod (Nat.lt_of_not_le room) _

theorem booksLawful_discardPeriod (n : Nat) : (discardPeriod n s).1.booksLawful := by
  unfold discardPeriod
  split
  · exact hs
  · split
    next p rest head =>
      split
      · exact (booksLawful_iff _).2 (((booksLawful_iff s).1 hs).discard head)
      · exact hs
    next => exact hs

theorem booksLawful_stripJig (n : Nat) (tare : Option Nat) : (stripJig n tare s).1.booksLawful := by
  unfold stripJig
  (repeat' split) <;> try exact hs
  rw [booksLawful_iff] at hs ⊢
  simpa using hs.strip _

/-! ## Commands -/

theorem booksLawful_onHoist {f : Hoist → State → State × Answer} (hf : ∀ h, (f h s).1.booksLawful) (n : Nat) :
    (onHoist n f s).1.booksLawful := by
  unfold onHoist
  (repeat' split) <;> first | exact hf _ | exact hs

/-- Every request keeps the law of the books. -/
theorem owner_booksLawful {i : Instr} {f : State → State × Answer} (ho : ownerOf i = some f) :
    (f s).1.booksLawful := by
  cases i <;> simp only [ownerOf, Option.some.injEq, reduceCtorEq] at ho <;> subst ho
  case chargeZinc w => exact booksLawful_chargeZinc hs w
  case reportDross w => exact (booksLawful_report hs w).1
  case reportAsh w => exact (booksLawful_report hs w).2
  case reconcile c => exact booksLawful_reconcile hs c
  case closePeriod => exact booksLawful_closePeriod hs
  case discardPeriod n => exact booksLawful_discardPeriod hs n
  case stripJig n tare => exact booksLawful_stripJig hs n tare
  case finishUnweighed =>
    refine booksLawful_onHoist hs (fun h => ?_) _
    (repeat' split) <;> try exact hs
    exact (booksLawful_of_balance (by simp)).2 (booksLawful_finishWithout (h := h) hs)
  case hold | resume | cancel | acceptUnweighed =>
    refine booksLawful_onHoist hs (fun h => ?_) _
    (repeat' split) <;> exact (booksLawful_of_balance (by simp)).2 hs
  case jog =>
    unfold jog
    split
    · exact hs
    · refine booksLawful_onHoist hs (fun h => ?_) _
      (repeat' split) <;> exact (booksLawful_of_balance (by simp)).2 hs
  case identify | setClock | restart | lockCalibration | readZones | readBalance | readFault | ackFault => exact hs
  case readStatus | readSetting | readClass | readOrder | readLoad | readJig | readPeriod =>
    simp only [readStatus, readSetting, readClass, readOrder, readLoad, readJig, readPeriod]
    (repeat' split) <;> exact hs
  case writeSetting | writeClass | setNoticeMask | fetchNotice | readFieldStatus =>
    simp only [writeSetting, writeClass, setNoticeMask, fetchNotice, readFieldStatus]
    (repeat' split) <;>
      exact (booksLawful_of_balance (by simp [putSetting, emptyAccumulators, Station.all])).2 hs
  case openOrder | closeOrder | removeOrder | registerLoad | removeLoad | addJig | removeJig =>
    simp only [openOrder, closeOrder, removeOrder, registerLoad, removeLoad, addJig, removeJig]
    (repeat' split) <;> exact (booksLawful_of_balance (by simp)).2 hs
  case present | enableHoist | disableHoist | setZoneService | claimZones | releaseZones | restoreSkimmer =>
    simp only [present, enableHoist, disableHoist, setZoneService, setService, claimZones, releaseZones, restoreSkimmer]
    (repeat' split) <;> exact (booksLawful_of_balance (by simp)).2 hs

/-- Every event of the blocks' work keeps the law of the books, the settings standing in their ranges. -/
theorem effect_booksLawful (settings : s.settingsLawful) {i : Instr} {e : State → State} (he : eventOf i = some e) :
    (e s).booksLawful := by
  cases i <;> simp only [eventOf, Option.some.injEq, reduceCtorEq] at he <;> subst he
  case weighOutTimeout h =>
    dsimp only
    split
    · exact (booksLawful_of_balance (withDepthTrials_balance ..)).2 (booksLawful_weighOutPasses (h := h) hs)
    · exact hs
  case reconcileTimeout =>
    dsimp only
    split
    · exact (booksLawful_congr (endRecon_books ..)).2 hs
    · exact hs
  case fieldNoAnswer st => exact (booksLawful_attempt hs settings st 0 .codeOnly).2
  case fieldAnswerReceived st code r => exact (booksLawful_attempt hs settings st code r).1
  all_goals exact (booksLawful_of_balance (by simp [apply_ite State.balance])).2 hs

end Work

/-! ## Resets (R145, R194, R198) -/

@[simp] theorem stage_books (k : ResetKind) (i : Nat) (s : State) : (stage k i s).books = s.books := by
  by_cases hi : i = 4
  · subst hi
    exact endRecon_books ..
  · rw [State.books, stage_balance k s hi, State.books]

@[simp] theorem startUp_books (k : ResetKind) (s : State) : (startUp k s).books = s.books := by
  have stages (n : Nat) : (stagesTo k n (drawOvertaken s)).books = s.books := stagesTo_keeps (stage_books k) n _
  unfold startUp
  split
  · simpa [State.books] using stages 8
  next i _ => exact stages (i.val + 1)

/-- A lost store opens period 1 with an empty book (R129, R194). -/
theorem fresh_booksLawful :
    Balance.Lawful { book := 0, current := Period.fresh, closed := [], last := none, pending := none } :=
  ⟨by decide, by decide, by rw [Period.lawful_iff]; decide, fun _ => rfl, rfl, rfl, by decide, by simp⟩

theorem powerUp_booksLawful {s : State} (hs : s.booksLawful) (fast single key : Bool) :
    (powerUp fast single key s).booksLawful := by
  have checked : (checkStore (supplyReset fast single s)).booksLawful := by
    unfold checkStore
    split
    · exact hs
    · exact (booksLawful_iff _).2 fresh_booksLawful
  refine (booksLawful_congr ?_).2 checked
  rw [powerUp, startUp_books]
  cases key <;> rfl

end Sys2Proof.Machine

open Sys2Proof Sys2Proof.Machine

/-- Settles O59: kept together with the ranges of the settings, since a rebase sets the book to the mass of a kettle of
the stored length, width and depth. -/
theorem bookAndPeriodsStayInRange : Obligations.BookAndPeriodsStayInRange := by
  intro s t settings books step
  have same {u v : State} (hu : u.booksLawful) (he : v.balance = u.balance) : v.booksLawful :=
    (booksLawful_of_balance he).2 hu
  refine (step_keeps (fun u => u.settingsLawful ∧ u.booksLawful) (queue := fun _ _ hu => hu)
    (link := fun _ _ _ _ _ hu => hu)
    (owner := fun i f u ho _ hu => ⟨owner_settingsLawful ho hu.1, owner_booksLawful hu.2 ho⟩)
    (effect := fun i e u he _ hu =>
      ⟨(settingsLawful_congr (effect_settings he u)).2 hu.1, effect_booksLawful hu.2 hu.1 he⟩)
    (ends := fun u hu => ⟨(settingsLawful_congr (by simp)).2 hu.1, same hu.2 (by simp)⟩)
    (press := fun h u _ hu => ⟨(settingsLawful_congr (by simp)).2 hu.1, same hu.2 (by simp)⟩)
    (release := fun h u _ hu => ⟨(settingsLawful_congr (by simp)).2 hu.1, same hu.2 (by simp)⟩)
    (level := fun h b u _ hu => ⟨(settingsLawful_congr (by simp [holdLevel])).2 hu.1, same hu.2 (by simp [holdLevel])⟩)
    (work := fun u hu => hu)
    (start := fun k u _ hu => ⟨(settingsLawful_congr (by simp)).2 hu.1, (booksLawful_congr (by simp)).2 hu.2⟩)
    (down := fun x u hu => hu)
    (up := fun f l k u hu => ⟨powerUp_settingsLawful hu.1 f l k, powerUp_booksLawful hu.2 f l k⟩)
    (second := fun u _ hu => hu) ⟨settings, books⟩ step).2

end

section
/-! PROOFS. RECONCILE, READ_BALANCE and the accounting periods (R142, R149 to R151). -/

namespace Sys2Proof.Machine

theorem choiceOf_of_one_lt {c : Nat} (h : 1 < c) : choiceOf c = none := by
  match c with
  | c + 2 => rfl

theorem choiceOf_byte (b : Bool) : choiceOf b.toNat = some b := by cases b <;> rfl

theorem choiceOf_of_le_one {c : Nat} (h : c ≤ 1) : ∃ b, choiceOf c = some b := by
  match c with
  | 0 => exact ⟨false, rfl⟩
  | 1 => exact ⟨true, rfl⟩

theorem periodOk_eq_false_iff (n : Nat) : periodOk n = false ↔ n = 0 ∨ 65535 < n := by
  simp only [periodOk, Bool.and_eq_false_iff, decide_eq_false_iff_not]
  omega

theorem periodOk_of_range {n : Nat} (h1 : 1 ≤ n) (h2 : n ≤ 65535) : ¬ periodOk n = false := by
  rw [periodOk_eq_false_iff]
  omega

section Requests
variable {s : State} {n : Nat}

/-! ## RECONCILE (R142) -/

theorem reconcile_range (h : 1 < n) : reconcile n s = refuse .range s := by
  simp only [reconcile, choiceOf_of_one_lt h]

theorem reconcile_busy (h : n ≤ 1) (waits : s.balance.pending ≠ none) : reconcile n s = refuse .busy s := by
  obtain ⟨b, choice⟩ := choiceOf_of_le_one h
  obtain ⟨p, pending⟩ := Option.ne_none_iff_exists'.1 waits
  simp only [reconcile, choice, pending]

theorem reconcile_taken (unasked : s.balance.pending = none) (b : Bool) :
    reconcile b.toNat s =
      taken { s with balance := { s.balance with
        pending := some { requested := s.link.clock, rebase := b, waited := 0 } } } := by
  simp only [reconcile, choiceOf_byte, unasked]
  rfl

/-! ## DISCARD_PERIOD and READ_PERIOD (R150, R151) -/

theorem period_range (h : n = 0 ∨ 65535 < n) :
    discardPeriod n s = refuse .range s ∧ readPeriod n s = refuse .range s :=
  ⟨if_pos ((periodOk_eq_false_iff n).2 h), if_pos ((periodOk_eq_false_iff n).2 h)⟩

variable (known : ¬ periodOk n = false)
include known

/-- Only the oldest closed period is discarded. -/
theorem discardPeriod_head {c : Period} {rest : List Period} (closed : s.balance.closed = c :: rest)
    (number : c.number = n) :
    discardPeriod n s = taken { s with balance := { s.balance with closed := rest } } := by
  rw [discardPeriod, if_neg known, closed]
  exact if_pos number

theorem discardPeriod_other (other : s.balance.closed.head?.map Period.number ≠ some n) :
    discardPeriod n s = refuse .state s := by
  rw [discardPeriod, if_neg known]
  cases closed : s.balance.closed with
  | nil => rfl
  | cons c rest => exact if_neg (by simpa [closed] using other)

theorem readPeriod_current (number : s.balance.current.number = n) :
    readPeriod n s = takenWith (.period s.balance.current (some s.balance.book)) s := by
  rw [readPeriod, if_neg known, if_pos number]

theorem readPeriod_closed (other : s.balance.current.number ≠ n) {c : Period}
    (found : s.balance.closed.find? (fun c => decide (c.number = n)) = some c) :
    readPeriod n s = takenWith (.period c none) s := by
  rw [readPeriod, if_neg known, if_neg other, found]

theorem readPeriod_notFound (other : s.balance.current.number ≠ n) (absent : ∀ c ∈ s.balance.closed, c.number ≠ n) :
    readPeriod n s = refuse .notFound s := by
  have unfound : s.balance.closed.find? (fun c => decide (c.number = n)) = none := by
    simpa using absent
  rw [readPeriod, if_neg known, if_neg other, unfound]

end Requests

end Sys2Proof.Machine

open Sys2Proof Sys2Proof.Machine

/-- Settles O45: each request by the range of its value, then by what waits, is closed or is open. -/
theorem periodsCloseAreReadAndDiscarded : Obligations.PeriodsCloseAreReadAndDiscarded := by
  rintro s p rfl listens
  refine ⟨fun c high => refused_of rfl listens (reconcile_range high),
    fun waits c low => refused_of rfl listens (reconcile_busy low waits),
    fun unasked b => taken_of rfl listens (reconcile_taken unasked b),
    fun full => refused_of rfl listens (if_pos full),
    fun room n hn => taken_of rfl listens ((if_neg (not_le.2 room)).trans (by rw [hn]; rfl)),
    fun n bad => ?_, fun n h1 h2 => ?_, takenWith_of rfl listens ?_⟩
  · obtain ⟨discard, read⟩ := period_range (s := s) bad
    exact ⟨refused_of rfl listens discard, refused_of rfl listens read⟩
  · have known := periodOk_of_range h1 h2
    exact ⟨fun c rest closed number => taken_of rfl listens (discardPeriod_head known closed number),
      fun other => refused_of rfl listens (discardPeriod_other known other),
      fun number => takenWith_of rfl listens (readPeriod_current known number),
      fun other => ⟨fun c found => takenWith_of rfl listens (readPeriod_closed known other found),
        fun absent => refused_of rfl listens (readPeriod_notFound known other absent)⟩⟩
  · simp only [readBalance, Option.map_map, Function.comp_def]

end

section
/-! PROOFS. The posting of a dip: its figures and the accounts that it writes (R130 to R137, R152). -/

namespace Sys2Proof.Machine

/-! ## The figures (R131 to R133) -/

section Figures
variable {i o a tare : Nat} {dTol : Int}

/-- A dip that lost no more than the tolerance is split by the jig's allowance (R131). -/
theorem figures_gained (h : -dTol ≤ (o : Int) - i) :
    figures (some i) (some o) a tare dTol =
      { loadPickup := some ((o - i) - min a (o - i)), jigPickup := some (min a (o - i)), blackNet := some (i - tare),
        galvNet := some ((i - tare) + ((o - i) - min a (o - i))), steelLost := none, suspect := false } :=
  if_pos h

/-- One that lost more has lost steel, and is suspect (R132). -/
theorem figures_lost (h : (o : Int) - i < -dTol) :
    figures (some i) (some o) a tare dTol =
      { loadPickup := some 0, jigPickup := some 0, blackNet := some (i - tare), galvNet := some (o - tare),
        steelLost := some (i - o), suspect := true } :=
  if_neg h.not_ge

end Figures

/-! ## A notice raised before or after an account is written -/

/-- LOSS_SUSPECT of a posting, where the dip is suspect (R132). -/
def lossNoted (h : Hoist) (id : Nat) (f : Figures) (dTol : Int) (s : State) : State :=
  if f.suspect = true then raise .lossSuspect (some h) (some id) (f.steelLost.map Int.ofNat) (some dTol) s else s

section Notices
variable (kind number : Nat) (before after : Bool) (h : Hoist) (id : Nat) (f : Figures) (dTol : Int) (s : State)

theorem modJig_saturated (n : Nat) (g : JigRec → JigRec) :
    modJig n g (saturated kind number before after s) = saturated kind number before after (modJig n g s) :=
  apply_ite (modJig n g) ..

theorem modOrder_lossNoted (n : Nat) (g : OrderRec → OrderRec) :
    modOrder n g (lossNoted h id f dTol s) = lossNoted h id f dTol (modOrder n g s) :=
  apply_ite (modOrder n g) ..

theorem modJig_lossNoted (n : Nat) (g : JigRec → JigRec) :
    modJig n g (lossNoted h id f dTol s) = lossNoted h id f dTol (modJig n g s) :=
  apply_ite (modJig n g) ..

theorem lossNoted_withBalance (b : Balance) :
    { lossNoted h id f dTol s with balance := b } = lossNoted h id f dTol { s with balance := b } :=
  apply_ite (fun t : State => { t with balance := b }) ..

@[simp] theorem lossNoted_frame :
    (lossNoted h id f dTol s).records = s.records ∧ (lossNoted h id f dTol s).balance = s.balance := by
  unfold lossNoted
  split <;> simp

/-- A flag that stands already is not noted again (R152). -/
theorem saturated_of_before : saturated kind number true after s = s :=
  if_neg (by simp)

@[simp] theorem saturated_records : (saturated kind number before after s).records = s.records := by
  simp [← noteSaturation_eq]

end Notices

/-! ## The shares of a posting (R134 to R137, R152) -/

theorem OrderRec.post_eq (x : OrderRec) (f : Figures) (nonconforming suspect unweighed : Bool) {black galv pick : Nat}
    (hblack : black = f.blackNet.getD 0) (hgalv : galv = f.galvNet.getD 0) (hpick : pick = f.loadPickup.getD 0) :
    x.post f nonconforming suspect unweighed = { x with
      blackNet := min (x.blackNet + black) 4294967295
      galvNet := min (x.galvNet + galv) 4294967295
      pickup := min (x.pickup + pick) 4294967295
      dipped := min (x.dipped + 1) 4294967295
      nonconforming := min (x.nonconforming + nonconforming.toNat) 4294967295
      lossSuspect := min (x.lossSuspect + suspect.toNat) 4294967295
      unweighed := min (x.unweighed + unweighed.toNat) 4294967295
      overflow := x.overflow || decide (4294967295 < x.blackNet + black ∨ 4294967295 < x.galvNet + galv ∨
        4294967295 < x.pickup + pick ∨ 4294967295 < x.dipped + 1 ∨
        4294967295 < x.nonconforming + nonconforming.toNat ∨ 4294967295 < x.lossSuspect + suspect.toNat ∨
        4294967295 < x.unweighed + unweighed.toNat) } := by
  subst hblack hgalv hpick
  simp only [OrderRec.post, satAdd_eq_min, Bool.decide_or, ← Bool.or_assoc]
  rfl

theorem JigRec.post_eq (x : JigRec) (jig : Nat) :
    x.post jig = { x with
      buildUp := min (x.buildUp + jig) 100000
      dips := min (x.dips + 1) 65535
      overflow := x.overflow || decide (100000 < x.buildUp + jig ∨ 65535 < x.dips + 1) } := by
  simp only [JigRec.post, satAdd_eq_min, Bool.decide_or, ← Bool.or_assoc]
  rfl

/-- What a table holds under a key after the record of that key is changed. -/
theorem find?_map_keyed {α : Type} (key : α → Nat) {f : α → α} (hf : ∀ x, key (f x) = key x) (n : Nat) (l : List α) :
    (l.map (fun x => if key x = n then f x else x)).find? (fun x => key x == n) =
      (l.find? (fun x => key x == n)).map f := by
  induction l with
  | nil => rfl
  | cons x l ih =>
    by_cases hx : key x = n
    · simp [hx, hf]
    · simp [hx, ih]

theorem order?_modOrder {f : OrderRec → OrderRec} (hf : ∀ x, (f x).number = x.number) (n : Nat) (s : State) :
    (modOrder n f s).order? n = (s.order? n).map f :=
  find?_map_keyed OrderRec.number hf n _

theorem jig?_modJig {f : JigRec → JigRec} (hf : ∀ x, (f x).number = x.number) (n : Nat) (s : State) :
    (modJig n f s).jig? n = (s.jig? n).map f :=
  find?_map_keyed JigRec.number hf n _

/-- The order's share of the posting of the load record `r` (R135). -/
def OrderRec.posted (x : OrderRec) (r : LoadRec) (f : Figures) : OrderRec :=
  x.post f r.flags.nonconforming (r.flags.lossSuspect || f.suspect) (r.wIn.isNone || r.wOut.isNone)

/-- The records and the books after the posting of the load record `r` (R134 to R137). -/
def posted (r : LoadRec) (f : Figures) (s : State) : State :=
  { s with
    records := {
      orders := s.records.orders.map (fun x => if x.number = r.order then x.posted r f else x)
      loads := s.records.loads.map (fun l => if l.id = r.id then l.post f s.clock else l)
      jigs := s.records.jigs.map (fun x => if x.number = r.jig then x.post (f.jigPickup.getD 0) else x) }
    balance := s.balance.post f }

/-- The load record's share, with the notice of a loss (R132, R134). -/
def loadShare (h : Hoist) (r : LoadRec) (f : Figures) (s : State) : State :=
  lossNoted h r.id f (s.setting 29) (modLoad r.id (fun l => l.post f s.clock) s)

/-- The order's share after it, with the notice of its flag (R135, R152). -/
def orderShare (h : Hoist) (r : LoadRec) (f : Figures) (s : State) : State :=
  let t := modOrder r.order (fun o => o.posted r f) (loadShare h r f s)
  saturated 1 r.order (((s.order? r.order).map OrderRec.overflow).getD true)
    (((t.order? r.order).map OrderRec.overflow).getD true) t

section Post
variable {h : Hoist} {s : State} {r : LoadRec} {f : Figures}

theorem orderShare_eq :
    orderShare h r f s =
      saturated 1 r.order (((s.order? r.order).map OrderRec.overflow).getD true)
        (((s.order? r.order).map (fun o => (o.posted r f).overflow)).getD true)
        (lossNoted h r.id f (s.setting 29)
          (modOrder r.order (fun o => o.posted r f) (modLoad r.id (fun l => l.post f s.clock) s))) := by
  have order : (modOrder r.order (fun o => o.posted r f) (loadShare h r f s)).order? r.order =
      (s.order? r.order).map (fun o => o.posted r f) := by
    refine (order?_modOrder (f := fun o => o.posted r f) (fun _ => rfl) ..).trans ?_
    simp [loadShare, State.order?, modLoad]
  simp only [orderShare, order, Option.map_map]
  rw [loadShare, modOrder_lossNoted]
  rfl

theorem orderShare_jig? (n : Nat) : (orderShare h r f s).jig? n = s.jig? n := by
  simp [orderShare_eq, State.jig?, modOrder, modLoad]

variable (carried : s.carried h = some r)
include carried

/-- The accounts of a posting are all written, and its notices stand in their order (R130, R132, R137, log entry 29). -/
theorem post_eq {j : JigRec} (jig : s.jig? r.jig = some j)
    (hf : f = figures r.wIn r.wOut j.allowance j.tare (s.setting 29)) (unposted : r.postingTime = none) :
    post h s = refreshDepth
      (saturated 3 s.balance.current.number s.balance.current.overflow (s.balance.post f).current.overflow
        (saturated 2 r.jig j.overflow (j.post (f.jigPickup.getD 0)).overflow
          (saturated 1 r.order (((s.order? r.order).map OrderRec.overflow).getD true)
            (((s.order? r.order).map (fun o => (o.posted r f).overflow)).getD true)
            (lossNoted h r.id f (s.setting 29) (posted r f s))))) := by
  have steps : post h s = refreshDepth (changeBalance (fun b => b.post f)
      (saturated 2 r.jig j.overflow
        ((((modJig r.jig (fun j => j.post (f.jigPickup.getD 0)) (orderShare h r f s)).jig? r.jig).map
          JigRec.overflow).getD true)
        (modJig r.jig (fun j => j.post (f.jigPickup.getD 0)) (orderShare h r f s)))) := by
    simp only [post, carried, unposted, jig, Option.isSome_none, Bool.false_eq_true, if_false, Option.map_some,
      Option.getD_some, noteSaturation_eq]
    subst hf
    rfl
  have jigWritten : (modJig r.jig (fun j => j.post (f.jigPickup.getD 0)) (orderShare h r f s)).jig? r.jig =
      some (j.post (f.jigPickup.getD 0)) := by
    refine (jig?_modJig (f := fun j => j.post (f.jigPickup.getD 0)) (fun _ => rfl) ..).trans ?_
    rw [orderShare_jig?, jig, Option.map_some]
  have balance : (modJig r.jig (fun j => j.post (f.jigPickup.getD 0)) (orderShare h r f s)).balance = s.balance := by
    simp [orderShare_eq]
  rw [steps, jigWritten, changeBalance_eq, saturated_balance, saturated_withBalance, balance, orderShare_eq]
  simp only [modJig_saturated, modJig_lossNoted, saturated_withBalance, lossNoted_withBalance]
  rfl

/-- A load that has a posting time is not posted again (R130). -/
theorem post_of_posted (before : r.postingTime ≠ none) : post h s = s := by
  simp only [post, carried, Option.isSome_iff_ne_none.2 before, if_true]

end Post

end Sys2Proof.Machine

open Sys2Proof Sys2Proof.Machine

/-- Settles O43: the figures by the weights and the tolerance, and the posting by whether the load has been posted. -/
theorem postingSplitsAndWritesEveryAccountOnce : Obligations.PostingSplitsAndWritesEveryAccountOnce := by
  refine ⟨fun i o a tare dTol f => ⟨fun hf _ gain => ?_, fun hf _ loss => ?_, ?_, ?_, rfl⟩, ?_⟩
  · rw [figures_gained gain] at hf
    subst hf
    refine ⟨rfl, rfl, _, _, _, _, rfl, rfl, rfl, rfl, ?_⟩
    omega
  · rw [figures_lost loss] at hf
    subst hf
    refine ⟨rfl, rfl, rfl, _, _, _, rfl, rfl, rfl, ?_⟩
    omega
  · simp [figures]
    omega
  · simp [figures]
    omega
  · intro h id s r j f carries found jig hf
    have carried : s.carried h = some r := (carried_eq carries).trans found
    obtain rfl : r.id = id := by simpa using List.find?_some found
    refine ⟨post_of_posted carried, ?_⟩
    rintro black galv pick jigPick lost orderFlag before orderPost jigPost p p' fall s₁ hblack hgalv hpick hjig hlost rfl
      hfall horder hjigPost hp' hflags hs₁ unposted
    have orderShares : orderPost = fun x => x.posted r f := by
      rw [horder]
      exact funext fun x => (OrderRec.post_eq x f _ _ _ hblack hgalv hpick).symm
    have jigShares : jigPost = fun x => x.post (f.jigPickup.getD 0) := by
      rw [hjigPost, hjig]
      exact funext fun x => (x.post_eq _).symm
    have books : s.balance.post f = { s.balance with book := max fall (-2000000000), current := p' } := by
      rw [hp', s.balance.post_eq f hpick hjig hlost hfall]
    have written : s₁ = posted r f s := by
      rw [hs₁, orderShares, jigShares, ← books]
      rfl
    rw [post_eq carried jig hf unposted, books, jigShares, written]
    rcases hflags with ⟨o, order, rfl, rfl⟩ | ⟨missing, rfl⟩
    · rw [State.order?, order, orderShares]
      rfl
    · rw [State.order?, missing, Option.map_none, Option.getD_none, saturated_of_before, saturated_of_before]
      rfl

end

section
/-! PROOFS. The end of all work by the reset input and by the loss of supply (R170, R186, R188, R197). -/

namespace Sys2Proof.Machine

/-- Each of the three commands ends all work; they differ in the marks of the module alone (R197). -/
theorem exec_ends {s : State} {c : Instr} (ends : c ∈ [Instr.resetInputAsserted, .supplyLost false, .supplyLost true])
    (on : s.unit.powered = true) : ∃ u : Module, exec c s = .next { endWork s with unit := u } ∧
      (c = .resetInputAsserted → u = { s.unit with restartPending := false, inReset := true, starting := none }) ∧
      ∀ cut, c = .supplyLost cut → u =
        { s.unit with restartPending := false, powered := false, inReset := false, starting := none,
                      checkGood := s.unit.checkGood && !cut } := by
  have asserted : exec .resetInputAsserted s = .next (endWork s) :=
    congrArg Host.Outcome.next (if_pos on)
  have lost (cut : Bool) : exec (.supplyLost cut) s = .next (powerDown cut s) :=
    congrArg Host.Outcome.next (if_pos on)
  simp only [List.mem_cons, List.not_mem_nil, or_false] at ends
  rcases ends with rfl | rfl | rfl
  · exact ⟨_, asserted, fun _ => rfl, fun _ other => nomatch other⟩
  · exact ⟨_, lost false, nofun, fun _ same => Instr.supplyLost.inj same ▸ rfl⟩
  · exact ⟨_, lost true, nofun, fun _ same => Instr.supplyLost.inj same ▸ rfl⟩

theorem seq_endWork (h : Hoist) (s : State) :
    (endWork s).seq h = Sequencer.fresh (s.seq h).enabled (s.seq h).pressed := by cases h <;> rfl

theorem eng_endWork (h : Hoist) (s : State) : (endWork s).eng h = { s.eng h with weigh := none } := by
  cases h <;> rfl

theorem station_endWork (st : Station) (s : State) : (endWork s).station st = (s.station st).idled := by
  cases st <;> rfl

end Sys2Proof.Machine

open Sys2Proof Sys2Proof.Machine

/-- Settles O12: both commands end the work of the blocks by `endWork`, and the module's own marks apart. -/
theorem resetInputAndLossOfSupplyEndAllWork : Obligations.ResetInputAndLossOfSupplyEndAllWork := by
  intro s c ends on
  obtain ⟨u, outcome, asserted, lost⟩ := exec_ends ends on
  refine ⟨_, outcome, asserted, lost, rfl, fun h => ?_, fun h => ?_, rfl, rfl, fun st => ?_, rfl, rfl, rfl, rfl, rfl,
    rfl, rfl, rfl, rfl, rfl, rfl⟩
  · exact (seq_congr rfl rfl h).trans (seq_endWork h s)
  · exact (eng_congr rfl rfl h).trans (eng_endWork h s)
  · exact (station_congr rfl st).trans (station_endWork st s)

end

section
/-! PROOFS. The fault record and READ_FIELD_STATUS (R165, R168, R169, R182). -/

namespace Sys2Proof.Machine

section Capture
variable {r : FaultRecord} {s : State}

/-- A full record keeps its fields (R168). -/
theorem capture_full (full : s.capture.record ≠ none) :
    capture r s = { s with capture := { s.capture with multiple := true } } := by
  obtain ⟨kept, record⟩ := Option.ne_none_iff_exists'.1 full
  simp only [capture, record]

theorem capture_empty (empty : s.capture.record = none) :
    capture r s = raise .fieldFault r.hoist r.load (some (r.cause.number : Int)) r.data
      { s with capture := { s.capture with record := some r } } := by
  simp only [capture, empty]

end Capture

/-- A station with its accumulator emptied, its last code left (R165). -/
def StationState.forgotten (x : StationState) : StationState := { x with accum := List.replicate 8 false }

/-- The field line with the accumulators emptied. -/
def FieldLine.forgotten (f : FieldLine) : FieldLine :=
  { f with
    driveA := f.driveA.forgotten, driveB := f.driveB.forgotten, scaleA := f.scaleA.forgotten
    scaleB := f.scaleB.forgotten, skimmer := f.skimmer.forgotten, thermo := f.thermo.forgotten
    level := f.level.forgotten }

theorem emptyAccumulators_eq (s : State) : emptyAccumulators s = { s with field := s.field.forgotten } := by
  simp only [emptyAccumulators, Station.all, List.foldl_cons, List.foldl_nil, modStation, setStation, State.station,
    FieldLine.forgotten, StationState.forgotten]

theorem readFieldStatus_range {c : Nat} (high : 1 < c) (s : State) : readFieldStatus c s = refuse .range s := by
  simp only [readFieldStatus, choiceOf_of_one_lt high]

theorem readFieldStatus_kept (s : State) :
    readFieldStatus 0 s = takenWith (.fieldStatus (Station.all.map (stationStatus s))) s := rfl

theorem readFieldStatus_cleared (s : State) :
    readFieldStatus 1 s =
      takenWith (.fieldStatus (Station.all.map (stationStatus s))) { s with field := s.field.forgotten } := by
  rw [← emptyAccumulators_eq]
  rfl

end Sys2Proof.Machine

open Sys2Proof Sys2Proof.Machine

/-- Settles O46: `capture` by whether the record is empty, and the requests by their owners. -/
theorem faultAndFieldStatusAreReadAndCleared : Obligations.FaultAndFieldStatusAreReadAndCleared := by
  refine ⟨⟨fun s listens => ⟨takenWith_of rfl listens rfl, taken_of rfl listens rfl⟩,
      fun r s => ⟨capture_full, fun empty => ⟨fun st code cause => ?_, fun cause => ?_⟩⟩⟩, ?_⟩
  · rw [capture_empty empty, cause]
    rfl
  · rw [capture_empty empty, cause]
    rfl
  · rintro s report listens rfl
    refine ⟨fun c high => refused_of rfl listens (readFieldStatus_range high s),
      takenWith_of rfl listens (readFieldStatus_kept s), s.field.forgotten,
      takenWith_of rfl listens (readFieldStatus_cleared s), rfl, rfl, rfl, fun st => ?_⟩
    cases st <;> rfl

end

section
/-! PROOFS. What falls due at a station, and how an attempt on the line ends (R155, R156, R160, R162). -/

namespace Sys2Proof.Machine

theorem Command.halts_iff (c : Command) : c.halts = true ↔ c = .stop ∨ c = .abort := by
  cases c <;> simp [Command.halts]

/-! ## Polls and retries (R156, R160) -/

section Due
variable {s : State} {st : Station}

theorem polled_of_inactive (resting : s.active = false) (st : Station) : s.polled st = false := by
  simp [State.polled, resting]

theorem polled_drive_iff (active : s.active = true) (h : Hoist) :
    s.polled (driveOf h) = true ↔ (s.seq h).phase ≠ .disabled := by
  cases h <;> simp [State.polled, active, driveOf, State.seq]

theorem polled_scale_iff (active : s.active = true) (h : Hoist) :
    s.polled (scaleOf h) = true ↔ (s.eng h).weigh ≠ none := by
  cases h <;> simp [State.polled, active, scaleOf, State.eng, Option.isSome_iff_ne_none]

theorem polled_skimmer_iff (active : s.active = true) : s.polled .skimmer = true ↔ s.skimmer.mode = .sweeping := by
  simp [State.polled, active]

theorem polled_thermo (active : s.active = true) : s.polled .thermo = true := by simp [State.polled, active]

theorem polled_level_iff (active : s.active = true) : s.polled .level = true ↔ s.bath.quiet = true := by
  simp [State.polled, active]

theorem duePoll_polled (polled : s.polled st = true) (begun : st ≠ .skimmer ∨ s.skimmer.pollsBegun = true) :
    duePoll st s = pollFallsDue st s :=
  if_pos (by simpa [polled] using begun)

theorem duePoll_unpolled (away : s.polled st = false) : duePoll st s = s := if_neg (by simp [away])

theorem dueRetry_awaited {t : Transaction} (trans : (s.station st).trans = some t) (awaits : t.stage = .awaitRetry) :
    dueRetry st s =
      setStation st { s.station st with trans := some { t with stage := .retryDue s.field.instant } } s := by
  simp only [dueRetry, trans, awaits, if_true]
  rfl

theorem dueRetry_unawaited (none : ∀ t, (s.station st).trans = some t → t.stage ≠ .awaitRetry) :
    dueRetry st s = s := by
  unfold dueRetry
  split
  next t trans => exact if_neg (none t trans)
  next => rfl

end Due

/-! ## The attempt on the line -/

section Attempt
variable {x : StationState} {t : Transaction}

theorem StationState.attempt_of_onLine (trans : x.trans = some t) (onLine : t.stage = .onLine) :
    x.attempt = some t := by
  simp only [StationState.attempt, trans, onLine, if_true]

theorem StationState.attempt_of_not_onLine (none : ∀ t, x.trans = some t → t.stage ≠ .onLine) :
    x.attempt = Option.none := by
  unfold StationState.attempt
  split
  next t trans => exact if_neg (none t trans)
  next => rfl

/-- A poll gives way to any command that waits, a move or sweep to a stop or abort (R162, log entry 51). -/
theorem StationState.abandons_iff (k : TransKind) :
    x.abandons k = true ↔ (k = .poll ∧ x.cmds ≠ []) ∨
      ∃ d, k = .command d ∧ d ≠ .stop ∧ d ≠ .abort ∧ ∃ w ∈ x.cmds, w.cmd = .stop ∨ w.cmd = .abort := by
  cases k with
  | poll => simp [StationState.abandons]
  | command d =>
    simp [StationState.abandons, ← Bool.not_eq_true, Command.halts_iff, and_assoc]

variable {s : State} {st : Station} {code : Nat} {r : FieldReport}

/-- A station whose transaction has ended with this code (R155, R164). -/
def StationState.ended (x : StationState) (code : Nat) : StationState :=
  { x with accum := x.accum.set code true, trans := none, lastCode := some code }

theorem attemptEnds_retried (again : retried code = true) (few : t.attempts < 3)
    (free : ¬ (s.station st).abandons t.kind = true) :
    attemptEnds st code r t s = setStation st
      { s.station st with
        accum := (s.station st).accum.set code true
        trans := some { t with attempts := t.attempts + 1, stage := .awaitRetry } } s :=
  (if_pos ⟨again, few⟩).trans (if_neg free)

theorem attemptEnds_abandoned (again : retried code = true) (few : t.attempts < 3)
    (gone : (s.station st).abandons t.kind = true) :
    attemptEnds st code r t s =
      setStation st { s.station st with accum := (s.station st).accum.set code true, trans := none } s :=
  (if_pos ⟨again, few⟩).trans (if_pos gone)

theorem attemptEnds_final (final : retried code = false ∨ 3 ≤ t.attempts) :
    attemptEnds st code r t s =
      transactionEnd st code t.kind (t.attempts + 1) r (setStation st ((s.station st).ended code) s) := by
  refine if_neg ?_
  rintro ⟨again, few⟩
  rcases final with once | many
  · simp [again] at once
  · omega

theorem exec_answer (active : s.active = true) (onLine : (s.station st).attempt = some t) :
    exec (.fieldAnswerReceived st code r) s =
      .next (endEvent (attemptEnds st (answerCode st t.kind code r) r t s)) := by
  rw [exec_eventOf rfl active, answer, onLine]

theorem exec_noAnswer (active : s.active = true) (onLine : (s.station st).attempt = some t) :
    exec (.fieldNoAnswer st) s = .next (endEvent (attemptEnds st 6 .codeOnly t s)) := by
  rw [exec_eventOf rfl active, noAnswer, onLine]

/-- With no attempt on the line the end of one finds nothing (log entry 5). -/
theorem exec_unattempted (active : s.active = true) (idle : (s.station st).attempt = none) :
    exec (.fieldAnswerReceived st code r) s = .next (endEvent s) ∧
      exec (.fieldNoAnswer st) s = .next (endEvent s) := by
  rw [exec_eventOf rfl active, exec_eventOf rfl active, answer, noAnswer, idle]
  exact ⟨rfl, rfl⟩

/-- An attempt with no answer, or with code 1, ends with a code that is retried (R156). -/
theorem exec_failed {c : Instr} (active : s.active = true)
    (fails : (c = .fieldNoAnswer st ∧ code = 6) ∨ ∃ r, c = .fieldAnswerReceived st 1 r ∧ code = 1) :
    ((s.station st).attempt = none → exec c s = .next (endEvent s)) ∧
      retried code = true ∧
      ∀ t, (s.station st).attempt = some t → ∃ r, exec c s = .next (endEvent (attemptEnds st code r t s)) := by
  rcases fails with ⟨rfl, rfl⟩ | ⟨r, rfl, rfl⟩
  · exact ⟨fun idle => (exec_unattempted (code := 6) (r := .codeOnly) active idle).2, rfl,
      fun t onLine => ⟨_, exec_noAnswer active onLine⟩⟩
  · refine ⟨fun idle => (exec_unattempted active idle).1, rfl, fun t onLine => ⟨r, ?_⟩⟩
    have code : answerCode st t.kind 1 r = 1 := by
      cases kind : t.kind <;> simp [answerCode, carriesReport]
    rw [exec_answer active onLine, code]

end Attempt

end Sys2Proof.Machine

open Sys2Proof Sys2Proof.Machine

/-- Settles O47: the polls by their conditions, and a failed attempt by whether its transaction gives way. -/
theorem pollsAndAttemptsOnTheLine : Obligations.PollsAndAttemptsOnTheLine := by
  refine ⟨fun h s => ⟨polled_of_inactive, fun active => ⟨polled_drive_iff active h, polled_scale_iff active h,
        polled_skimmer_iff active, polled_thermo active, polled_level_iff active⟩, fun st => pollFallsDue_eq st s⟩,
    fun st s active => ⟨fun polled begun => ?_, fun away => ?_, fun t trans awaits => ?_, fun none => ?_⟩, ?_⟩
  · rw [exec_eventOf rfl active, duePoll_polled polled begun, pollFallsDue_eq]
    rfl
  · rw [exec_eventOf rfl active, duePoll_unpolled away]
  · rw [exec_eventOf rfl active, dueRetry_awaited trans awaits]
  · rw [exec_eventOf rfl active, dueRetry_unawaited none]
  · rintro st s x c code rfl active fails
    obtain ⟨idle, again, ends⟩ := exec_failed active fails
    refine ⟨fun none => idle (StationState.attempt_of_not_onLine none), fun t trans onLine few => ?_⟩
    obtain ⟨r, outcome⟩ := ends t (StationState.attempt_of_onLine trans onLine)
    rw [outcome]
    refine ⟨fun stays => ?_, fun gives => ?_⟩
    · rw [attemptEnds_retried again few]
      rw [StationState.abandons_iff]
      rintro (⟨poll, waits⟩ | ⟨d, command, notStop, notAbort, w, waits, halts⟩)
      · rcases stays with ⟨-, empty⟩ | ⟨d, command, -⟩
        · exact waits empty
        · simp [poll] at command
      · rcases stays with ⟨poll, -⟩ | ⟨e, same, stays⟩
        · simp [poll] at command
        · obtain rfl : d = e := by simpa [command] using same
          rcases stays with stop | abort | clear
          · exact notStop stop
          · exact notAbort abort
          · obtain ⟨unstopped, unaborted⟩ := clear w waits
            exact halts.elim unstopped unaborted
    · rw [attemptEnds_abandoned again few ((StationState.abandons_iff _).2 gives)]

end

section
/-! PROOFS. What a station does with a command asked of it, and what the line chooses (R161, R162, R171). -/

namespace Sys2Proof.Machine

/-! ## Asking for a command (R162) -/

section Ask
variable {x : StationState} {c : Command} {now : Nat}

/-- The stops and aborts that wait. -/
def StationState.halting (x : StationState) : List WaitingCommand :=
  x.cmds.filter (fun w => decide (w.cmd = .stop ∨ w.cmd = .abort))

theorem StationState.ask_cmds :
    (x.ask c now).cmds = if c.halts = true then
      (if x.halting = [] then [{ cmd := c, due := now }] else x.halting)
      else x.halting ++ [{ cmd := c, due := now }] := by
  have waiting : x.cmds.filter (fun w => w.cmd.halts) = x.halting :=
    List.filter_congr fun w _ => by rw [Bool.eq_iff_iff, Command.halts_iff, decide_eq_true_iff]
  simp only [StationState.ask, waiting, List.isEmpty_iff]

theorem StationState.ask_halt (halts : c = .stop ∨ c = .abort) :
    (x.ask c now).cmds = if x.halting = [] then [{ cmd := c, due := now }] else x.halting := by
  rw [ask_cmds, if_pos (c.halts_iff.2 halts)]

theorem StationState.ask_motion (notStop : c ≠ .stop) (notAbort : c ≠ .abort) :
    (x.ask c now).cmds = x.halting ++ [{ cmd := c, due := now }] := by
  rw [ask_cmds, if_neg]
  rw [c.halts_iff]
  exact not_or.2 ⟨notStop, notAbort⟩

theorem StationState.halting_eq_nil (none : ∀ w ∈ x.cmds, w.cmd ≠ .stop ∧ w.cmd ≠ .abort) : x.halting = [] := by
  rw [halting, List.filter_eq_nil_iff]
  intro w waits
  simpa using none w waits

/-- A poll is given up until its retry is begun, a command until its retry falls due (R171, log entry 41). -/
theorem Transaction.waitsRetry_iff (t : Transaction) :
    t.waitsRetry = true ↔ t.stage ≠ .onLine ∧ (t.kind = .poll ∨ t.stage = .awaitRetry) := by
  obtain ⟨kind, attempts, stage⟩ := t
  cases stage <;> cases kind <;> simp [Transaction.waitsRetry]

/-- The transaction in progress is given up for the command asked for (R162). -/
def Transaction.yields (t : Transaction) (c : Command) : Prop :=
  t.stage ≠ .onLine ∧
    (t.kind = .poll ∨
      ∃ d, t.kind = .command d ∧ t.stage = .awaitRetry ∧ (c = .stop ∨ c = .abort) ∧ d ≠ .stop ∧ d ≠ .abort)

theorem StationState.ask_trans {t : Transaction} (trans : x.trans = some t) :
    (t.yields c → (x.ask c now).trans = none) ∧ (¬ t.yields c → (x.ask c now).trans = some t) := by
  have gone : (t.waitsRetry && (match t.kind with
      | .poll => true
      | .command d => c.halts && !d.halts)) = true ↔ t.yields c := by
    rw [Bool.and_eq_true, Transaction.waitsRetry_iff, Transaction.yields]
    cases t.kind with
    | poll => simp
    | command d => simp [← Bool.not_eq_true, Command.halts_iff, and_assoc]
  simp only [StationState.ask, trans]
  refine ⟨fun yields => if_pos (gone.2 yields), fun stays => if_neg (stays ∘ gone.1)⟩

theorem StationState.ask_trans_none (idle : x.trans = none) : (x.ask c now).trans = none := by
  simp [StationState.ask, idle]

end Ask

/-! ## The due transaction of a station (R161) -/

section Candidate
variable {x : StationState} {t : Transaction}

theorem TransKind.group_command (c : Command) :
    (TransKind.command c).group = if c = .stop ∨ c = .abort then 1 else 2 := by
  simp only [TransKind.group, c.halts_iff]

theorem StationState.candidate_retryDue {due : Nat} (trans : x.trans = some t) (stage : t.stage = .retryDue due) :
    x.candidate = some (t.kind.group, due) := by
  simp only [candidate, trans, stage]

theorem StationState.candidate_unbegun (trans : x.trans = some t) (busy : t.stage = .onLine ∨ t.stage = .awaitRetry) :
    x.candidate = none := by
  rcases busy with stage | stage <;> simp only [candidate, trans, stage]

theorem StationState.candidate_command {w : WaitingCommand} (idle : x.trans = none) (head : x.cmds.head? = some w) :
    x.candidate = some ((TransKind.command w.cmd).group, w.due) := by
  obtain ⟨rest, waits⟩ := List.head?_eq_some_iff.1 head
  simp only [candidate, idle, waits]

theorem StationState.candidate_poll (idle : x.trans = none) (empty : x.cmds = []) :
    x.candidate = x.pollDue.map (fun d => (3, d)) := by
  simp only [candidate, idle, empty]

theorem StationState.begin_retry (trans : x.trans = some t) :
    x.begin = { x with trans := some { t with stage := .onLine } } := by
  simp only [StationState.begin, trans]

theorem StationState.begin_command {w : WaitingCommand} {rest : List WaitingCommand} (idle : x.trans = none)
    (waits : x.cmds = w :: rest) :
    x.begin = { x with cmds := rest, trans := some { kind := .command w.cmd, attempts := 0, stage := .onLine } } := by
  simp only [StationState.begin, idle, waits]

theorem StationState.begin_poll (idle : x.trans = none) (empty : x.cmds = []) :
    x.begin = { x with pollDue := none, trans := some { kind := .poll, attempts := 0, stage := .onLine } } := by
  simp only [StationState.begin, idle, empty]

/-- What is begun is an attempt on the line; the codes seen stand, and a poll that waits is at most taken up. -/
theorem StationState.begin_spec (x : StationState) :
    x.begin.onLine = true ∧ x.begin.lastCode = x.lastCode ∧ x.begin.accum = x.accum ∧
      (x.pollDue = none → x.begin.pollDue = none) := by
  unfold StationState.begin
  split
  next => exact ⟨rfl, rfl, rfl, id⟩
  next =>
    split
    next => exact ⟨rfl, rfl, rfl, id⟩
    next => exact ⟨rfl, rfl, rfl, fun _ => rfl⟩

end Candidate

/-! ## The line's choice (R161) -/

/-- One candidate is served before another: by its group, then its due time, then the place of its station. -/
def served (c c' : Nat × Nat) (n n' : Nat) : Prop :=
  c.1 < c'.1 ∨ (c.1 = c'.1 ∧ (c.2 < c'.2 ∨ (c.2 = c'.2 ∧ n ≤ n')))

section Choice
variable {s : State}

theorem earlier_iff (a b : Nat × Nat) : earlier a b = true ↔ a.1 < b.1 ∨ (a.1 = b.1 ∧ a.2 < b.2) := by
  simp [earlier]

/-- The best of the candidates seen so far and of one station more. -/
def State.better (s : State) (best : Option (Station × (Nat × Nat))) (st : Station) :
    Option (Station × (Nat × Nat)) :=
  match (s.station st).candidate with
  | none => best
  | some c =>
    match best with
    | none => some (st, c)
    | some (_, b) => if earlier c b then some (st, c) else best

theorem nextStation_eq (s : State) : s.nextStation = (Station.all.foldl s.better none).map Prod.fst := rfl

/-- `best` is the candidate that is served first among the stations `seen`. -/
def State.Leads (s : State) (seen : List Station) : Option (Station × (Nat × Nat)) → Prop
  | none => ∀ st ∈ seen, (s.station st).candidate = none
  | some (st, c) => st ∈ seen ∧ (s.station st).candidate = some c ∧
      ∀ st' ∈ seen, ∀ c', (s.station st').candidate = some c' → served c c' st.number st'.number

theorem leads_better {seen : List Station} {best : Option (Station × (Nat × Nat))} {st : Station}
    (leads : s.Leads seen best) (later : ∀ st' ∈ seen, st'.number ≤ st.number) :
    s.Leads (seen ++ [st]) (s.better best st) := by
  have seenOrNew (p : Station → Prop) : (∀ st' ∈ seen ++ [st], p st') ↔ (∀ st' ∈ seen, p st') ∧ p st := by
    simp [or_imp, forall_and]
  unfold State.better
  cases candidate : (s.station st).candidate with
  | none =>
    cases best with
    | none => exact (seenOrNew _).2 ⟨leads, candidate⟩
    | some b =>
      obtain ⟨seenBest, own, first⟩ := leads
      exact ⟨List.mem_append_left _ seenBest, own,
        (seenOrNew _).2 ⟨first, fun c' other => by simp [candidate] at other⟩⟩
  | some c =>
    have own (c' : Nat × Nat) (same : (s.station st).candidate = some c') : c = c' := by simpa [candidate] using same
    cases best with
    | none =>
      refine ⟨by simp, candidate, (seenOrNew _).2 ⟨fun st' old c' other => ?_, fun c' same => ?_⟩⟩
      · simp [leads st' old] at other
      · obtain rfl := own c' same
        exact .inr ⟨rfl, .inr ⟨rfl, le_rfl⟩⟩
    | some b =>
      obtain ⟨st₀, b⟩ := b
      obtain ⟨seenBest, ownBest, first⟩ := leads
      dsimp only
      split
      next before =>
        rw [earlier_iff] at before
        refine ⟨by simp, candidate, (seenOrNew _).2 ⟨fun st' old c' other => ?_, fun c' same => ?_⟩⟩
        · have := first st' old c' other
          unfold served at this ⊢
          omega
        · obtain rfl := own c' same
          exact .inr ⟨rfl, .inr ⟨rfl, le_rfl⟩⟩
      next after =>
        rw [earlier_iff] at after
        refine ⟨List.mem_append_left _ seenBest, ownBest, (seenOrNew _).2 ⟨first, fun c' same => ?_⟩⟩
        obtain rfl := own c' same
        have := later st₀ seenBest
        unfold served
        omega

theorem leads_foldl (l : List Station) {seen : List Station} {best : Option (Station × (Nat × Nat))}
    (leads : s.Leads seen best) (sorted : (seen ++ l).Pairwise (fun a b => a.number ≤ b.number)) :
    s.Leads (seen ++ l) (l.foldl s.better best) := by
  induction l generalizing seen best with
  | nil => simpa using leads
  | cons st l ih =>
    have later : ∀ st' ∈ seen, st'.number ≤ st.number := fun st' old =>
      (List.pairwise_append.1 sorted).2.2 st' old st (by simp)
    have next := ih (leads_better leads later) (by simpa using sorted)
    simpa using next

/-- The line's choice is served first of all stations. -/
theorem leads_all (s : State) : s.Leads Station.all (Station.all.foldl s.better none) :=
  leads_foldl Station.all (seen := []) (fun _ => nofun) (by decide)

theorem mem_allStations (st : Station) : st ∈ Station.all := by cases st <;> decide

theorem nextStation_none (undue : s.nextStation = none) (st : Station) : (s.station st).candidate = none := by
  have leads := leads_all s
  rw [nextStation_eq, Option.map_eq_none_iff] at undue
  rw [undue] at leads
  exact leads st (mem_allStations st)

theorem nextStation_some {st : Station} (next : s.nextStation = some st) :
    ∃ c, (s.station st).candidate = some c ∧
      ∀ st' c', (s.station st').candidate = some c' → served c c' st.number st'.number := by
  have leads := leads_all s
  rw [nextStation_eq, Option.map_eq_some_iff] at next
  obtain ⟨⟨_, c⟩, best, rfl⟩ := next
  rw [best] at leads
  obtain ⟨-, own, first⟩ := leads
  exact ⟨c, own, fun st' => first st' (mem_allStations st')⟩

theorem lineFree_iff (s : State) :
    s.lineFree = true ↔ ∀ st t, (s.station st).trans = some t → t.stage ≠ .onLine := by
  have free (x : StationState) : x.onLine = false ↔ ∀ t, x.trans = some t → t.stage ≠ .onLine := by
    unfold StationState.onLine
    cases x.trans <;> simp
  simp only [State.lineFree, List.all_eq_true, Bool.not_eq_true', free]
  exact ⟨fun all st => all st (mem_allStations st), fun all st _ => all st⟩

theorem arbitrate_busy (busy : s.lineFree = false) : arbitrate s = s := if_neg (by simp [busy])

theorem arbitrate_idle (undue : s.nextStation = none) : arbitrate s = s := by
  simp only [arbitrate, undue, ite_self]

theorem arbitrate_begins {st : Station} (free : s.lineFree = true) (next : s.nextStation = some st) :
    arbitrate s = setStation st (s.station st).begin s := by
  simp only [arbitrate, free, next, if_true]
  rfl

/-- The line begins the attempt of one station, or stands (R161). -/
theorem arbitrate_cases (s : State) :
    arbitrate s = s ∨ ∃ st, s.lineFree = true ∧ arbitrate s = setStation st (s.station st).begin s := by
  cases free : s.lineFree with
  | false => exact .inl (arbitrate_busy free)
  | true =>
    cases next : s.nextStation with
    | none => exact .inl (arbitrate_idle next)
    | some st => exact .inr ⟨st, rfl, arbitrate_begins free next⟩

end Choice

end Sys2Proof.Machine
end

section
/-! PROOFS. The end of an event: the kettle agreed, the polls dropped, and the line's choice (R80, R160, R161). -/

namespace Sys2Proof.Machine

/-! ## The kettle state (R80) -/

theorem Sequencer.clear_iff (q : Sequencer) :
    q.clear = true ↔ ∃ x c, q.lift = some x ∧ q.pClr = some c ∧ c ≤ x := by
  unfold Sequencer.clear
  cases q.lift <;> cases q.pClr <;> simp

theorem Sequencer.disturbs_iff (q : Sequencer) :
    q.disturbs = true ↔ q.load ≠ none ∧ ¬ ∃ x c, q.lift = some x ∧ q.pClr = some c ∧ c ≤ x := by
  rw [← Sequencer.clear_iff]
  simp [Sequencer.disturbs, Option.isSome_iff_ne_none]

theorem disturbed_iff (s : State) :
    s.disturbed = true ↔
      (∃ h, (s.seq h).load ≠ none ∧ ¬ ∃ x c, (s.seq h).lift = some x ∧ (s.seq h).pClr = some c ∧ c ≤ x) ∨
        s.skimmer.mode = .sweeping := by
  have hoists : (∃ h, (s.seq h).disturbs = true) ↔ s.seqA.disturbs = true ∨ s.seqB.disturbs = true :=
    ⟨fun ⟨h, disturbs⟩ => by cases h; exacts [.inl disturbs, .inr disturbs],
      fun either => either.elim (⟨.A, ·⟩) (⟨.B, ·⟩)⟩
  simp only [← Sequencer.disturbs_iff, hoists, State.disturbed, Bool.or_eq_true, decide_eq_true_eq]

/-- The kettle state as an event leaves it. -/
def State.agreedBath (s : State) : Bath :=
  if s.disturbed then { s.bath with quiet := false, settle := 0 } else s.bath

theorem settleKettle_eq (s : State) : settleKettle s = { s with bath := s.agreedBath } := by
  unfold settleKettle State.agreedBath
  split <;> rfl

/-! ## The polls dropped (R160) -/

/-- The station's waiting poll stays where the station is polled. -/
def StationState.keepPoll (x : StationState) (polled : Bool) : StationState :=
  { x with pollDue := if polled then x.pollDue else none }

/-- The field line as the polls whose condition has ended are dropped. -/
def State.keptPolls (s : State) : FieldLine :=
  { s.field with
    driveA := s.field.driveA.keepPoll (s.polled .driveA)
    driveB := s.field.driveB.keepPoll (s.polled .driveB)
    scaleA := s.field.scaleA.keepPoll (s.polled .scaleA)
    scaleB := s.field.scaleB.keepPoll (s.polled .scaleB)
    skimmer := s.field.skimmer.keepPoll (s.polled .skimmer)
    thermo := s.field.thermo.keepPoll (s.polled .thermo)
    level := s.field.level.keepPoll (s.polled .level) }

theorem dropPoll_eq (st : Station) (s : State) :
    dropPoll st s = setStation st ((s.station st).keepPoll (s.polled st)) s := by
  unfold dropPoll StationState.keepPoll
  split
  next => cases st <;> rfl
  next => rfl

theorem polled_setStation (st st' : Station) (x : StationState) (s : State) :
    (setStation st' x s).polled st = s.polled st := rfl

theorem dropPolls_eq (s : State) :
    Station.all.foldl (fun s st => dropPoll st s) s = { s with field := s.keptPolls } := by
  simp only [Station.all, List.foldl_cons, List.foldl_nil, dropPoll_eq, polled_setStation]
  simp only [setStation, State.station, State.keptPolls]

theorem station_keptPolls (st : Station) (s : State) :
    ({ s with field := s.keptPolls } : State).station st = (s.station st).keepPoll (s.polled st) := by
  cases st <;> rfl

/-! ## The end of an event -/

/-- The state on which the line's choice falls at the end of an event. -/
def State.agreed (s : State) : State :=
  let v : State := { s with bath := s.agreedBath }
  { v with field := v.keptPolls }

theorem arbitrate_field (s : State) :
    arbitrate s = { s with field := (arbitrate s).field } ∧ (arbitrate s).field.instant = s.field.instant := by
  rcases arbitrate_cases s with same | ⟨st, -, begins⟩
  · rw [same]
    exact ⟨rfl, rfl⟩
  · rw [begins]
    exact ⟨rfl, by cases st <;> rfl⟩

theorem endEvent_eq (s : State) :
    endEvent s =
      { arbitrate s.agreed with field := { (arbitrate s.agreed).field with instant := s.field.instant + 1 } } := by
  have instant : (arbitrate s.agreed).field.instant = s.field.instant := (arbitrate_field s.agreed).2
  rw [← instant, endEvent, settleKettle_eq, dropPolls_eq]
  rfl

/-- Of a station the line's choice touches the transaction, the queue and the poll of the one it begins. -/
theorem station_arbitrate (st : Station) (s : State) :
    (arbitrate s).station st = s.station st ∨
      (s.lineFree = true ∧ (arbitrate s).station st = (s.station st).begin) := by
  rcases arbitrate_cases s with same | ⟨st', free, begins⟩
  · exact .inl (by rw [same])
  · rw [begins]
    by_cases here : st = st'
    · subst here
      exact .inr ⟨free, station_setStation ..⟩
    · exact .inl (station_setStation_other _ _ _ _ here)

theorem station_agreed (st : Station) (s : State) :
    s.agreed.station st = (s.station st).keepPoll (s.agreed.polled st) :=
  station_keptPolls st _

theorem lineFree_agreed (s : State) : s.agreed.lineFree = s.lineFree := by
  rw [Bool.eq_iff_iff, lineFree_iff, lineFree_iff]
  simp only [station_agreed, StationState.keepPoll]

theorem station_endEvent (st : Station) (s : State) :
    (endEvent s).station st = (s.station st).keepPoll (s.agreed.polled st) ∨
      (s.lineFree = true ∧
        (endEvent s).station st = ((s.station st).keepPoll (s.agreed.polled st)).begin) := by
  have same : (endEvent s).station st = (arbitrate s.agreed).station st := by
    rw [endEvent_eq]
    cases st <;> rfl
  rw [same, ← station_agreed, ← lineFree_agreed]
  exact station_arbitrate st _

theorem polled_endEvent (st : Station) (s : State) : (endEvent s).polled st = s.agreed.polled st := by
  rw [endEvent_eq, (arbitrate_field s.agreed).1]
  rfl

end Sys2Proof.Machine

open Sys2Proof Sys2Proof.Machine

/-- Settles O49: the queue by whether the command halts, the choice by `Leads`, and the end of an event by its three
acts. -/
theorem lineServesItsGroupsAndEventsEnd : Obligations.LineServesItsGroupsAndEventsEnd := by
  refine ⟨⟨fun s => ⟨nextStation_none, fun st => nextStation_some, arbitrate_busy, fun st free next => ?_⟩,
      fun x w idle => ⟨fun halts head => ?_, fun notStop notAbort head => ?_⟩,
      fun x => StationState.candidate_poll,
      fun x now a t v axis => ⟨fun none => ?_, fun d stop => ?_, rfl, rfl⟩⟩,
    ⟨fun st c s => rfl, fun x c now halts waiting => ?_⟩,
    fun s => ⟨disturbed_iff s, fun h x c carries lift clear below => ?_, fun h carries unknown => ?_⟩,
    fun s => ?_, ⟨fun s v u agreed kept => ?_, fun s => ⟨lineFree_iff s, fun still => ?_, fun st x free next hx => ?_⟩,
      fun x t trans => ⟨fun due stage => ⟨fun poll => ?_, fun c command => ?_⟩, StationState.candidate_unbegun trans⟩⟩,
    fun x t c now trans => ?_⟩
  · rw [arbitrate_begins free next, station_setStation]
    exact (StationState.begin_spec _).1
  · rw [StationState.candidate_command idle head, TransKind.group_command, if_pos halts]
  · rw [StationState.candidate_command idle head, TransKind.group_command, if_neg (by simp [notStop, notAbort])]
  · have clear := StationState.halting_eq_nil none
    simp [StationState.ask_cmds, Command.halts, clear]
  · have waiting : x.halting = x.cmds := by simp [StationState.halting, stop]
    rw [StationState.ask_halt (.inl rfl), StationState.ask_motion (c := .move axis t v) nofun nofun, waiting]
    exact ⟨if_neg (by simp [stop]), rfl⟩
  · obtain rfl : halts = x.halting := waiting
    exact ⟨fun halts empty => (StationState.ask_halt halts).trans (if_pos empty),
      fun halts waits => (StationState.ask_halt halts).trans (if_neg waits), StationState.ask_motion, rfl,
      StationState.ask_trans_none⟩
  · refine (disturbed_iff s).2 (.inl ⟨h, carries, ?_⟩)
    rintro ⟨x', c', lift', clear', above⟩
    obtain rfl : x = x' := Option.some.inj (lift.symm.trans lift')
    obtain rfl : c = c' := Option.some.inj (clear.symm.trans clear')
    omega
  · refine (disturbed_iff s).2 (.inl ⟨h, carries, ?_⟩)
    rintro ⟨x, c, lift, -⟩
    simp [unknown] at lift
  · refine ⟨(endEvent s).field, ?_, ?_, fun st => ?_⟩
    · rw [endEvent_eq, (arbitrate_field s.agreed).1]
      rfl
    · rw [endEvent_eq]
    · rw [polled_endEvent]
      rcases station_endEvent st s with same | ⟨free, begins⟩
      · rw [same]
        exact ⟨rfl, rfl, fun _ => ⟨rfl, rfl⟩, fun away => by simp [StationState.keepPoll, away]⟩
      · obtain ⟨-, lastCode, accum, pollDue⟩ :=
          StationState.begin_spec ((s.station st).keepPoll (s.agreed.polled st))
        rw [begins]
        exact ⟨lastCode, accum, fun busy => by simp [free] at busy,
          fun away => pollDue (by simp [StationState.keepPoll, away])⟩
  · obtain rfl : v = { s with bath := s.agreedBath } := agreed
    obtain rfl : u = s.agreed := kept
    exact endEvent_eq s
  · exact still.elim arbitrate_busy arbitrate_idle
  · subst hx
    rw [arbitrate_begins free next]
    exact ⟨fun t trans => by rw [StationState.begin_retry trans],
      fun w rest idle waits => by rw [StationState.begin_command idle waits],
      fun idle empty => by rw [StationState.begin_poll idle empty]⟩
  · rw [StationState.candidate_retryDue trans stage, poll]
    rfl
  · rw [StationState.candidate_retryDue trans stage, command, TransKind.group_command]
  · obtain ⟨gone, stays⟩ := StationState.ask_trans (c := c) (now := now) trans
    refine ⟨fun onLine => stays fun yields => yields.1 onLine, fun poll off => gone ⟨off, .inl poll⟩,
      fun d command notStop notAbort awaits => ⟨fun halts => gone ?_, fun asksNoStop asksNoAbort => stays ?_⟩,
      fun d command halts => stays ?_, fun d due command stage => stays ?_⟩
    · exact ⟨by simp [awaits], .inr ⟨d, command, awaits, halts, notStop, notAbort⟩⟩
    · rintro ⟨-, poll | ⟨e, -, -, halts, -⟩⟩
      · simp [poll] at command
      · exact halts.elim asksNoStop asksNoAbort
    · rintro ⟨-, poll | ⟨e, same, -, -, notStop, notAbort⟩⟩
      · simp [poll] at command
      · obtain rfl : d = e := by simpa [command] using same
        exact halts.elim notStop notAbort
    · rintro ⟨-, poll | ⟨e, -, awaits, -⟩⟩
      · simp [poll] at command
      · simp [stage] at awaits

end

section
/-! PROOFS. A final return code: what it is, and where its transaction's end is handed (R155, R157, R158, R159). -/

namespace Sys2Proof.Machine

theorem isDrive_iff (st : Station) : st.isDrive = true ↔ st = .driveA ∨ st = .driveB := by
  cases st <;> simp [Station.isDrive]

/-! ## Masks, reports and codes -/

theorem masked_iff (st : Station) (code : Nat) (s : State) :
    s.masked st code = true ↔ 2 ≤ code ∧ code ≤ 7 ∧ (s.setting (29 + st.number)).toNat / 2 ^ (code - 2) % 2 = 1 := by
  simp [State.masked, State.maskOf, Nat.testBit_eq_decide_div_mod_eq, and_assoc]

theorem reportFits_iff (st : Station) (rep : FieldReport) :
    reportFits st rep = true ↔
      (∃ l y rest, rep = .drive l y rest ∧ (st = .driveA ∨ st = .driveB)) ∨
      (∃ x, rep = .scale x ∧ (st = .scaleA ∨ st = .scaleB) ∧ -8388608 ≤ x ∧ x ≤ 8388607) ∨
      (∃ rest, rep = .skimmer rest ∧ st = .skimmer) ∨
      (∃ c1 c2 c3 c4, rep = .thermo c1 c2 c3 c4 ∧ st = .thermo ∧ ∀ c ∈ [c1, c2, c3, c4], c.code ≤ 7) ∨
      (∃ d, rep = .level d ∧ st = .level) := by
  cases rep with
  | codeOnly => simp [reportFits]
  | drive l y rest => simp [reportFits, isDrive_iff]
  | scale x => simp [reportFits, inRange]
  | skimmer rest => simp [reportFits]
  | thermo c1 c2 c3 c4 => simp [reportFits]
  | level d => simp [reportFits]

section Code
variable {st : Station} {k : TransKind} {n : Nat} {rep : FieldReport}

theorem carriesReport_iff :
    carriesReport st k n = true ↔ k = .poll ∧ (n = 0 ∨ (n = 2 ∧ (st = .driveA ∨ st = .driveB))) := by
  cases k <;> simp [carriesReport, isDrive_iff]

/-- The station's own code stands, unless the report that it carries is not the station's (R155). -/
theorem answerCode_given (given : n ≤ 5) (fits : carriesReport st k n = true → reportFits st rep = true) :
    answerCode st k n rep = n := by
  rw [answerCode, if_neg (by omega), if_neg]
  rw [Bool.and_eq_true, Bool.not_eq_true']
  rintro ⟨carries, misfit⟩
  simp [fits carries] at misfit

/-- An answer that fails the master's check has code 7 (R155, log entry 14). -/
theorem answerCode_unsound (bad : 5 < n ∨ (carriesReport st k n = true ∧ reportFits st rep = false)) :
    answerCode st k n rep = 7 := by
  unfold answerCode
  split
  next => rfl
  next own =>
    obtain ⟨carries, misfit⟩ := bad.resolve_left own
    exact if_pos (by simp [carries, misfit])

end Code

/-! ## The end of a transaction -/

section End
variable {st : Station} {k : TransKind} {n code : Nat} {rep : FieldReport} {s s' : State} {t : Transaction} {c : Instr}

theorem transactionEnd_fault (bad : code ≠ 0) (unmasked : s.masked st code = false) :
    transactionEnd st code k n rep s = deliverFault st code (capture (stationFault s st code k n) s) :=
  if_neg (by simp [bad, unmasked])

theorem transactionEnd_report (sound : code = 0 ∨ s.masked st code = true)
    (carries : carriesReport st k code = true) :
    transactionEnd st code k n rep s = deliverReport st rep s :=
  (if_pos sound).trans (if_pos carries)

theorem transactionEnd_bare (sound : code = 0 ∨ s.masked st code = true) (bare : ¬ carriesReport st k code = true) :
    transactionEnd st code k n rep s = deliverMasked st k s :=
  (if_pos sound).trans (if_neg bare)

theorem retried_eq_false (once : code ≠ 1) (heard : code ≠ 6) : retried code = false := by simp [retried, once, heard]

section OnLine
variable (active : s.active = true) (trans : (s.station st).trans = some t) (onLine : t.stage = .onLine)
  (closed : s' = setStation st ((s.station st).ended code) s)
include closed

theorem masked_closed (n : Nat) : s'.masked st n = s.masked st n := by
  rw [closed]
  rfl

include active trans onLine

/-- An answer whose code is final ends the transaction with it (R155, R157). -/
theorem exec_answer_final (own : answerCode st t.kind n rep = code) (final : retried code = false ∨ 3 ≤ t.attempts) :
    exec (.fieldAnswerReceived st n rep) s =
      .next (endEvent (transactionEnd st code t.kind (t.attempts + 1) rep s')) := by
  rw [exec_answer active (StationState.attempt_of_onLine trans onLine), own, attemptEnds_final final, closed]

/-- The final codes other than 0 and 1: as the station gave it, 6 after the fourth silence, 7 for an answer that is not
sound.  One that comes with a report is not masked. -/
theorem exec_final
    (ends : (∃ rep, c = .fieldAnswerReceived st code rep ∧ 2 ≤ code ∧ code ≤ 5 ∧
        (code = 2 → t.kind = .poll → (st = .driveA ∨ st = .driveB) →
          reportFits st rep = true ∧ s.masked st 2 = false)) ∨
      (c = .fieldNoAnswer st ∧ code = 6 ∧ 3 ≤ t.attempts) ∨
      (∃ n rep, c = .fieldAnswerReceived st n rep ∧ code = 7 ∧
        (n = 6 ∨ n = 7 ∨ (t.kind = .poll ∧ reportFits st rep = false ∧
          (n = 0 ∨ (n = 2 ∧ (st = .driveA ∨ st = .driveB))))))) :
    ∃ rep, exec c s = .next (endEvent (transactionEnd st code t.kind (t.attempts + 1) rep s')) ∧
      code ≠ 0 ∧ (s'.masked st code = true → ¬ carriesReport st t.kind code = true) := by
  rw [masked_closed closed]
  rcases ends with ⟨rep, rfl, low, high, sound⟩ | ⟨rfl, rfl, last⟩ | ⟨n, rep, rfl, rfl, unsound⟩
  · have carried (carries : carriesReport st t.kind code = true) :
        code = 2 ∧ reportFits st rep = true ∧ s.masked st 2 = false := by
      obtain ⟨poll, zero | ⟨two, drive⟩⟩ := carriesReport_iff.1 carries
      · omega
      · exact ⟨two, sound two poll drive⟩
    have own : answerCode st t.kind code rep = code := answerCode_given high fun carries =>
      have ⟨_, fits, _⟩ := carried carries
      fits
    refine ⟨rep, exec_answer_final active trans onLine closed own (.inl (retried_eq_false (by omega) (by omega))),
      by omega, fun masked carries => ?_⟩
    obtain ⟨rfl, -, unmasked⟩ := carried carries
    simp [unmasked] at masked
  · refine ⟨.codeOnly, ?_, by omega, fun _ carries => ?_⟩
    · rw [exec_noAnswer active (StationState.attempt_of_onLine trans onLine), attemptEnds_final (.inr last), closed]
    · simp [carriesReport_iff] at carries
  · refine ⟨rep, exec_answer_final active trans onLine closed (answerCode_unsound ?_) (.inl rfl), by omega,
      fun _ carries => ?_⟩
    · rcases unsound with rfl | rfl | ⟨poll, misfit, carries⟩
      · exact .inl (by omega)
      · exact .inl (by omega)
      · exact .inr ⟨carriesReport_iff.2 ⟨poll, carries⟩, misfit⟩
    · simp [carriesReport_iff] at carries

end OnLine

/-- A command that ends done or masked is taken by its owner alone (R158). -/
theorem transactionEnd_command {d : Command} (sound : code = 0 ∨ s.masked st code = true) :
    transactionEnd st code (.command d) n rep s = deliverMasked st (.command d) s :=
  transactionEnd_bare sound (by simp [carriesReport])

theorem deliverMasked_command {d : Command} (other : st ≠ .skimmer) : deliverMasked st (.command d) s = s := by
  cases st
  case skimmer => exact absurd rfl other
  all_goals rfl

end End

/-! ## The skimmer's commands (R65, R66) -/

section Skimmer
variable {s : State} {w : Sweep}

theorem skimmerTook_sweep (sweeping : s.skimmer.mode = .sweeping) (record : s.skimmer.sweep = some w) (a b : Int) :
    skimmerTook (.sweep a b) s = { s with skimmer := { s.skimmer with pollsBegun := true } } := by
  simp only [skimmerTook, sweeping, record]

theorem skimmerTook_abort (sweeping : s.skimmer.mode = .sweeping) (record : s.skimmer.sweep = some w) :
    skimmerTook .abort s =
      { s with skimmer := { s.skimmer with pollsBegun := s.skimmer.pollsBegun || w.abort } } := by
  simp only [skimmerTook, sweeping, record]

theorem skimmerTook_still (still : s.skimmer.mode ≠ .sweeping) (d : Command) : skimmerTook d s = s := by
  unfold skimmerTook
  split
  next sweeping _ => exact absurd sweeping still
  next sweeping _ => exact absurd sweeping still
  next => rfl

end Skimmer

end Sys2Proof.Machine
end

section
/-! PROOFS. The fault record of a station, and a drive fault at its sequencer (R30, R32, R167, R171). -/

namespace Sys2Proof.Machine

/-! ## The fault record (R167) -/

section Record
variable {h : Hoist} {code n : Nat} {k : TransKind} {s : State}

theorem Sequencer.faultWord_eq (q : Sequencer) :
    q.faultWord = if q.motion.map Motion.axis = some .travel then q.travel else q.lift := by
  unfold Sequencer.faultWord
  cases q.motion with
  | none => rfl
  | some m => cases axis : m.axis <;> simp [Sequencer.position, axis]

theorem stationFault_drive :
    stationFault s (driveOf h) code k n =
      { cause := .station (driveOf h) code, trans := some k.name, hoist := some h, load := (s.seq h).load,
        phase := some (s.seq h).phase,
        data := if (s.seq h).motion.map Motion.axis = some .travel then (s.seq h).travel else (s.seq h).lift,
        time := s.link.clock } := by
  rw [← Sequencer.faultWord_eq]
  cases h <;> rfl

theorem stationFault_scale :
    stationFault s (scaleOf h) code k n =
      { cause := .station (scaleOf h) code, trans := some k.name, hoist := some h, load := (s.seq h).load,
        phase := some (s.seq h).phase, data := some (n : Int), time := s.link.clock } := by
  cases h <;> rfl

theorem stationFault_skimmer {w : Sweep} (record : s.skimmer.sweep = some w) (owner : w.hoist = some h) :
    stationFault s .skimmer code k n =
      { cause := .station .skimmer code, trans := some k.name, hoist := some h, load := (s.seq h).load,
        phase := some (s.seq h).phase, data := some (n : Int), time := s.link.clock } := by
  simp only [stationFault, record, Option.bind_some, owner, Option.map_some, State.clock]

/-- A fault of the skimmer that sweeps for no hoist, of THERMO or of LEVEL names none. -/
theorem stationFault_hoistless {st : Station}
    (unowned : (st = .skimmer ∧ ∀ w, s.skimmer.sweep = some w → w.hoist = none) ∨ st = .thermo ∨ st = .level) :
    stationFault s st code k n =
      { cause := .station st code, trans := some k.name, hoist := none, load := none, phase := none,
        data := some (n : Int), time := s.link.clock } := by
  rcases unowned with ⟨rfl, unowned⟩ | rfl | rfl
  · have nobody : s.skimmer.sweep.bind Sweep.hoist = none := by simpa [Option.bind_eq_none_iff] using unowned
    simp only [stationFault, nobody, Option.bind_none, Option.map_none, State.clock]
  · rfl
  · rfl

end Record

/-! ## A drive fault (R30, R32, R171) -/

section Drive
variable {h : Hoist} {s : State}

theorem driveFault_resting (rests : (s.seq h).phase ∈ [Phase.idle, .held, .disabled]) : driveFault h s = s := by
  simp only [List.mem_cons, List.not_mem_nil, or_false] at rests
  rcases rests with phase | phase | phase <;> simp only [driveFault, phase]

theorem driveFault_recover (phase : (s.seq h).phase = .recover) : driveFault h s = recoverInBath h s := by
  simp only [driveFault, phase]

theorem driveFault_working (works : (s.seq h).phase ∈ Phase.dipCycle ++ [.raising, .jogging]) :
    driveFault h s = enterHeld h (markLate h s) := by
  unfold driveFault
  split
  next phase => simp [phase, Phase.dipCycle] at works
  next phase => simp [phase, Phase.dipCycle] at works
  next phase => simp [phase, Phase.dipCycle] at works
  next phase => simp [phase, Phase.dipCycle] at works
  next => rfl

theorem stopped_motionless {q : Sequencer} (motion : q.motion = none) : stopped h q s = s :=
  if_neg (by simp [motion])

theorem stopped_moving {q : Sequencer} {m : Motion} (motion : q.motion = some m) :
    stopped h q s = sendCommand (driveOf h) .stop s :=
  if_pos (by simp [motion])

theorem markLate_motionless (motion : (s.seq h).motion = none) : markLate h s = s := if_neg (not_overdueDue motion)

/-- A drive fault finds the overdue of a motion whose limit has passed (R171, log entry 40). -/
def Sequencer.markedLate (q : Sequencer) (m : Motion) : Sequencer :=
  { q with lateAxis := if m.limit ≤ m.elapsed then some m.axis else q.lateAxis }

theorem markLate_moving {m : Motion} (motion : (s.seq h).motion = some m) :
    markLate h s = setSeq h ((s.seq h).markedLate m) s := by
  have due : overdueDue h s = true ↔ m.limit ≤ m.elapsed := by simp [overdueDue_iff, motion]
  unfold markLate Sequencer.markedLate
  by_cases late : m.limit ≤ m.elapsed
  · have axis : (s.seq h).motion.map Motion.axis = some m.axis := by rw [motion, Option.map_some]
    rw [if_pos (due.2 late), if_pos late, modSeq, axis]
  · rw [if_neg (late ∘ due.1), if_neg late]
    exact (setSeq_seq h s).symm

variable (works : (s.seq h).phase ∈ Phase.dipCycle ++ [.raising, .jogging])
include works

theorem phase_ne_held_of_working : (s.seq h).phase ≠ .held := by
  intro held
  simp [held, Phase.dipCycle] at works

theorem driveFault_standing (motionless : (s.seq h).motion = none) :
    driveFault h s =
      setSeq h
        { s.seq h with
          phase := .held
          heldPhase := if (s.seq h).phase = .jogging then (s.seq h).heldPhase else some (s.seq h).phase
          vibratorOn := false }
        (setEng h { s.eng h with weigh := none } s) := by
  have holds := enterHeld_setSeq (h := h) (s := s) (phase_ne_held_of_working works)
  rw [setSeq_seq, stopped_motionless motionless, ← motionless] at holds
  rw [driveFault_working works, markLate_motionless motionless]
  exact holds

theorem driveFault_moving {m : Motion} (motion : (s.seq h).motion = some m) :
    driveFault h s =
      setSeq h
        { s.seq h with
          phase := .held
          heldPhase := if (s.seq h).phase = .jogging then (s.seq h).heldPhase else some (s.seq h).phase
          motion := none
          vibratorOn := false
          lateAxis := if m.limit ≤ m.elapsed then some m.axis else (s.seq h).lateAxis }
        (setEng h { s.eng h with weigh := none } (sendCommand (driveOf h) .stop s)) := by
  have holds := enterHeld_setSeq (h := h) (s := s) (q := (s.seq h).markedLate m) (phase_ne_held_of_working works)
  rw [stopped_moving (q := (s.seq h).markedLate m) motion] at holds
  rw [driveFault_working works, markLate_moving motion]
  exact holds

end Drive

end Sys2Proof.Machine

open Sys2Proof Sys2Proof.Machine

/-- Settles O48: the code by the answer, the end of its transaction by the mask, and a drive fault by the phase. -/
theorem finalCodeIsDoneMaskedOrAFault : Obligations.FinalCodeIsDoneMaskedOrAFault := by
  refine ⟨?_, ?_, ⟨fun h code n k s => ⟨stationFault_drive, stationFault_scale, fun w => stationFault_skimmer,
        fun st => stationFault_hoistless⟩, fun axis a b => ⟨rfl, rfl, rfl, rfl, rfl⟩, rfl, masked_iff, reportFits_iff⟩,
    ?_, ?_⟩
  · rintro st s s' x t code rfl active trans onLine closed
    have masks := masked_closed closed
    refine ⟨?_, ?_, ?_, ?_, ?_, ?_, ?_⟩
    · rintro rep rfl poll fits
      rw [exec_answer_final active trans onLine closed (answerCode_given (by omega) fun _ => fits) (.inl rfl),
        transactionEnd_report (.inl rfl) (carriesReport_iff.2 ⟨poll, .inl rfl⟩)]
    · rintro rep rfl other ⟨d, command⟩ -
      rw [exec_answer_final active trans onLine closed
          (answerCode_given (by omega) (by simp [command, carriesReport])) (.inl rfl),
        command, transactionEnd_command (.inl rfl), deliverMasked_command other]
    · intro rep low high unmasked
      obtain ⟨r, outcome, bad, -⟩ := exec_final active trans onLine closed
        (.inl ⟨rep, rfl, by omega, high, fun two => by omega⟩)
      rw [outcome, transactionEnd_fault bad ((masks code).trans unmasked)]
    · rintro rep rfl masked drive poll fits
      rw [exec_answer_final active trans onLine closed (answerCode_given (by omega) fun _ => fits) (.inl rfl),
        transactionEnd_report (.inr ((masks 2).trans masked)) (carriesReport_iff.2 ⟨poll, .inr ⟨rfl, drive⟩⟩)]
    · intro rep low high masked place poll
      obtain ⟨r, outcome, -, bare⟩ := exec_final active trans onLine closed
        (.inl ⟨rep, rfl, by omega, high, fun two => by omega⟩)
      have masked' := (masks code).trans masked
      rw [outcome, transactionEnd_bare (.inr masked') (bare masked'), poll]
      rcases place with rfl | rfl | rfl <;> rfl
    · rintro rfl last unmasked
      obtain ⟨r, outcome, bad, -⟩ := exec_final active trans onLine closed (.inr (.inl ⟨rfl, rfl, last.ge⟩))
      rw [outcome, transactionEnd_fault bad ((masks 6).trans unmasked), last]
    · rintro rep rfl last
      have own : answerCode st t.kind 1 rep = 1 := answerCode_given (by omega) (by simp [carriesReport_iff])
      rw [exec_answer_final active trans onLine closed own (.inr last.ge),
        transactionEnd_fault (by omega) (by simp [State.masked]), last]
  · rintro st s s' x t c code rfl active trans onLine closed ends
    obtain ⟨rep, outcome, bad, bare⟩ := exec_final active trans onLine closed ends
    rw [outcome, ← masked_closed closed]
    refine ⟨fun unmasked => by rw [transactionEnd_fault bad unmasked], fun masked => ?_⟩
    rw [transactionEnd_bare (.inr masked) (bare masked)]
    refine ⟨fun poll => ?_, fun d command other => ?_⟩
    · rw [poll]
      cases st <;> rfl
    · rw [command, deliverMasked_command other]
  · rintro s s' x t d code c rfl active trans onLine command closed ends
    have skimmer : s'.skimmer = s.skimmer := by rw [closed]; rfl
    have masks := masked_closed closed
    have outcome : exec c s = .next (endEvent (skimmerTook d s')) := by
      rcases ends with ⟨rep, rfl, sound⟩ | ⟨rfl, rfl, last, masked⟩
      · have own : answerCode .skimmer t.kind code rep = code :=
          answerCode_given (by omega) (by simp [command, carriesReport])
        rw [exec_answer_final active trans onLine closed own (.inl (retried_eq_false (by omega) (by omega))), command,
          transactionEnd_command (sound.imp_right fun ⟨_, _, masked⟩ => (masks code).trans masked)]
        rfl
      · obtain ⟨rep, outcome, -⟩ := exec_final active trans onLine closed (.inr (.inl ⟨rfl, rfl, last⟩))
        rw [outcome, command, transactionEnd_command (.inr ((masks 6).trans masked))]
        rfl
    rw [outcome, ← skimmer]
    refine ⟨fun w a b sweeping record sweep => ?_, fun w sweeping record abort => ?_, fun still => ?_⟩
    · rw [sweep, skimmerTook_sweep sweeping record]
    · rw [abort, skimmerTook_abort sweeping record]
    · rw [skimmerTook_still still]
  · rintro h s q rfl
    refine ⟨driveFault_resting, fun works => ⟨driveFault_standing works, fun m => driveFault_moving works⟩,
      fun id phase load => ?_, fun code => ?_⟩
    · have ends := recoverInBath_setSeq (h := h) (s := s) load
      rw [setSeq_seq] at ends
      rw [driveFault_recover phase, ends]
    · cases h <;> exact ⟨rfl, rfl, rfl, rfl, rfl⟩

end

section
/-! PROOFS. The notice queue and the attention lines: how a notice is raised, and that raising one keeps the queue in its
room and the lines right (R181, R183, R186). -/

namespace Sys2Proof.Machine

/-! ## The lines (R186) -/

theorem Link.faultWaits_iff (l : Link) : l.faultWaits = true ↔ ∃ n ∈ l.notices, n.kind.isFault = true := by
  simp [Link.faultWaits]

theorem Link.progressWaits_iff (l : Link) : l.progressWaits = true ↔ ∃ n ∈ l.notices, n.kind.isProgress = true := by
  simp [Link.progressWaits]

theorem Link.linesRight_iff (l : Link) : l.linesRight ↔ l.lineF = l.wantF ∧ l.lineP = l.wantP := by
  rw [Bool.eq_iff_iff (a := l.lineF), Bool.eq_iff_iff (a := l.lineP)]
  simp only [Link.linesRight, Link.wantF, Link.wantP, Bool.or_eq_true, Bool.and_eq_true, Bool.not_eq_true',
    Link.faultWaits_iff, Link.progressWaits_iff, and_assoc]

theorem Link.linesRight_setLines (l : Link) : l.setLines.linesRight := (Link.linesRight_iff _).2 ⟨rfl, rfl⟩

/-! ## A notice is raised (R183) -/

/-- The oldest progress notice is the first of the queue. -/
theorem dropProgress_eq_eraseP (ns : List Notice) : dropProgress ns = ns.eraseP (fun n => n.kind.isProgress) := by
  induction ns with
  | nil => rfl
  | cons n ns ih => cases oldest : n.kind.isProgress <;> simp [dropProgress, oldest, ih]

theorem Link.raise_joins {l : Link} (room : l.notices.length < 32) (n : Notice) :
    l.raise n = { l with notices := l.notices ++ [n] }.setLines := if_pos room

theorem Link.raise_displaces {l : Link} (full : 32 ≤ l.notices.length) {n : Notice} (fault : n.kind.isFault = true)
    (waits : l.progressWaits = true) :
    l.raise n = { l with notices := dropProgress l.notices ++ [n], overrun := true }.setLines := by
  rw [Link.raise, Config.noticeRoom, if_neg (Nat.not_lt.2 full), if_pos (by simp [fault, waits])]

theorem Link.raise_lost {l : Link} (full : 32 ≤ l.notices.length) {n : Notice}
    (kept : n.kind.isFault = false ∨ l.progressWaits = false) : l.raise n = { l with overrun := true } := by
  rw [Link.raise, Config.noticeRoom, if_neg (Nat.not_lt.2 full), if_neg (by simpa [← Bool.not_eq_true, imp_iff_not_or] using kept)]

/-- A notice joins, displaces the oldest progress notice, or is lost; nothing else can be. -/
theorem Link.raise_cases (l : Link) (n : Notice) :
    (l.notices.length < 32 ∧ l.raise n = { l with notices := l.notices ++ [n] }.setLines) ∨
    (32 ≤ l.notices.length ∧ l.progressWaits = true ∧
      l.raise n = { l with notices := dropProgress l.notices ++ [n], overrun := true }.setLines) ∨
    l.raise n = { l with overrun := true } := by
  rcases Nat.lt_or_ge l.notices.length 32 with room | full
  · exact .inl ⟨room, raise_joins room n⟩
  · by_cases displaces : n.kind.isFault = true ∧ l.progressWaits = true
    · exact .inr (.inl ⟨full, displaces.2, raise_displaces full displaces.1 displaces.2⟩)
    · exact .inr (.inr (raise_lost full (by simpa [imp_iff_not_or] using displaces)))

/-! ## The law of the queue and its lines -/

/-- The queue has its room and the lines are as the queue has them, as in a module that works (R183, R186). -/
def Link.Lawful (l : Link) : Prop := l.notices.length ≤ 32 ∧ l.linesRight

theorem Link.lawful_setLines {l : Link} (room : l.notices.length ≤ 32) : l.setLines.Lawful :=
  ⟨room, l.linesRight_setLines⟩

theorem Link.Lawful.raise {l : Link} (hl : l.Lawful) (n : Notice) : (l.raise n).Lawful := by
  obtain ⟨room, lines⟩ := hl
  rcases l.raise_cases n with ⟨short, joins⟩ | ⟨-, waits, displaces⟩ | lost
  · rw [joins]
    exact Link.lawful_setLines (by simpa using short)
  · rw [displaces]
    refine Link.lawful_setLines ?_
    obtain ⟨x, hx, progress⟩ := l.progressWaits_iff.1 waits
    have shorter := List.length_eraseP_of_mem (p := fun n : Notice => n.kind.isProgress) hx progress
    simp only [dropProgress_eq_eraseP, List.length_append, List.length_singleton]
    omega
  · rw [lost]
    exact ⟨room, lines⟩

theorem Link.Lawful.raises {l : Link} (hl : l.Lawful) (ns : List Notice) : (ns.foldl Link.raise l).Lawful := by
  induction ns generalizing l with
  | nil => exact hl
  | cons n ns ih => exact ih (hl.raise n)


end Sys2Proof.Machine

open Sys2Proof Sys2Proof.Machine

/-- Settles O8: the three outcomes of a raised notice. -/
theorem noticeJoinsDisplacesOrIsLost : Obligations.NoticeJoinsDisplacesOrIsLost := by
  refine ⟨fun k => ?_, fun k h id d1 d2 s => rfl, fun n l => ⟨fun room => ?_, fun full other => ?_, fun full none => ?_,
    fun before gone after full fault queue oldest older => ?_, ?_⟩⟩
  · cases k <;> decide
  · rw [Link.raise_joins room]
    exact ⟨rfl, rfl, Link.linesRight_setLines _⟩
  · exact Link.raise_lost full (.inl other)
  · refine Link.raise_lost full (.inr ?_)
    rw [Link.progressWaits, List.any_eq_false]
    exact fun x hx => by simp [none x hx]
  · have waits : l.progressWaits = true := l.progressWaits_iff.2 ⟨gone, by simp [queue], oldest⟩
    have left : dropProgress l.notices = before ++ after := by
      rw [dropProgress_eq_eraseP, queue, List.eraseP_append_right _ (by simpa using older)]
      exact congrArg (before ++ ·) (List.eraseP_cons_of_pos (p := fun n : Notice => n.kind.isProgress) oldest)
    rw [Link.raise_displaces full fault waits, ← left]
    exact ⟨rfl, rfl, Link.linesRight_setLines _⟩
  · rcases l.raise_cases n with ⟨-, outcome⟩ | ⟨-, -, outcome⟩ | outcome <;> rw [outcome] <;>
      exact ⟨rfl, rfl, rfl, rfl, rfl, rfl, rfl, rfl⟩

end

section
/-! PROOFS. The blocks' work comes to the Plant Link Interface by its notices alone, so that every operation keeps the law
of the queue and its lines (R183, R186). -/

namespace Sys2Proof.Machine

section Work

variable {h : Hoist} {s : State} (hs : s.link.Lawful)

include hs

/-! ## Notices -/

@[simp] theorem link_lawful_raise (k : NoticeKind) (hoist : Option Hoist) (id : Option Nat) (d1 d2 : Option Int) :
    (raise k hoist id d1 d2 s).link.Lawful := hs.raise _

@[simp] theorem link_lawful_raiseFor (k : NoticeKind) (d1 d2 : Option Int) : (raiseFor h k d1 d2 s).link.Lawful :=
  hs.raise _

/-! ## Skims and the immersion -/

@[simp] theorem link_lawful_markMissed : (markMissed h s).link.Lawful := by
  unfold markMissed
  dsimp only
  split <;> simp [hs]

@[simp] theorem link_lawful_requestSkim (due : Nat) : (requestSkim h due s).link.Lawful := by
  unfold requestSkim
  dsimp only
  split <;> simp [hs]

@[simp] theorem link_lawful_sendSkimAtLead : (sendSkimAtLead h s).link.Lawful := by
  unfold sendSkimAtLead
  split <;> simp [hs]

@[simp] theorem link_lawful_enterImmerse : (enterImmerse h s).link.Lawful := by simp [enterImmerse, hs]

@[simp] theorem link_lawful_beginEntry : (beginEntry h s).link.Lawful := by
  unfold beginEntry
  dsimp only
  split <;> simp [hs]

/-! ## Admission -/

@[simp] theorem link_lawful_notifyCauses (causes : List AdmitCause) : (causes.foldl (notifyCause h) s).link.Lawful := by
  induction causes generalizing s with
  | nil => exact hs
  | cons c causes ih =>
    refine ih ?_
    unfold notifyCause
    split <;> simp [hs]

@[simp] theorem link_lawful_admitLoad (r : LoadRec) (theta : Int) : (admitLoad h r theta s).link.Lawful := by
  simp [admitLoad, hs]

@[simp] theorem link_lawful_trial : (trial h s).link.Lawful := by
  unfold trial
  (repeat' split) <;> simp [hs]

@[simp] theorem link_lawful_tryWaiting : (tryWaiting s).link.Lawful := by
  unfold tryWaiting
  dsimp only
  (repeat' split) <;> simp [hs]

omit hs in
@[simp] theorem link_lawful_withDepthTrials {f : State → State} (hf : (f s).link.Lawful) :
    (withDepthTrials f s).link.Lawful := by
  unfold withDepthTrials
  split <;> simp [hf]

/-! ## Spans -/

@[simp] theorem link_lawful_enterAwaitAdmit : (enterAwaitAdmit h s).link.Lawful := by simp [enterAwaitAdmit, hs]

@[simp] theorem link_lawful_beginTravelIn : (beginTravelIn h s).link.Lawful := by
  unfold beginTravelIn
  dsimp only
  split <;> simp [hs]

@[simp] theorem link_lawful_grant (o : Owner) (first last : Nat) : (grant o first last s).link.Lawful := by
  unfold grant
  dsimp only
  (repeat' split) <;> simp [hs]

@[simp] theorem link_lawful_tryPlacement (n : Nat) : (tryPlacement n s).link.Lawful := by
  induction n generalizing s with
  | zero => exact hs
  | succ n ih =>
    unfold tryPlacement
    (repeat' split) <;> simp [hs, ih]

@[simp] theorem link_lawful_placeClaims : (placeClaims s).link.Lawful := by simp [placeClaims, hs]

@[simp] theorem link_lawful_joinClaim (c : Claim) : (joinClaim c s).link.Lawful := by
  unfold joinClaim
  dsimp only
  split <;> simp [hs]

@[simp] theorem link_lawful_withdrawClaim (o : Owner) : (withdrawClaim o s).link.Lawful := by
  unfold withdrawClaim
  dsimp only
  split <;> simp [hs]

@[simp] theorem link_lawful_releaseSpan (o : Owner) : (releaseSpan o s).link.Lawful := by simp [releaseSpan, hs]

@[simp] theorem link_lawful_enterAwaitSpan : (enterAwaitSpan h s).link.Lawful := by simp [enterAwaitSpan, hs]

/-! ## The end of a dip, withdrawal -/

@[simp] theorem link_lawful_travelOutArrival : (travelOutArrival h s).link.Lawful := by simp [travelOutArrival, hs]

@[simp] theorem link_lawful_beginTravelOut : (beginTravelOut h s).link.Lawful := by
  unfold beginTravelOut
  dsimp only
  split <;> simp [hs]

@[simp] theorem link_lawful_withdrawArrival : (withdrawArrival h s).link.Lawful := by
  unfold withdrawArrival
  split <;> simp [hs]

@[simp] theorem link_lawful_compareOverdip : (compareOverdip h s).link.Lawful := by
  unfold compareOverdip
  split <;> simp [exceedOverdip, hs]

@[simp] theorem link_lawful_stopOverdip : (stopOverdip h s).link.Lawful := by simp [stopOverdip, hs]

@[simp] theorem link_lawful_liftOut : (liftOut h s).link.Lawful := by
  unfold liftOut
  dsimp only
  split <;> simp [hs]

@[simp] theorem link_lawful_startWithdraw : (startWithdraw h s).link.Lawful := by simp [startWithdraw, hs]

/-! ## The end-of-immersion decision -/

@[simp] theorem link_lawful_checkSkimWait : (checkSkimWait h s).link.Lawful := by
  unfold checkSkimWait expireSkimWait
  dsimp only
  (repeat' split) <;> simp [hs]

@[simp] theorem link_lawful_askSkimAgain (wait : Nat) : (askSkimAgain h wait s).link.Lawful := by
  unfold askSkimAgain
  dsimp only
  split <;> simp [hs]

@[simp] theorem link_lawful_endDecision : (endDecision h s).link.Lawful := by
  unfold endDecision
  (repeat' split) <;> simp [hs]

@[simp] theorem link_lawful_countdownZero : (countdownZero h s).link.Lawful := by
  unfold countdownZero
  dsimp only
  split <;> simp [hs]

@[simp] theorem link_lawful_skimDone : (skimDone h s).link.Lawful := by
  unfold skimDone
  dsimp only
  (repeat' split) <;> simp [hs]

@[simp] theorem link_lawful_skimMissedAnswer : (skimMissedAnswer h s).link.Lawful := by
  unfold skimMissedAnswer
  dsimp only
  (repeat' split) <;> simp [hs]

/-! ## The depth, the book and posting -/

@[simp] theorem link_lawful_compareLevel : (compareLevel s).link.Lawful := by
  unfold compareLevel
  (repeat' split) <;> simp [hs]

@[simp] theorem link_lawful_refreshDepth : (refreshDepth s).link.Lawful := by simp [refreshDepth, hs]

@[simp] theorem link_lawful_noteSaturation (kind number : Nat) (before after : Bool) :
    (noteSaturation kind number before after s).link.Lawful := by
  unfold noteSaturation
  split <;> simp [hs]

@[simp] theorem link_lawful_changeBalance (f : Balance → Balance) : (changeBalance f s).link.Lawful := by
  simp [changeBalance, hs]

@[simp] theorem link_lawful_post : (post h s).link.Lawful := by
  unfold post
  dsimp only
  split
  · exact hs
  · split
    · exact hs
    · refine link_lawful_refreshDepth (link_lawful_changeBalance (link_lawful_noteSaturation ?_ ..) _)
      refine link_lawful_noteSaturation ?_ ..
      split <;> simp [hs]

@[simp] theorem link_lawful_endRecon (o : ReconOutcome) : (endRecon o s).link.Lawful := by
  unfold endRecon
  split <;> simp [raiseReconciled, hs]

@[simp] theorem link_lawful_completeRecon (q : QuietReading) : (completeRecon q s).link.Lawful := by
  unfold completeRecon
  (repeat' split) <;> simp [raiseReconciled, hs]

@[simp] theorem link_lawful_bookChange (f : Balance → Balance) : (bookChange f s).1.link.Lawful := by
  have changed : (refreshDepth (changeBalance f s)).link.Lawful := by simp [hs]
  simp [bookChange, changed]

/-! ## Weights taken -/

@[simp] theorem link_lawful_weighInStable (w : Nat) (r : Option RangeFlag) : (weighInStable h w r s).link.Lawful := by
  unfold weighInStable
  split <;> simp [hs]

@[simp] theorem link_lawful_finishDip : (finishDip h s).link.Lawful :=
  link_lawful_beginTravelOut (link_lawful_raiseFor (link_lawful_post hs) ..)

@[simp] theorem link_lawful_weighOutWith (w : Nat) (r : Option RangeFlag) (unsettled : Bool) :
    (weighOutWith h w r unsettled s).link.Lawful := by
  unfold weighOutWith
  split <;> simp [hs]

@[simp] theorem link_lawful_weighOutNone : (weighOutNone h s).link.Lawful := by simp [weighOutNone, hs]

@[simp] theorem link_lawful_weighOutPasses : (weighOutPasses h s).link.Lawful := by
  unfold weighOutPasses
  (repeat' split) <;> simp [hs]

@[simp] theorem link_lawful_scaleReading (x : Int) : (scaleReading h x s).link.Lawful := by
  have sampled : (goodSample h x s).1.link.Lawful := by simpa using hs
  unfold scaleReading
  split <;> simp_all

@[simp] theorem link_lawful_finishWithout : (finishWithout h s).link.Lawful := by
  unfold finishWithout
  dsimp only
  split <;> simp [hs]

/-! ## Raising, arrivals, recovery and faults -/

@[simp] theorem link_lawful_enterRaising : (enterRaising h s).link.Lawful := by
  unfold enterRaising
  dsimp only
  refine link_lawful_withdrawClaim ?_ _
  split <;> simp [hs]

@[simp] theorem link_lawful_arrival : (arrival h s).link.Lawful := by
  unfold arrival
  dsimp only
  split <;> simp [hs]

@[simp] theorem link_lawful_issueKeptTravel : (issueKeptTravel h s).link.Lawful := by
  unfold issueKeptTravel
  (repeat' split) <;> simp [hs]

@[simp] theorem link_lawful_recoverInBath : (recoverInBath h s).link.Lawful := by simp [recoverInBath, hs]

@[simp] theorem link_lawful_recoverClear : (recoverClear h s).link.Lawful := by
  unfold recoverClear
  (repeat' split) <;> simp [hs]

@[simp] theorem link_lawful_driveReport (lift travel : Int) (atRest : Bool) :
    (driveReport h lift travel atRest s).link.Lawful := by
  unfold driveReport recoveryOutcome
  dsimp only
  (repeat' split) <;> simp [hs]

@[simp] theorem link_lawful_capture (r : FaultRecord) : (capture r s).link.Lawful := by
  unfold capture
  split <;> simp [hs]

@[simp] theorem link_lawful_driveFault : (driveFault h s).link.Lawful := by
  unfold driveFault
  split <;> simp [hs]

@[simp] theorem link_lawful_lateOverdue : (lateOverdue h s).link.Lawful := by
  unfold lateOverdue
  split <;> simp [hs]

/-! ## RESUME (R24) -/

@[simp] theorem link_lawful_resumeImmerse : (resumeImmerse h s).link.Lawful := by
  unfold resumeImmerse
  (repeat' split) <;> simp [hs]

@[simp] theorem link_lawful_resumeDrain : (resumeDrain h s).link.Lawful := by
  unfold resumeDrain
  dsimp only
  (repeat' split) <;> simp [hs]

@[simp] theorem link_lawful_takeUp (p : Phase) : (takeUp h p s).link.Lawful := by
  unfold takeUp
  dsimp only
  (repeat' split) <;> simp [resumeWithdraw, hs]

/-! ## The bath, the skimmer and the stations -/

@[simp] theorem link_lawful_thermoEnd (cs : List ChannelView) : (thermoEnd cs s).link.Lawful := by
  refine link_lawful_tryWaiting ?_
  unfold compareTrip noteUnknown
  (repeat' split) <;> simp [hs]

@[simp] theorem link_lawful_levelAnswer (d : Int) : (levelAnswer d s).link.Lawful := by
  unfold levelAnswer
  (repeat' split) <;> simp [takeReading, hs]

@[simp] theorem link_lawful_skimmerAtRest : (skimmerAtRest s).link.Lawful := by
  unfold skimmerAtRest
  dsimp only
  (repeat' split) <;> simp [hs]

@[simp] theorem link_lawful_skimMissedAnswers (hoists : List Hoist) :
    (hoists.foldl (fun s h => skimMissedAnswer h s) s).link.Lawful := by
  induction hoists generalizing s with
  | nil => exact hs
  | cons h hoists ih => exact ih (link_lawful_skimMissedAnswer hs)

@[simp] theorem link_lawful_skimmerFault (code : Nat) : (skimmerFault code s).link.Lawful := by
  unfold skimmerFault
  dsimp only
  (repeat' split) <;> simp [hs]

@[simp] theorem link_lawful_deliverReport (st : Station) (r : FieldReport) : (deliverReport st r s).link.Lawful := by
  unfold deliverReport
  (repeat' split) <;> simp [hs]

@[simp] theorem link_lawful_deliverMasked (st : Station) (k : TransKind) : (deliverMasked st k s).link.Lawful := by
  unfold deliverMasked
  split <;> simp [hs]

@[simp] theorem link_lawful_deliverFault (st : Station) (code : Nat) : (deliverFault st code s).link.Lawful := by
  unfold deliverFault
  split <;> simp [hs]

@[simp] theorem link_lawful_attemptEnds (st : Station) (code : Nat) (r : FieldReport) (t : Transaction) :
    (attemptEnds st code r t s).link.Lawful := by
  unfold attemptEnds transactionEnd
  (repeat' split) <;> simp [hs]

/-! ## Requests and events -/

theorem link_lawful_onHoist {f : Hoist → State → State × Answer} (hf : ∀ h, (f h s).1.link.Lawful) (n : Nat) :
    (onHoist n f s).1.link.Lawful := by
  unfold onHoist
  (repeat' split) <;> simp [hf, hs]

/-- Every request leaves the queue in its room and the lines right. -/
theorem owner_link_lawful {i : Instr} {f : State → State × Answer} (ho : ownerOf i = some f) :
    (f s).1.link.Lawful := by
  cases i <;> simp only [ownerOf, Option.some.injEq, reduceCtorEq] at ho <;> subst ho
  case fetchNotice =>
    unfold fetchNotice
    split
    · exact hs
    next n rest queue =>
      refine Link.lawful_setLines ?_
      have := hs.1
      rw [queue, List.length_cons] at this
      exact Nat.le_of_succ_le this
  case setNoticeMask =>
    unfold setNoticeMask
    split
    · exact Link.lawful_setLines hs.1
    · exact hs
  case setClock => exact hs
  case hold | resume | cancel | acceptUnweighed | finishUnweighed =>
    refine link_lawful_onHoist hs (fun h => ?_) _
    (repeat' split) <;> simp [hs]
  case jog =>
    unfold jog
    split
    · exact hs
    · refine link_lawful_onHoist hs (fun h => ?_) _
      (repeat' split) <;> simp [hs]
  case identify | restart | lockCalibration | readZones | readBalance | readFault | ackFault => exact hs
  case readStatus | readSetting | readClass | readOrder | readLoad | readJig | readPeriod =>
    simp only [readStatus, readSetting, readClass, readOrder, readLoad, readJig, readPeriod]
    (repeat' split) <;> exact hs
  case writeSetting | writeClass | readFieldStatus =>
    simp only [writeSetting, writeClass, readFieldStatus]
    (repeat' split) <;> simp [putSetting, emptyAccumulators, Station.all, hs]
  case openOrder | closeOrder | removeOrder | registerLoad | removeLoad | addJig | stripJig | removeJig =>
    simp only [openOrder, closeOrder, removeOrder, registerLoad, removeLoad, addJig, stripJig, removeJig]
    (repeat' split) <;> simp [hs]
  case present | enableHoist | disableHoist | setZoneService | claimZones | releaseZones | restoreSkimmer =>
    simp only [present, enableHoist, disableHoist, setZoneService, setService, claimZones, releaseZones, restoreSkimmer]
    (repeat' split) <;> simp [hs]
  case chargeZinc | reportDross | reportAsh | reconcile | closePeriod | discardPeriod =>
    simp only [chargeZinc, reportDross, reportAsh, reconcile, closePeriod, discardPeriod]
    (repeat' split) <;> simp [hs]

/-- Every event of the blocks' work leaves the queue in its room and the lines right. -/
theorem effect_link_lawful {i : Instr} {e : State → State} (he : eventOf i = some e) : (e s).link.Lawful := by
  have whenDue {b : Bool} {t : State} (ht : t.link.Lawful) : (if b = true then t else s).link.Lawful := by
    split
    · exact ht
    · exact hs
  cases i <;> simp only [eventOf, Option.some.injEq, reduceCtorEq] at he <;> subst he
  case holdButton4sMark =>
    refine whenDue ?_
    unfold fourSecondMark
    split <;> simp [hs]
  case motionOverdue =>
    dsimp only
    split <;> simp [overdue, hs]
  case weighInTimeout => exact whenDue (by simp [weighInPasses, hs])
  case weighOutTimeout => exact whenDue (link_lawful_withDepthTrials (link_lawful_weighOutPasses hs))
  case windowEntryExpiry => exact whenDue (link_lawful_tryWaiting hs)
  case fieldNoAnswer | fieldAnswerReceived =>
    simp only [noAnswer, answer]
    split <;> simp [hs]
  case immersionCountdownZero | vibrateEnd | drainEnd | recoveryTimeout | kettleQuiet | reconcileTimeout =>
    exact whenDue (by simp [hs])
  case skimLeadReached | skimWaitExpired | overdipLimitExceeded | gateTrialTick | fieldPollDue | fieldRetryDue =>
    simp [hs]

end Work

end Sys2Proof.Machine
end

section
/-! PROOFS. What one command can do to the module, the plant link and the queue, said once. -/

namespace Sys2Proof.Machine

/-! ## Resets (R197, R198, R199) -/

/-- Every reset starts up to stage 8, or is overtaken before it by what waits. -/
theorem startUp_startedTo (k : ResetKind) (s : State) :
    ∃ n, 1 ≤ n ∧ n ≤ 8 ∧ (n < 8 → s.interrupted) ∧ startUp k (endWork s) = startedTo k n s := by
  cases overtaking : s.overtaking with
  | none => exact ⟨8, by decide, le_rfl, fun h => absurd h (lt_irrefl 8), startUp_ends overtaking⟩
  | some i =>
    refine ⟨i.val + 1, by omega, by omega, fun _ => ?_, startUp_overtaken overtaking⟩
    rw [← interruptWaits_iff]
    by_contra away
    simp [State.overtaking, away] at overtaking

/-- A supply reset starts up from a store that is good or lost, with an empty notice queue (R188, R194). -/
theorem stageSupply_endWork (fast single key : Bool) (s : State) :
    ∃ u : State, stageSupply fast single key s = endWork u ∧ u.unit.powered = true ∧ u.link.notices = [] ∧
      u.pending = s.pending := by
  cases good : s.unit.checkGood with
  | true => exact ⟨_, stageSupply_kept fast single key good, rfl, rfl, rfl⟩
  | false => exact ⟨_, stageSupply_lost fast single key good, rfl, rfl, rfl⟩

/-! ## The outcome of a command -/

/-- What a command makes of a state: a change of the link's own items (or of none), the work of an owner or of an event,
a button, the end of all work, or a start-up. -/
inductive CommandOutcome (s : State) : State → Prop
  | link (rx : RxState) (buffer : List Byte) (reply : Option Reply) (clock : Nat) :
      CommandOutcome s { s with link := { s.link with rx := rx, buffer := buffer, reply := reply, clock := clock } }
  | served {i : Instr} {f : State → State × Answer} (owner : ownerOf i = some f) (active : s.active = true)
      (kind tag : Nat) (a : Answer) : CommandOutcome s (respond kind tag a (f s).1)
  | event {i : Instr} {e : State → State} (event : eventOf i = some e) (active : s.active = true) :
      CommandOutcome s (endEvent (e s))
  | press (h : Hoist) : CommandOutcome s (endEvent (pressButton h s))
  | release (h : Hoist) : CommandOutcome s (endEvent (releaseButton h s))
  | level (h : Hoist) (level : Bool) : CommandOutcome s (holdLevel h level s)
  | ends : CommandOutcome s (endWork s)
  | off (cutOff : Bool) : CommandOutcome s (powerDown cutOff s)
  | starts (k : ResetKind) {n : Nat} {u : State} (stages : 1 ≤ n ∧ n ≤ 8) (overtaken : n < 8 → u.interrupted)
      (powered : u.unit.powered = true) (notices : u.link.notices.length ≤ s.link.notices.length)
      (pending : u.pending = s.pending) : CommandOutcome s (startedTo k n u)

namespace CommandOutcome

variable {s : State}

theorem same : CommandOutcome s s := .link s.link.rx s.link.buffer s.link.reply s.link.clock

theorem answered (kind tag : Nat) (a : Answer) : CommandOutcome s (respond kind tag a s) :=
  .link .answering [] (some { kind := (kind + 128) % 256, tag := tag, status := a.status, body := a.body }) s.link.clock

theorem discarded : CommandOutcome s (discardFrame s) := .link .hunting [] s.link.reply s.link.clock

theorem restarted (k : ResetKind) (powered : s.unit.powered = true) : CommandOutcome s (startUp k (endWork s)) := by
  obtain ⟨n, least, most, overtaken, startUp⟩ := startUp_startedTo k s
  exact startUp ▸ .starts k ⟨least, most⟩ overtaken powered le_rfl rfl

theorem supplied (fast single key : Bool) : CommandOutcome s (powerUp fast single key s) := by
  obtain ⟨u, stage, powered, notices, pending⟩ := stageSupply_endWork fast single key s
  obtain ⟨n, least, most, overtaken, startUp⟩ := startUp_startedTo .supply u
  rw [powerUp, stage, startUp]
  exact .starts _ ⟨least, most⟩ overtaken powered (by simp [notices]) pending

end CommandOutcome

theorem request_outcome {i : Instr} {f : State → State × Answer} (owner : ownerOf i = some f) (kind tag : Nat)
    (s : State) : CommandOutcome s (request kind tag f s) := by
  unfold request
  split
  next listening =>
    simp only [State.listening, Bool.and_eq_true] at listening
    exact .served owner listening.1.1 _ _ _
  next => exact .same

theorem serve_outcome (kind tag : Nat) (payload : List Byte) {s : State} (active : s.active = true) :
    CommandOutcome s (serve kind tag payload s) := by
  unfold serve
  split
  · exact .answered _ _ _
  · exact .answered _ _ _
  · split
    next owner => exact .served owner active _ _ _
    next => exact .same

theorem receiveByte_outcome (b : Byte) {s : State} (active : s.active = true) :
    CommandOutcome s (receiveByte b s) := by
  unfold receiveByte
  split
  · split
    · exact .link .receiving [b] s.link.reply s.link.clock
    · exact .same
  · unfold storeByte
    dsimp only
    split
    · exact .discarded
    · split
      · split
        · exact serve_outcome _ _ _ active
        · exact .discarded
      · exact .link s.link.rx _ s.link.reply s.link.clock
  · exact .same

theorem exec_outcome {c : Instr} {s t : State} (ht : exec c s = .next t) : CommandOutcome s t := by
  rcases command_cases c with ⟨f, hf⟩ | ⟨e, he⟩ | ⟨k, tag, rfl⟩ | rfl | rfl | rfl | ⟨f, l, k, rfl⟩ | rfl | rfl | rfl |
    ⟨h, rfl⟩ | ⟨h, rfl⟩ | ⟨b, rfl⟩ | ⟨x, rfl⟩
  · obtain ⟨k, hk⟩ := exec_owner hf s
    rw [hk] at ht
    cases ht
    exact request_outcome hf k 0 s
  · rw [exec_event he s] at ht
    cases ht
    unfold event
    split
    · exact .event he ‹_›
    · exact .same
  all_goals cases ht
  · unfold unknownKind
    split
    · exact .answered _ _ _
    · exact .same
  · split
    · exact .discarded
    · exact .same
  · split
    · split
      · exact .discarded
      · exact .same
    · exact .same
  · split
    next sent =>
      simp only [State.active, Bool.and_eq_true] at sent
      unfold replyEnds
      split
      · exact .restarted _ sent.1.1
      · exact .link .hunting [] none s.link.clock
    next => exact .same
  · exact .supplied f l k
  · split
    · exact .ends
    · exact .same
  · split
    next released =>
      simp only [Bool.and_eq_true] at released
      exact .restarted _ released.1.1
    next => exact .same
  · split
    · exact .link s.link.rx s.link.buffer s.link.reply _
    · exact .same
  · split
    · exact .press h
    · exact .level h true
  · split
    · exact .release h
    · exact .level h false
  · split
    · exact receiveByte_outcome b ‹_›
    · exact .same
  · split
    · exact .off x
    · exact .same

/-! ## The module's standing and the queue -/

/-- What says whether the module works, or stands short of the end of a start-up; and the commands that wait. -/
def State.standing (s : State) : Bool × Bool × Option Nat × List Instr :=
  (s.unit.powered, s.unit.inReset, s.unit.starting, s.pending)

theorem standing_congr {s t : State} (unit : t.unit = s.unit) (pending : t.pending = s.pending) :
    t.standing = s.standing := by
  simp only [State.standing, unit, pending]

@[simp] theorem standing_withDepthTrials {f : State → State} {s : State} (hf : (f s).standing = s.standing) :
    (withDepthTrials f s).standing = s.standing := by
  unfold withDepthTrials
  split
  · exact hf
  · exact (standing_congr (by simp) (by simp)).trans hf

theorem standing_bookChange (f : Balance → Balance) (s : State) : (bookChange f s).1.standing = s.standing := by
  refine (standing_congr (by simp [bookChange]) (by simp [bookChange])).trans
    (standing_withDepthTrials (f := fun s => refreshDepth (changeBalance f s)) (s := s) ?_)
  exact standing_congr (by simp) (by simp)

theorem standing_onHoist {f : Hoist → State → State × Answer} {s : State} (hf : ∀ h, (f h s).1.standing = s.standing)
    (n : Nat) : (onHoist n f s).1.standing = s.standing := by
  unfold onHoist
  (repeat' split) <;> simp [hf]

/-- No request changes how the module stands, nor the queue. -/
theorem owner_standing {i : Instr} {f : State → State × Answer} (ho : ownerOf i = some f) (s : State) :
    (f s).1.standing = s.standing := by
  cases i <;> simp only [ownerOf, Option.some.injEq, reduceCtorEq] at ho <;> subst ho
  case hold | resume | cancel | acceptUnweighed =>
    refine standing_onHoist (fun h => ?_) _
    (repeat' split) <;> simp [State.standing]
  case finishUnweighed =>
    refine standing_onHoist (fun h => ?_) _
    split
    · rfl
    · split
      · exact (standing_congr (by simp) (by simp)).trans
          (standing_withDepthTrials (f := finishWithout h) (standing_congr (by simp) (by simp)))
      · rfl
  case jog =>
    unfold jog
    split
    · rfl
    · refine standing_onHoist (fun h => ?_) _
      (repeat' split) <;> simp [State.standing]
  case identify | setClock | restart | lockCalibration | readZones | readBalance | readFault | ackFault => rfl
  case readStatus | readSetting | readClass | readOrder | readLoad | readJig | readPeriod =>
    simp only [readStatus, readSetting, readClass, readOrder, readLoad, readJig, readPeriod]
    (repeat' split) <;> rfl
  case writeSetting | writeClass | readFieldStatus | fetchNotice | setNoticeMask =>
    simp only [writeSetting, writeClass, readFieldStatus, fetchNotice, setNoticeMask]
    (repeat' split) <;> simp [State.standing, putSetting, emptyAccumulators, Station.all]
  case openOrder | closeOrder | removeOrder | registerLoad | removeLoad | addJig | stripJig | removeJig =>
    simp only [openOrder, closeOrder, removeOrder, registerLoad, removeLoad, addJig, stripJig, removeJig]
    (repeat' split) <;> simp [State.standing]
  case present | enableHoist | disableHoist | setZoneService | claimZones | releaseZones | restoreSkimmer =>
    simp only [present, enableHoist, disableHoist, setZoneService, setService, claimZones, releaseZones, restoreSkimmer]
    (repeat' split) <;> simp [State.standing]
  case chargeZinc | reportDross | reportAsh =>
    simp only [chargeZinc, reportDross, reportAsh]
    split
    · rfl
    · exact standing_bookChange _ _
  case reconcile | closePeriod | discardPeriod =>
    simp only [reconcile, closePeriod, discardPeriod]
    (repeat' split) <;> simp [State.standing]

/-- Nor does an event of the blocks' work. -/
theorem effect_standing {i : Instr} {e : State → State} (he : eventOf i = some e) (s : State) :
    (e s).standing = s.standing := by
  have whenDue {b : Bool} {t : State} (ht : t.standing = s.standing) : (if b = true then t else s).standing = s.standing := by
    split
    · exact ht
    · rfl
  cases i <;> simp only [eventOf, Option.some.injEq, reduceCtorEq] at he <;> subst he
  case motionOverdue =>
    dsimp only [lateOverdue]
    (repeat' split) <;> simp [State.standing]
  case weighOutTimeout => exact whenDue (standing_withDepthTrials (standing_congr (by simp) (by simp)))
  case holdButton4sMark | immersionCountdownZero | vibrateEnd | drainEnd | recoveryTimeout | weighInTimeout |
      windowEntryExpiry | kettleQuiet | reconcileTimeout =>
    exact whenDue (standing_congr (by simp) (by simp))
  case skimLeadReached | skimWaitExpired | overdipLimitExceeded | gateTrialTick | fieldPollDue | fieldRetryDue |
      fieldNoAnswer | fieldAnswerReceived =>
    exact standing_congr (by simp) (by simp)

theorem standing_holdLevel (h : Hoist) (level : Bool) (s : State) : (holdLevel h level s).standing = s.standing :=
  standing_congr (by simp [holdLevel]) (by simp [holdLevel])

theorem standing_endEvent (s : State) : (endEvent s).standing = s.standing := standing_congr (by simp) (by simp)

theorem startedTo_pending (k : ResetKind) (n : Nat) (s : State) : (startedTo k n s).pending = s.pending := by
  obtain ⟨-, -, -, -, -, -, -, -, -, -, -, -, -, -, ended⟩ := startedTo_frame k n s
  obtain ⟨-, -, -, -, -, staged⟩ := started_frame k n s
  exact ended.trans staged

/-- No command touches the commands that wait. -/
theorem CommandOutcome.pending {s t : State} (ht : CommandOutcome s t) : t.pending = s.pending := by
  have of_standing {u : State} (hu : u.standing = s.standing) : u.pending = s.pending :=
    congrArg (fun m => m.2.2.2) hu
  cases ht with
  | link => rfl
  | served owner => exact of_standing (owner_standing owner s)
  | event event => exact of_standing ((standing_endEvent _).trans (effect_standing event s))
  | press h => simp
  | release h => simp
  | level h level => exact of_standing (standing_holdLevel h level s)
  | ends => rfl
  | off => rfl
  | starts k _ _ _ _ pending => exact (startedTo_pending k _ _).trans pending

/-- Every arm of the table answers a next state. -/
theorem exec_total (c : Instr) (s : State) : ∃ t, exec c s = .next t := by
  cases c <;> exact ⟨_, rfl⟩

end Sys2Proof.Machine

open Sys2Proof Sys2Proof.Machine

/-- Settles O2: every command has one of the outcomes of `CommandOutcome`, and none of them touches the queue. -/
theorem everyCommandRunsAndKeepsTheQueue : Obligations.EveryCommandRunsAndKeepsTheQueue := by
  intro c s
  obtain ⟨t, ht⟩ := exec_total c s
  exact ⟨t, ht, (exec_outcome ht).pending⟩

/-- Settles O1, as `step` is written for a queue that is not empty. -/
theorem stepTakesTheFrontCommand : Obligations.StepTakesTheFrontCommand := by
  intro c rest s queue
  rw [step, queue]

end

section
/-! PROOFS. Every step keeps the queue and its lines, and a start-up short of its end only while what overtakes it waits
(R183, R186, R198, R199). -/

namespace Sys2Proof.Machine

/-! ## The two laws, on the module's standing and the link -/

theorem active_congr {s t : State} (standing : t.standing = s.standing) : t.active = s.active := by
  simp only [State.standing, Prod.mk.injEq] at standing
  simp only [State.active, standing]

theorem starting_congr {s t : State} (standing : t.standing = s.standing) : t.unit.starting = s.unit.starting := by
  simp only [State.standing, Prod.mk.injEq] at standing
  exact standing.2.2.1

/-- The law reads of the link its queue, its masks, its strap and its lines alone. -/
theorem noticesLawful_congr {s t : State} (standing : t.standing = s.standing) {rx : RxState} {buffer : List Byte}
    {reply : Option Reply} {clock : Nat}
    (link : t.link = { s.link with rx := rx, buffer := buffer, reply := reply, clock := clock }) :
    t.noticesLawful ↔ s.noticesLawful := by
  have set : t.linesSet = s.linesSet := by simp only [State.linesSet, active_congr standing, starting_congr standing]
  simp only [State.noticesLawful, set, active_congr standing, starting_congr standing, link]
  exact Iff.rfl

/-- In a module that works the law is the link's own, and no start-up stands. -/
theorem noticesLawful_of_active {s : State} (active : s.active = true) :
    s.noticesLawful ↔ s.unit.starting = none ∧ s.link.Lawful := by
  simp only [State.noticesLawful, State.linesSet, active, Bool.true_or, forall_const, reduceCtorEq, false_implies,
    and_true, Link.Lawful]
  tauto

theorem startsLawful_congr {s t : State} (standing : t.standing = s.standing) : t.startsLawful ↔ s.startsLawful := by
  simp only [State.standing, Prod.mk.injEq] at standing
  obtain ⟨powered, inReset, starting, pending⟩ := standing
  simp only [State.startsLawful, State.interrupted, powered, inReset, starting, pending]

/-! ## Start-up -/

/-- Up to stage 1 the lines stay idle; stage 2 sets them from the queue, and every notice after it does (R198). -/
theorem startedTo_noticesLawful (k : ResetKind) {n : Nat} {s : State} (stages : 1 ≤ n ∧ n ≤ 8)
    (powered : s.unit.powered = true) (room : s.link.notices.length ≤ 32) : (startedTo k n s).noticesLawful := by
  have unit := startedTo_unit k n s
  have link := startedTo_link k s stages.1
  have lawful (late : 2 ≤ n) : (startedTo k n s).link.Lawful := by
    rw [link, if_pos late]
    refine Link.Lawful.raises (Link.lawful_setLines ?_) _
    exact room
  have active : (startedTo k n s).active = !decide (n < 8) := by rw [State.active, unit, powered, Bool.true_and]
  rcases Nat.lt_or_ge n 8 with early | ended
  · have starting : (startedTo k n s).unit.starting = some n := by rw [unit, if_pos early]
    have set : (startedTo k n s).linesSet = decide (2 ≤ n) := by
      rw [State.linesSet, active, starting]
      simp [early]
    rw [State.noticesLawful, set, active]
    by_cases late : 2 ≤ n
    · exact ⟨(lawful late).1, by simp [early], fun _ => (lawful late).2, by simp [late]⟩
    · obtain rfl : n = 1 := by omega
      rw [if_neg late, startUpNotices_one, List.foldl_nil] at link
      rw [link]
      exact ⟨room, by simp, by simp, fun _ => ⟨rfl, rfl⟩⟩
  · rw [noticesLawful_of_active (by rw [active]; simpa using ended), unit, if_neg (Nat.not_lt.2 ended)]
    exact ⟨rfl, lawful (by omega)⟩

theorem startedTo_startsLawful (k : ResetKind) {n : Nat} {s : State} (overtaken : n < 8 → s.interrupted)
    (powered : s.unit.powered = true) : (startedTo k n s).startsLawful := by
  rw [State.startsLawful, State.interrupted, startedTo_unit, startedTo_pending]
  split
  next early => exact fun _ => ⟨powered, decide_eq_true early, overtaken early⟩
  next => exact nofun

/-! ## Every command -/

/-- From the end of all work the lines are idle, and no start-up stands (R197). -/
theorem noticesLawful_of_stopped {s : State} (room : s.link.notices.length ≤ 32) (stopped : s.active = false)
    (starting : s.unit.starting = none) (lines : s.link.lineF = false ∧ s.link.lineP = false) : s.noticesLawful := by
  have unset : s.linesSet = false := by simp [State.linesSet, stopped, starting]
  exact ⟨room, by simp [stopped], by simp [unset], fun _ => lines⟩

theorem CommandOutcome.noticesLawful {s t : State} (ht : CommandOutcome s t) (hs : s.noticesLawful) :
    t.noticesLawful := by
  /- Work of a module at work. -/
  have works {u : State} (active : s.active = true) (standing : u.standing = s.standing)
      (lawful : s.link.Lawful → u.link.Lawful) : u.noticesLawful := by
    rw [noticesLawful_of_active active] at hs
    rw [noticesLawful_of_active ((active_congr standing).trans active)]
    exact ⟨(starting_congr standing).trans hs.1, lawful hs.2⟩
  cases ht with
  | link => exact (noticesLawful_congr rfl rfl).2 hs
  | served owner active =>
    exact works active (owner_standing owner s) fun lawful => owner_link_lawful lawful owner
  | event event active =>
    refine works active ((standing_endEvent _).trans (effect_standing event s)) fun lawful => ?_
    simpa using effect_link_lawful lawful event
  | press h => exact (noticesLawful_congr (standing_congr (by simp) (by simp)) (by simp; rfl)).2 hs
  | release h => exact (noticesLawful_congr (standing_congr (by simp) (by simp)) (by simp; rfl)).2 hs
  | level h level => exact (noticesLawful_congr (standing_holdLevel h level s) (by simp [holdLevel]; rfl)).2 hs
  | ends => exact noticesLawful_of_stopped hs.1 (by simp [State.active, endWork]) rfl ⟨rfl, rfl⟩
  | off => exact noticesLawful_of_stopped hs.1 (by simp [State.active, powerDown]) rfl ⟨rfl, rfl⟩
  | starts k stages _ powered notices => exact startedTo_noticesLawful k stages powered (notices.trans hs.1)

theorem CommandOutcome.startsLawful {s t : State} (ht : CommandOutcome s t) (hs : s.startsLawful) : t.startsLawful := by
  cases ht with
  | link => exact hs
  | served owner => exact (startsLawful_congr (s := s) (owner_standing owner s)).2 hs
  | event event => exact (startsLawful_congr ((standing_endEvent _).trans (effect_standing event s))).2 hs
  | press h => exact (startsLawful_congr (standing_congr (by simp) (by simp))).2 hs
  | release h => exact (startsLawful_congr (standing_congr (by simp) (by simp))).2 hs
  | level h level => exact (startsLawful_congr (standing_holdLevel h level s)).2 hs
  | ends => exact nofun
  | off => exact nofun
  | starts k _ overtaken powered => exact startedTo_startsLawful k overtaken powered

/-! ## Every step -/

theorem tick_noticesLawful {s : State} (hs : s.noticesLawful) : (tick s).noticesLawful := by
  unfold tick
  split
  · exact hs
  · split <;> exact hs

theorem step_noticesLawful {s t : State} (hs : s.noticesLawful) (ht : step s = .next t) : t.noticesLawful := by
  unfold step at ht
  split at ht
  · cases ht
    exact tick_noticesLawful hs
  next c rest _ => exact (exec_outcome ht).noticesLawful (s := { s with pending := rest }) hs

/-- With the module powered, the reset or the loss of supply that overtakes a start-up ends it. -/
theorem exec_endsStartUp {c : Instr} {s : State} (ends : c = .resetInputAsserted ∨ ∃ cutOff, c = .supplyLost cutOff)
    (powered : s.unit.powered = true) : ∃ t, exec c s = .next t ∧ t.unit.starting = none := by
  rcases ends with rfl | ⟨cutOff, rfl⟩
  · exact ⟨endWork s, congrArg Host.Outcome.next (if_pos powered), rfl⟩
  · exact ⟨powerDown cutOff s, congrArg Host.Outcome.next (if_pos powered), rfl⟩

theorem startsLawful_of_starting {s : State} (none : s.unit.starting = none) : s.startsLawful := by
  simp [State.startsLawful, none]

theorem step_startsLawful {s t : State} (hs : s.startsLawful) (ht : step s = .next t) : t.startsLawful := by
  cases starting : s.unit.starting with
  | none =>
    unfold step at ht
    split at ht
    · cases ht
      refine startsLawful_of_starting ?_
      unfold tick
      split
      · exact starting
      · split <;> exact starting
    next c rest _ =>
      exact (exec_outcome ht).startsLawful (s := { s with pending := rest }) (startsLawful_of_starting starting)
  | some n =>
    obtain ⟨powered, inReset, c, waits, ends⟩ := hs (by simp [starting])
    unfold step at ht
    split at ht
    next empty => simp [empty] at waits
    next front rest queue =>
      rw [queue] at waits
      rcases List.mem_cons.1 waits with rfl | later
      · obtain ⟨u, hu, none⟩ := exec_endsStartUp (s := { s with pending := rest }) ends powered
        rw [hu] at ht
        cases ht
        exact startsLawful_of_starting none
      · exact (exec_outcome ht).startsLawful (s := { s with pending := rest }) fun _ => ⟨powered, inReset, c, later, ends⟩

end Sys2Proof.Machine

open Sys2Proof Sys2Proof.Machine

/-- Settles O54: what raises notices keeps the queue and sets the lines, and a start-up ends with its last stage or is
overtaken by what waits. -/
theorem noticesAndLinesStayLawful : Obligations.NoticesAndLinesStayLawful :=
  ⟨fun _ _ hs ht => step_noticesLawful hs ht, fun _ _ hs ht => step_startsLawful hs ht⟩

end

section
/-! PROOFS. What the bytes of a request spell: numbers, texts and optional fields in a payload (R173, R176, R179). -/

namespace Sys2Proof

/-! ## Numbers (R173) -/

theorem leNat_natBytes {n v : Nat} (fits : v < 256 ^ n) : leNat (natBytes n v) = v := by
  induction n generalizing v with
  | zero => simp [natBytes, leNat, Nat.lt_one_iff.1 fits]
  | succ n ih =>
    rw [natBytes, leNat, ih (Nat.div_lt_of_lt_mul (by rwa [pow_succ'] at fits)), BitVec.toNat_ofNat]
    exact Nat.mod_add_div v 256

theorem leNat_eq_zero_iff (bs : List Byte) : leNat bs = 0 ↔ ∀ b ∈ bs, b = 0#8 := by
  induction bs with
  | nil => simp [leNat]
  | cons b bs ih =>
    have zero : b.toNat = 0 ↔ b = 0#8 := by rw [← BitVec.toNat_inj]; rfl
    rw [leNat, List.forall_mem_cons, ← ih, ← zero]
    omega

/-! ## Fields of a payload (R179) -/

section Fields

variable {a b : List Byte} {off len v : Nat}

@[simp] theorem field_append_left (within : off + len ≤ a.length) : field (a ++ b) off len = field a off len := by
  rw [field, field, List.drop_append_of_le_length (by omega), List.take_append_of_le_length (by simp; omega)]

@[simp] theorem field_append_right (beyond : a.length ≤ off) : field (a ++ b) off len = field b (off - a.length) len := by
  rw [field, field, List.drop_append, List.drop_eq_nil_of_le beyond, List.nil_append]

theorem field_natBytes (fits : v < 256 ^ len) : field (natBytes len v) 0 len = v := by
  rw [field, List.drop_zero, List.take_of_length_le (by simp), leNat_natBytes fits]

@[simp] theorem field_of_fits8 (fits : fits8 v = true) : field (natBytes 1 v) 0 1 = v :=
  field_natBytes (of_decide_eq_true fits)

@[simp] theorem field_of_fits16 (fits : fits16 v = true) : field (natBytes 2 v) 0 2 = v :=
  field_natBytes (of_decide_eq_true fits)

@[simp] theorem field_of_fits32 (fits : fits32 v = true) : field (natBytes 4 v) 0 4 = v :=
  field_natBytes (of_decide_eq_true fits)

theorem zeroRun_iff (p : List Byte) (off len : Nat) : zeroRun p off len = true ↔ field p off len = 0 := by
  simp [zeroRun, field, leNat_eq_zero_iff]

end Fields

/-! ## Signed numbers, optional fields and texts (R179) -/

@[simp] theorem intBytes_length (x : Int) : (intBytes x).length = 4 := Machine.natBytes_length ..

/-- A number in two's complement reads back as itself. -/
@[simp] theorem signed32_intBytes {x : Int} (fits : fitsSigned32 x = true) : signed32 (field (intBytes x) 0 4) = x := by
  simp only [fitsSigned32, Bool.and_eq_true, decide_eq_true_eq] at fits
  rw [intBytes, field_natBytes (by omega), signed32]
  split <;> omega

@[simp] theorem optBytes_length (o : Option Nat) : (optBytes o).length = 5 := by
  cases o <;> simp [optBytes]

@[simp] theorem field_optBytes_presence (o : Option Nat) : field (optBytes o) 0 1 = if o.isSome then 1 else 0 := by
  cases o <;> rfl

@[simp] theorem field_optBytes_value {o : Option Nat} (fits : fitsOpt32 o = true) : field (optBytes o) 1 4 = o.getD 0 := by
  cases o with
  | none => rfl
  | some v =>
    change field ([1#8] ++ natBytes 4 v) 1 4 = v
    rw [field_append_right (by simp)]
    exact field_of_fits32 fits

theorem textBytes_eq (r : List Nat) :
    textBytes r = natBytes 1 r.length ++ (r.map (BitVec.ofNat 8) ++ List.replicate (16 - r.length) 0#8) := rfl

section Texts

variable {a : List Byte} {r : List Nat} (fits : fitsText r = true)

include fits

theorem fitsText_length : r.length ≤ 16 := by
  simp only [fitsText, Bool.and_eq_true, decide_eq_true_eq] at fits
  exact fits.1

@[simp] theorem textBytes_length : (textBytes r).length = 17 := by
  have := fitsText_length fits
  simp only [textBytes_eq, List.length_append, Machine.natBytes_length, List.length_map, List.length_replicate]
  omega

@[simp] theorem field_textBytes_length : field (textBytes r) 0 1 = r.length := by
  have := fitsText_length fits
  rw [textBytes_eq, field_append_left (by simp), field_natBytes (by omega)]

/-- The characters, each of one byte, read back. -/
theorem textField_append (off : a.length = n) : textField (a ++ textBytes r) n = r := by
  have short := fitsText_length fits
  have bytes : (r.map (BitVec.ofNat 8)).map BitVec.toNat = r := by
    simp only [fitsText, Bool.and_eq_true, List.all_eq_true, fits8, decide_eq_true_eq] at fits
    rw [List.map_map]
    exact (List.map_congr_left fun c hc => Nat.mod_eq_of_lt (fits.2 c hc)).trans (List.map_id r)
  subst off
  have skip : (a ++ textBytes r).drop (a.length + 1) = r.map (BitVec.ofNat 8) ++ List.replicate (16 - r.length) 0#8 := by
    rw [List.drop_append, List.drop_eq_nil_of_le (by omega), Nat.add_sub_cancel_left]
    rfl
  rw [textField, field_append_right le_rfl, Nat.sub_self, field_textBytes_length fits, skip, min_eq_left short,
    List.take_left' (by simp), bytes, Nat.sub_eq_zero_of_le short, List.replicate_zero, List.append_nil]

end Texts

/-- The places of a text beyond its length are zero. -/
theorem field_text_beyond {a : List Byte} (r : List Nat) (off : a.length + 1 = n) :
    field (a ++ textBytes r) (n + r.length) (16 - r.length) = 0 := by
  subst off
  rw [field_append_right (by omega), textBytes_eq, field_append_right (by simp; omega), field_append_right (by simp; omega),
    ← zeroRun_iff]
  simp [zeroRun]

/-! ## The checks of a request in hand (R176) -/

/-- A payload of the right length, presence bytes and reserved bytes is the request it spells. -/
theorem checkForm_request {kind n : Nat} {p : List Byte} {i : Instr} (index : payloadLength kind = some n)
    (length : p.length = n) (read : readRequest kind p = some i) (presence : presenceOk kind p = true)
    (reserved : reservedOk kind p = true) : checkForm kind p = .request i ∧ payloadLength kind = some p.length := by
  refine ⟨?_, by rw [index, length]⟩
  simp only [checkForm, index, read]
  exact if_pos ⟨length, presence, reserved⟩

end Sys2Proof

open Sys2Proof Sys2Proof.Machine

/-- Settles O4: each operand is read at the place where it was written, request by request. -/
theorem encodedRequestReadsBackAsItself : Obligations.EncodedRequestReadsBackAsItself := by
  intro i kind p fits spells
  cases i <;> simp only [encodeRequest, Option.some.injEq, Prod.mk.injEq, reduceCtorEq] at spells <;>
    obtain ⟨rfl, rfl⟩ := spells <;> simp only [Instr.wellFormed, Bool.and_eq_true] at fits
  case writeClass t n f1 f2 f3 f4 f5 f6 =>
    refine checkForm_request rfl (by simp [byteOf]) (congrArg some (by simp [byteOf, fits])) rfl ?_
    have table : field (byteOf t ++ byteOf n ++ natBytes 2 f1 ++ natBytes 2 f2 ++ natBytes 2 f3 ++ natBytes 2 f4 ++
        natBytes 2 f5 ++ natBytes 2 f6) 0 1 = t := by simp [byteOf, fits]
    rw [reservedOk, table]
    by_cases silicon : t = 1
    · obtain ⟨-, unused⟩ := fits
      simp only [silicon, ne_eq, not_true_eq_false, decide_false, Bool.false_or, Bool.and_eq_true,
        decide_eq_true_eq] at unused
      obtain ⟨⟨⟨⟨rfl, rfl⟩, rfl⟩, rfl⟩, rfl⟩ := unused
      exact Bool.or_eq_true_iff.2 (.inr rfl)
    · simp [silicon]
  case openOrder n r =>
    obtain ⟨number, text⟩ := fits
    refine checkForm_request rfl (by simp [text]) ?_ rfl ?_
    · rw [readRequest, textField_append text (by simp)]
      simp [number]
    · have beyond := field_text_beyond (a := natBytes 4 n) (n := 5) r (by simp)
      have length : field (natBytes 4 n ++ textBytes r) 4 1 = r.length := by simp [text]
      rw [reservedOk, length, Bool.or_eq_true]
      exact .inr ((zeroRun_iff ..).2 beyond)
  case registerLoad declared =>
    refine checkForm_request rfl (by simp [byteOf]) (congrArg some ?_) ?_ ?_
    · cases declared <;> simp [byteOf, field32, optField, fits]
    · cases declared <;> simp [presenceOk, byteOf]
    · cases declared <;> simp [reservedOk, zeroRun_iff, byteOf, fits]
  case stripJig newBase =>
    refine checkForm_request rfl (by simp [byteOf]) (congrArg some ?_) ?_ ?_
    · cases newBase <;> simp [byteOf, optField, fits]
    · cases newBase <;> simp [presenceOk, byteOf]
    · cases newBase <;> simp [reservedOk, zeroRun_iff, byteOf, fits]
  all_goals
    exact checkForm_request rfl (by simp [byteOf]) (congrArg some (by simp [byteOf, field32, fits])) rfl rfl

end

section
/-! PROOFS. The checks of R176 in their order, and the check word bit by bit (R174). -/

namespace Sys2Proof

/-! ## The checks in their order (R176) -/

/-- Every kind of the index has a request to read. -/
theorem readRequest_of_index {kind n : Nat} (index : payloadLength kind = some n) (p : List Byte) :
    ∃ i, readRequest kind p = some i := by
  unfold payloadLength at index
  split at index
  case h_48 => cases index
  all_goals exact ⟨_, rfl⟩

theorem checkForm_of_index {kind n : Nat} (index : payloadLength kind = some n) (p : List Byte) :
    ∃ i, checkForm kind p =
      if p.length = n ∧ presenceOk kind p = true ∧ reservedOk kind p = true then .request i else .format := by
  obtain ⟨i, read⟩ := readRequest_of_index index p
  exact ⟨i, by simp only [checkForm, index, read]⟩

theorem checkForm_of_no_index {kind : Nat} (none : payloadLength kind = none) (p : List Byte) :
    checkForm kind p = .unknownKind := by
  simp only [checkForm, none]

theorem checkForm_format {kind n : Nat} (index : payloadLength kind = some n) {p : List Byte}
    (bad : ¬ (p.length = n ∧ presenceOk kind p = true ∧ reservedOk kind p = true)) : checkForm kind p = .format := by
  obtain ⟨i, checks⟩ := checkForm_of_index index p
  rw [checks, if_neg bad]

theorem form_of_request {kind n : Nat} (index : payloadLength kind = some n) {p : List Byte} {i : Instr}
    (passes : checkForm kind p = .request i) :
    p.length = n ∧ presenceOk kind p = true ∧ reservedOk kind p = true := by
  by_contra bad
  rw [checkForm_format index bad] at passes
  cases passes

/-! ## Presence and reserved bytes (R179, R180) -/

theorem registerLoad_form_iff (p : List Byte) :
    presenceOk 0x14 p = true ∧ reservedOk 0x14 p = true ↔
      field p 20 1 ≤ 1 ∧ (field p 20 1 = 0 → field p 21 4 = 0) := by
  simp [presenceOk, reservedOk, zeroRun_iff, imp_iff_not_or]

theorem stripJig_form_iff (p : List Byte) :
    presenceOk 0x1A p = true ∧ reservedOk 0x1A p = true ↔ field p 1 1 ≤ 1 ∧ (field p 1 1 = 0 → field p 2 4 = 0) := by
  simp [presenceOk, reservedOk, zeroRun_iff, imp_iff_not_or]

theorem writeClass_form_iff (p : List Byte) : reservedOk 0x0A p = true ↔ (field p 0 1 = 1 → field p 4 10 = 0) := by
  simp [reservedOk, zeroRun_iff, imp_iff_not_or]

theorem openOrder_form_iff (p : List Byte) :
    reservedOk 0x10 p = true ↔ (field p 4 1 ≤ 16 → field p (5 + field p 4 1) (16 - field p 4 1) = 0) := by
  simp [reservedOk, zeroRun_iff, imp_iff_not_or]

end Sys2Proof

namespace Sys2Proof.Machine

/-! ## The check word (R174) -/

theorem crcBit_eq (c : Crc) (b : Bool) :
    crcBit c b = if c.getLsbD 15 = b then c <<< 1 else (c <<< 1) ^^^ 0x1021#16 := by
  rw [crcBit, BitVec.msb_eq_getLsbD_last]
  by_cases same : c.getLsbD 15 = b <;> simp

theorem crcByte_eq (c : Crc) (b : Byte) :
    crcByte c b = [7, 6, 5, 4, 3, 2, 1, 0].foldl
      (fun (c : Crc) i => if c.getLsbD 15 = b.getLsbD i then c <<< 1 else (c <<< 1) ^^^ 0x1021#16) c := by
  simp only [← crcBit_eq]
  rfl

theorem crc_append_byte (bs : List Byte) (b : Byte) : crc (bs ++ [b]) = crcByte (crc bs) b := by
  simp [crc]

end Sys2Proof.Machine

open Sys2Proof Sys2Proof.Machine

/-- Settles O5: `checkForm` is read off its four tests, and a bad presence or reserved byte fails the last two. -/
theorem formChecksStandInTheirOrder : Obligations.FormChecksStandInTheirOrder := by
  refine ⟨fun kind p => ⟨fun none => checkForm_of_no_index none p, fun n index length => ?_,
      fun n i index passes => ?_⟩,
    ⟨rfl, fun bs b => ?_, by decide +kernel, rfl, rfl, rfl, rfl⟩,
    fun p => ⟨fun _ bad => ?_, fun _ bad => ?_, fun _ silicon bad => ?_, fun _ short bad => ?_⟩⟩
  · exact checkForm_format index fun form => length form.1
  · obtain ⟨length, presence, reserved⟩ := form_of_request index passes
    refine ⟨length, ?_, ?_, ?_, ?_⟩ <;> rintro rfl
    · exact (registerLoad_form_iff p).1 ⟨presence, reserved⟩
    · exact (stripJig_form_iff p).1 ⟨presence, reserved⟩
    · exact (writeClass_form_iff p).1 reserved
    · exact (openOrder_form_iff p).1 reserved
  · rw [crc_append_byte, crcByte_eq]
  · refine checkForm_format rfl fun form => ?_
    obtain ⟨presence, reserved⟩ := (registerLoad_form_iff p).1 form.2
    exact bad.elim presence.not_gt fun absent => absent.2 (reserved absent.1)
  · refine checkForm_format rfl fun form => ?_
    obtain ⟨presence, reserved⟩ := (stripJig_form_iff p).1 form.2
    exact bad.elim presence.not_gt fun absent => absent.2 (reserved absent.1)
  · exact checkForm_format rfl fun form => bad ((writeClass_form_iff p).1 form.2.2 silicon)
  · exact checkForm_format rfl fun form => bad ((openOrder_form_iff p).1 form.2.2 short)

end

section
/-! PROOFS. The bytes on the plant link: each receiving state, and the run of a whole frame (R173 to R177). -/

namespace Sys2Proof.Machine

/-! ## One byte in each receiving state (R175) -/

theorem exec_byte {s : State} (active : s.active = true) (b : Byte) :
    exec (.frameByteReceived b) s = .next (receiveByte b s) := congrArg Host.Outcome.next (if_pos active)

theorem receiveByte_lead {s : State} (hunting : s.link.rx = .hunting) :
    receiveByte 0xA7#8 s = { s with link := { s.link with rx := .receiving, buffer := [0xA7#8] } } := by
  simp only [receiveByte, hunting]
  rfl

theorem receiveByte_stray {s : State} (hunting : s.link.rx = .hunting) {b : Byte} (stray : b ≠ 0xA7#8) :
    receiveByte b s = s := by
  simp only [receiveByte, hunting]
  exact if_neg stray

theorem receiveByte_answering {s : State} (answering : s.link.rx = .answering) (b : Byte) : receiveByte b s = s := by
  simp only [receiveByte, answering]

theorem receiveByte_receiving {s : State} (receiving : s.link.rx = .receiving) (b : Byte) :
    receiveByte b s = storeByte b s := by
  simp only [receiveByte, receiving]

/-! ## A byte stored in RECEIVING (R174, R175) -/

theorem lengthBad_of_le {buffer : List Byte} (short : field buffer 1 1 ≤ 200) : lengthBad buffer = false := by
  rw [lengthBad, Bool.and_eq_false_iff]
  exact .inr (decide_eq_false (Nat.not_lt.2 short))

section Store

variable {s : State} {b : Byte} {buffer : List Byte} (stored : buffer = s.link.buffer ++ [b])

include stored

theorem storeByte_long (held : 1 ≤ s.link.buffer.length) (long : 200 < field buffer 1 1) :
    storeByte b s = discardFrame s := by
  subst stored
  exact if_pos (by simpa [lengthBad, frameLength, long] using held)

theorem storeByte_part (short : field buffer 1 1 ≤ 200) (part : buffer.length < field buffer 1 1 + 6) :
    storeByte b s = { s with link := { s.link with buffer := buffer } } := by
  subst stored
  have fits : lengthBad (s.link.buffer ++ [b]) = false := lengthBad_of_le short
  have waits : frameWhole (s.link.buffer ++ [b]) = false :=
    Bool.and_eq_false_imp.2 fun whole => absurd (of_decide_eq_true whole) (Nat.not_le.2 part)
  simp only [storeByte, fits, waits, Bool.false_eq_true, if_false]

/-- With n + 6 bytes held the frame is whole: its check word decides. -/
theorem storeByte_whole {n : Nat} (length : field buffer 1 1 = n) (short : n ≤ 200) (whole : buffer.length = n + 6) :
    storeByte b s =
      if (crc ((buffer.drop 1).take (n + 3))).toNat = 256 * field buffer (4 + n) 1 + field buffer (5 + n) 1 then
        serve (field buffer 2 1) (field buffer 3 1) ((buffer.drop 4).take n) s
      else discardFrame s := by
  subst stored
  have fits : lengthBad (s.link.buffer ++ [b]) = false := lengthBad_of_le (length.trans_le short)
  have held : frameWhole (s.link.buffer ++ [b]) = true := by
    simp only [frameWhole, frameLength, length, whole, Bool.and_eq_true, decide_eq_true_eq]
    omega
  simp only [storeByte, fits, held, frameGood, frameLength, length, Bool.false_eq_true, if_false, if_true]
  exact if_congr decide_eq_true_iff rfl rfl

end Store

/-! ## A run of bytes -/

theorem runCommands_append {cs ds : List Instr} {s t : State} (run : runCommands cs s = .next t) :
    runCommands (cs ++ ds) s = runCommands ds t := by
  induction cs generalizing s with
  | nil => cases run; rfl
  | cons c cs ih =>
    obtain ⟨u, hu⟩ := exec_total c s
    simp only [List.cons_append, runCommands, hu] at run ⊢
    exact ih run

theorem runCommands_byte {s : State} (active : s.active = true) (b : Byte) :
    runCommands [.frameByteReceived b] s = .next (receiveByte b s) := by
  simp only [runCommands, exec_byte active]

/-- The interface RECEIVING with these bytes held. -/
def State.receiving (s : State) (buffer : List Byte) : State :=
  { s with link := { s.link with rx := .receiving, buffer := buffer } }

/-- The bytes of a frame that is not yet whole are stored, its length being a good one. -/
theorem runBytes_part {s : State} (active : s.active = true) {held bytes : List Byte} (lead : 1 ≤ held.length)
    (short : field (held ++ bytes) 1 1 ≤ 200) (part : (held ++ bytes).length < field (held ++ bytes) 1 1 + 6) :
    runCommands (bytes.map .frameByteReceived) (s.receiving held) = .next (s.receiving (held ++ bytes)) := by
  induction bytes generalizing held with
  | nil => rw [List.append_nil]; rfl
  | cons b bytes ih =>
    rw [List.append_cons] at short part ⊢
    have length : field (held ++ [b]) 1 1 = field (held ++ [b] ++ bytes) 1 1 :=
      (field_append_left (by simpa using lead)).symm
    have stores : receiveByte b (s.receiving held) = s.receiving (held ++ [b]) := by
      rw [receiveByte_receiving rfl, storeByte_part rfl (length.trans_le short)]
      · rfl
      · rw [← length, List.length_append] at part
        exact Nat.lt_of_le_of_lt (Nat.le_add_right _ _) part
    rw [List.map_cons, ← List.singleton_append, runCommands_append (runCommands_byte (s := s.receiving held) active b), stores]
    exact ih (by simp) short part

/-! ## A whole frame (R173) -/

theorem field_byte {p : List Byte} {off : Nat} (within : off < p.length) : field p off 1 = p[off].toNat := by
  rw [field, List.drop_eq_getElem_cons within, List.take_succ_cons]
  simp [leNat]

section Frame

variable {kind tag : Nat} {p : List Byte}

/-- The checked part of a frame: length, kind, tag and payload (R174). -/
def frameBody (kind tag : Nat) (p : List Byte) : List Byte :=
  [BitVec.ofNat 8 p.length, BitVec.ofNat 8 kind, BitVec.ofNat 8 tag] ++ p

/-- A frame but for its last byte. -/
def frameStart (kind tag : Nat) (p : List Byte) : List Byte :=
  0xA7#8 :: (frameBody kind tag p ++ [BitVec.ofNat 8 ((crc (frameBody kind tag p)).toNat / 256)])

theorem frameBody_length (kind tag : Nat) (p : List Byte) : (frameBody kind tag p).length = p.length + 3 := by
  simp [frameBody]

theorem frameStart_length (kind tag : Nat) (p : List Byte) : (frameStart kind tag p).length = p.length + 5 := by
  simp [frameStart, frameBody_length]

theorem frameOf_eq (kind tag : Nat) (p : List Byte) :
    frameOf kind tag p = frameStart kind tag p ++ [BitVec.ofNat 8 ((crc (frameBody kind tag p)).toNat % 256)] := by
  simp [frameOf, frameStart, frameBody]

theorem frameOf_dropLast (kind tag : Nat) (p : List Byte) : (frameOf kind tag p).dropLast = frameStart kind tag p := by
  rw [frameOf_eq, List.dropLast_concat]

theorem frameStart_byte1 (hp : p.length ≤ 200) : field (frameStart kind tag p) 1 1 = p.length := by
  rw [field_byte (by simp [frameStart_length])]
  simp [frameStart, frameBody]
  omega

/-- With the last byte of a frame stored, what the frame spells is taken. -/
theorem storeByte_frame (hk : kind < 256) (ht : tag < 256) (hp : p.length ≤ 200) (s : State) :
    storeByte (BitVec.ofNat 8 ((crc (frameBody kind tag p)).toNat % 256)) (s.receiving (frameStart kind tag p)) =
      serve kind tag p (s.receiving (frameStart kind tag p)) := by
  have length : field (frameOf kind tag p) 1 1 = p.length := by
    rw [frameOf_eq, field_append_left (by simp [frameStart_length]), frameStart_byte1 hp]
  have whole : (frameOf kind tag p).length = p.length + 6 := by simp [frameOf_eq, frameStart_length]
  have kindByte : field (frameOf kind tag p) 2 1 = kind := by
    rw [field_byte (by omega)]
    simpa [frameOf] using hk
  have tagByte : field (frameOf kind tag p) 3 1 = tag := by
    rw [field_byte (by omega)]
    simpa [frameOf] using ht
  have payload : ((frameOf kind tag p).drop 4).take p.length = p := by simp [frameOf]
  have checked : ((frameOf kind tag p).drop 1).take (p.length + 3) = frameBody kind tag p := by
    simp [frameOf, frameBody]
  have high : field (frameOf kind tag p) (4 + p.length) 1 = (crc (frameBody kind tag p)).toNat / 256 := by
    have fits := (crc (frameBody kind tag p)).isLt
    rw [frameOf_eq, field_append_left (by simp [frameStart_length]; omega), frameStart, ← List.cons_append,
      field_append_right (by simp [frameBody_length]; omega), field_byte (by simp [frameBody_length]; omega)]
    simp
    omega
  have low : field (frameOf kind tag p) (5 + p.length) 1 = (crc (frameBody kind tag p)).toNat % 256 := by
    rw [frameOf_eq, field_append_right (by simp [frameStart_length]; omega),
      field_byte (by simp [frameStart_length]; omega)]
    simp
  rw [storeByte_whole (frameOf_eq kind tag p) length hp whole, checked, high, low, kindByte, tagByte, payload,
    if_pos (Nat.div_add_mod _ _).symm]

/-- The bytes of a frame, arriving in HUNTING at a module that works, come to the taking of what they spell. -/
theorem run_frame {s : State} (active : s.active = true) (hunting : s.link.rx = .hunting) (hk : kind < 256)
    (ht : tag < 256) (hp : p.length ≤ 200) :
    runCommands ((frameOf kind tag p).map .frameByteReceived) s =
      .next (serve kind tag p (s.receiving (frameOf kind tag p).dropLast)) := by
  have first : runCommands [.frameByteReceived 0xA7#8] s = .next (s.receiving [0xA7#8]) :=
    (runCommands_byte active _).trans (congrArg _ (receiveByte_lead hunting))
  have middle := runBytes_part (s := s) active (held := [0xA7#8]) (bytes := (frameStart kind tag p).tail) le_rfl
    ((frameStart_byte1 hp).trans_le hp) (by
      show (frameStart kind tag p).length < field (frameStart kind tag p) 1 1 + 6
      rw [frameStart_byte1 hp, frameStart_length]
      omega)
  have start : (frameStart kind tag p).map Instr.frameByteReceived =
      [.frameByteReceived 0xA7#8] ++ (frameStart kind tag p).tail.map .frameByteReceived := rfl
  rw [frameOf_dropLast, frameOf_eq, List.map_append, start, List.append_assoc, runCommands_append first,
    runCommands_append middle]
  exact (runCommands_byte (s := s.receiving _) active _).trans
    (congrArg _ ((receiveByte_receiving rfl _).trans (storeByte_frame hk ht hp s)))

end Frame

end Sys2Proof.Machine
end

section
/-! PROOFS. What the interface does with a discarded frame, with a frame of a bad form, and with a good one (R175 to
R177). -/

namespace Sys2Proof.Machine

/-! ## When the module works and takes requests (R175, R197) -/

theorem active_iff (s : State) : s.active = true ↔ s.unit.powered = true ∧ s.unit.inReset = false := by
  simp [State.active]

theorem listening_iff (s : State) :
    s.listening = true ↔ s.active = true ∧ s.unit.restartPending = false ∧ s.link.rx ≠ .answering := by
  simp [State.listening, and_assoc]

theorem active_of_listening {s : State} (listening : s.listening = true) : s.active = true :=
  ((listening_iff s).1 listening).1

theorem listening_receiving {s : State} (listening : s.listening = true) (buffer : List Byte) :
    (s.receiving buffer).listening = true := by
  obtain ⟨active, stays, -⟩ := (listening_iff s).1 listening
  exact (listening_iff _).2 ⟨active, stays, nofun⟩

/-! ## Discarded frames, and what a whole frame is answered (R175, R176, R177) -/

theorem exec_discards {c : Instr} (discards : c ∈ [Instr.frameDiscarded, .frameGapTimeout]) (s : State) :
    exec c s = .next (if s.active = true ∧ s.link.rx = .receiving then discardFrame s else s) := by
  rcases List.mem_pair.1 discards with rfl | rfl
  · exact congrArg Host.Outcome.next (if_congr (by simp) rfl rfl)
  · exact congrArg Host.Outcome.next (ite_and _ _ _ _).symm

theorem exec_unknownKindRequest {s : State} (listening : s.listening = true) {kind : Nat}
    (outside : payloadLength kind = none) (tag : Nat) :
    exec (.unknownKindRequest kind tag) s = .next (s.answered kind tag .unknownKind .empty) :=
  congrArg Host.Outcome.next (if_pos (by simp [listening, outside]))

section Serve

variable {kind tag : Nat} {p : List Byte} (s : State) (buffer : List Byte)

theorem serve_format (bad : checkForm kind p = .format) :
    serve kind tag p (s.receiving buffer) = s.answered kind tag .format .empty := by
  rw [serve, bad]
  rfl

theorem serve_unknownKind (outside : checkForm kind p = .unknownKind) :
    serve kind tag p (s.receiving buffer) = s.answered kind tag .unknownKind .empty := by
  rw [serve, outside]
  rfl

theorem serve_request {i : Instr} {f : State → State × Answer} (good : checkForm kind p = .request i)
    (owner : ownerOf i = some f) :
    serve kind tag p (s.receiving buffer) =
      respond kind tag (f (s.receiving buffer)).2 (f (s.receiving buffer)).1 := by
  simp only [serve, good, owner]

end Serve

/-! ## The request a payload spells -/

/-- A command that a payload spells is a request under that kind, taken to its owner. -/
theorem exec_encoded {c : Instr} {kind : Nat} {p : List Byte} (spells : encodeRequest c = some (kind, p)) :
    kind < 256 ∧ ∃ f, ownerOf c = some f ∧ ∀ s, exec c s = .next (request kind 0 f s) := by
  cases c <;> simp only [encodeRequest, Option.some.injEq, Prod.mk.injEq, reduceCtorEq] at spells <;>
    obtain ⟨rfl, -⟩ := spells <;> exact ⟨by decide, _, rfl, fun _ => rfl⟩

/-- A payload of the index fits a frame. -/
theorem payloadLength_le {kind n : Nat} (index : payloadLength kind = some n) : n ≤ 200 := by
  unfold payloadLength at index
  split at index <;> simp only [Option.some.injEq, reduceCtorEq] at index <;> omega

end Sys2Proof.Machine

open Sys2Proof Sys2Proof.Machine

/-- Settles O7: a byte by the receiving state, a bad frame by `run_frame` and what `serve` answers it. -/
theorem bytesAndDiscardsInEachReceivingState : Obligations.BytesAndDiscardsInEachReceivingState := by
  refine ⟨fun b s active => ?_, fun s => ⟨fun c discards => ?_, fun kind tag listening outside => ?_⟩,
    fun kind tag p s hk ht hp listening hunting => ?_⟩
  · rw [exec_byte active]
    refine ⟨?_, fun hunting stray => ?_, fun answering => ?_, fun receiving held long => ?_,
      fun receiving short part => ?_, fun n receiving length short whole bad => ?_⟩
    · rintro hunting rfl
      rw [receiveByte_lead hunting]
    · rw [receiveByte_stray hunting stray]
    · rw [receiveByte_answering answering]
    · rw [receiveByte_receiving receiving, storeByte_long rfl held long, discardFrame]
    · rw [receiveByte_receiving receiving, storeByte_part rfl short part]
    · rw [receiveByte_receiving receiving, storeByte_whole rfl length short whole, if_neg bad, discardFrame]
  · rw [exec_discards discards]
    exact ⟨fun active receiving => by rw [if_pos ⟨active, receiving⟩, discardFrame],
      fun other => by rw [if_neg fun both => other both.2]⟩
  · exact exec_unknownKindRequest listening outside tag
  · rw [run_frame (active_of_listening listening) hunting hk ht hp]
    exact ⟨fun bad => congrArg _ (serve_format s _ bad), fun outside => congrArg _ (serve_unknownKind s _ outside)⟩

/-- Settles O6: the bytes come to `serve`, which reads the request back by O4 and takes it to its owner. -/
theorem goodFrameIsTheRequestItSpells : Obligations.GoodFrameIsTheRequestItSpells := by
  intro i kind tag p s t fits spells ht listening hunting ran
  obtain ⟨good, index⟩ := encodedRequestReadsBackAsItself i kind p fits spells
  obtain ⟨hk, f, owner, requested⟩ := exec_encoded spells
  have reply : exec i (s.receiving (frameOf kind tag p).dropLast) = .next t := ran
  rw [requested, request, if_pos (listening_receiving listening _)] at reply
  cases reply
  rw [run_frame (active_of_listening listening) hunting hk ht (payloadLength_le index), serve_request s _ good owner]
  rfl
end

section
/-! PROOFS. The requests of the Plant Link Interface, and requests that are lost (R175, R184, R185, R187, R197). -/

namespace Sys2Proof.Machine

/-! ## FETCH_NOTICE (R184) -/

theorem fetchNotice_cons {s : State} {n : Notice} {rest : List Notice} (queue : s.link.notices = n :: rest) :
    fetchNotice s = takenWith (.notice s.link.overrun n)
      { s with
        link := { s.link with notices := rest, overrun := false }.setLines
        unit := { s.unit with storeLost := s.unit.storeLost && !decide (n.kind = .storeLost) } } := by
  simp only [fetchNotice, queue]

theorem fetchNotice_nil {s : State} (queue : s.link.notices = []) :
    fetchNotice s =
      takenWith (.notice s.link.overrun Notice.nothing) { s with link := { s.link with overrun := false } } := by
  simp only [fetchNotice, queue]

/-! ## SET_NOTICE_MASK, SET_CLOCK and the clock (R185, R187) -/

theorem setNoticeMask_choices (f p : Bool) (s : State) :
    setNoticeMask f.toNat p.toNat s =
      taken { s with link := { s.link with maskFault := f, maskProgress := p }.setLines } := by
  simp only [setNoticeMask, choiceOf_byte]

theorem setNoticeMask_range {f p : Nat} (bad : 1 < f ∨ 1 < p) (s : State) :
    setNoticeMask f p s = refuse .range s := by
  rcases bad with bad | bad
  · simp only [setNoticeMask, choiceOf_of_one_lt bad]
  · cases fault : choiceOf f <;> simp only [setNoticeMask, fault, choiceOf_of_one_lt bad]

theorem setClock_word {v : Nat} (word : v < 4294967296) (s : State) :
    setClock v s = takenWith (.clockBefore s.link.clock) { s with link := { s.link with clock := v } } := by
  rw [setClock, show v % Config.clockModulus = v from Nat.mod_eq_of_lt word]
  rfl

theorem advanceClock_word {s : State} (word : s.link.clock ≤ 4294967295) :
    advanceClock s = { s with link := { s.link with
      clock := if s.link.clock = 4294967295 then 0 else s.link.clock + 1 } } := by
  have next : (s.link.clock + 1) % Config.clockModulus =
      if s.link.clock = 4294967295 then 0 else s.link.clock + 1 := by
    rw [Config.clockModulus]
    split <;> omega
  rw [advanceClock, next]

/-! ## Requests that are lost, and the end of a reply (R175, R197) -/

section Lost

variable {s : State} (deaf : s.listening = false)

include deaf

theorem request_lost {c : Instr} (encoded : (encodeRequest c).isSome = true) : exec c s = .next s := by
  obtain ⟨⟨kind, p⟩, spells⟩ := Option.isSome_iff_exists.1 encoded
  obtain ⟨-, f, -, requested⟩ := exec_encoded spells
  rw [requested, request, if_neg (Bool.eq_false_iff.1 deaf)]

theorem unknownKind_lost (kind tag : Nat) : exec (.unknownKindRequest kind tag) s = .next s :=
  congrArg Host.Outcome.next (if_neg (by simp [deaf]))

end Lost

theorem frameByte_lost {s : State} (held : s.active = false) (b : Byte) : exec (.frameByteReceived b) s = .next s :=
  congrArg Host.Outcome.next (if_neg (Bool.eq_false_iff.1 held))

theorem replySent_ends {s : State} (active : s.active = true) (answering : s.link.rx = .answering) :
    exec .replySent s = .next (replyEnds s) :=
  congrArg Host.Outcome.next (if_pos (by simp [active, answering]))

theorem replySent_idle {s : State} (idle : s.link.rx ≠ .answering) : exec .replySent s = .next s :=
  congrArg Host.Outcome.next (if_neg (by simp [idle]))

theorem replyEnds_hunting {s : State} (stays : s.unit.restartPending = false) :
    replyEnds s = { s with link := { s.link with rx := .hunting, buffer := [], reply := none } } :=
  if_neg (Bool.eq_false_iff.1 stays)

end Sys2Proof.Machine

open Sys2Proof Sys2Proof.Machine

/-- Settles O9: by the two cases of the queue. -/
theorem fetchReturnsTheHeadNotice : Obligations.FetchReturnsTheHeadNotice := by
  intro s listening
  refine ⟨fun n rest queue => ?_, fun queue => takenWith_of rfl listening (fetchNotice_nil queue)⟩
  exact ⟨_, _, takenWith_of rfl listening (fetchNotice_cons queue), Link.linesRight_setLines _⟩

/-- Settles O10: each owner is read at a good and at a bad operand, and the clock at its last value. -/
theorem masksAndClockAreSetAndTheClockAdvances : Obligations.MasksAndClockAreSetAndTheClockAdvances := by
  intro s
  refine ⟨fun listening => ⟨fun f p => ?_, fun f p bad => ?_, fun v word => ?_⟩, fun powered word => ?_⟩
  · exact ⟨_, _, taken_of rfl listening (setNoticeMask_choices f p s), Link.linesRight_setLines _⟩
  · exact refused_of rfl listening (setNoticeMask_range bad s)
  · exact takenWith_of rfl listening (setClock_word word s)
  · exact congrArg Host.Outcome.next ((if_pos powered).trans (advanceClock_word word))

/-- Settles O11: a request is lost by the test of `listening`, and a reply ends by the test for a RESTART. -/
theorem requestsAreLostAndRepliesEnd : Obligations.RequestsAreLostAndRepliesEnd := by
  refine ⟨fun c s => ⟨active_iff s, listening_iff s, fun deaf => ?_⟩,
    fun s => ⟨fun listening => taken_of rfl listening rfl, fun active stays answering => ?_, replySent_idle⟩⟩
  · exact ⟨request_lost deaf, unknownKind_lost deaf, fun b held => frameByte_lost held b⟩
  · rw [replySent_ends active answering, replyEnds_hunting stays]
end

section
/-! PROOFS. The calibration lock: what a command can do to the Settings Store, said once, and what the lock holds of it
(R193, R194). -/

namespace Sys2Proof.Machine

/-! ## What a command can do to the Settings Store -/

/-- `t` has the Settings Store of `s`, or as the owner of a request leaves it. -/
def SettingsServed (s t : State) : Prop :=
  t.settings = s.settings ∨ ∃ i f, ownerOf i = some f ∧ t.settings = (f s).1.settings

theorem request_settingsServed {i : Instr} {f : State → State × Answer} (owner : ownerOf i = some f) (kind tag : Nat)
    (s : State) : SettingsServed s (request kind tag f s) := by
  unfold request
  split
  · exact .inr ⟨i, f, owner, rfl⟩
  · exact .inl rfl

theorem serve_settingsServed (kind tag : Nat) (payload : List Byte) (s : State) :
    SettingsServed s (serve kind tag payload s) := by
  unfold serve
  split
  · exact .inl rfl
  · exact .inl rfl
  · split
    next owner => exact .inr ⟨_, _, owner, rfl⟩
    next => exact .inl rfl

theorem receiveByte_settingsServed (b : Byte) (s : State) : SettingsServed s (receiveByte b s) := by
  unfold receiveByte
  split
  · split <;> exact .inl rfl
  · unfold storeByte
    dsimp only
    split
    · exact .inl rfl
    · split
      · split
        · exact serve_settingsServed ..
        · exact .inl rfl
      · exact .inl rfl
  · exact .inl rfl

/-- A command reset leaves the Settings Store (R197). -/
theorem replyEnds_settings (s : State) : (replyEnds s).settings = s.settings := by
  unfold replyEnds
  split
  · exact startUp_settings .restart (endWork s)
  · rfl

/-- Of the commands SUPPLY_ON and the requests alone can change the Settings Store. -/
theorem exec_settingsServed {c : Instr} {s t : State} (supplied : ∀ fast single key, c ≠ .supplyOn fast single key)
    (ht : exec c s = .next t) : SettingsServed s t := by
  /- What acts under a condition, and leaves the Settings Store. -/
  have under {p : Prop} [Decidable p] {u v : State} (hu : u.settings = s.settings) (hv : v.settings = s.settings) :
      SettingsServed s (if p then u else v) := .inl (by split <;> assumption)
  rcases command_cases c with ⟨f, hf⟩ | ⟨e, he⟩ | ⟨k, tag, rfl⟩ | rfl | rfl | rfl | ⟨f, l, k, rfl⟩ | rfl | rfl | rfl |
    ⟨h, rfl⟩ | ⟨h, rfl⟩ | ⟨b, rfl⟩ | ⟨x, rfl⟩
  case inl =>
    obtain ⟨kind, taken⟩ := exec_owner hf s
    obtain rfl := Host.Outcome.next.inj (taken.symm.trans ht)
    exact request_settingsServed hf kind 0 s
  case inr.inl =>
    obtain rfl := Host.Outcome.next.inj ((exec_event he s).symm.trans ht)
    exact under (by simp [effect_settings he]) rfl
  all_goals cases ht
  · exact under rfl rfl
  · exact under rfl rfl
  · exact .inl (by (repeat' split) <;> rfl)
  · exact under (replyEnds_settings s) rfl
  · exact absurd rfl (supplied f l k)
  · exact under rfl rfl
  · exact under (startUp_settings .input (endWork s)) rfl
  · exact under rfl rfl
  · exact under (by simp) (by simp [holdLevel])
  · exact under (by simp) (by simp [holdLevel])
  · split
    · exact receiveByte_settingsServed b s
    · exact .inl rfl
  · exact under rfl rfl

/-! ## Under the lock -/

/-- The calibration values of `t` are those of `s`, and the lock of `t` is set (R193). -/
def LockHolds (s t : State) : Prop := t.calibration = s.calibration ∧ t.settings.lock = true

theorem lockHolds_of_settings {s t : State} (locked : s.settings.lock = true) (same : t.settings = s.settings) :
    LockHolds s t :=
  ⟨congrArg (fun x => x.values.take 8) same, (congrArg Settings.lock same).trans locked⟩

/-- The first eight values stand where an id above 8 is written. -/
theorem lockHolds_putSetting {id : Nat} {s : State} (locked : s.settings.lock = true) (other : 8 < id) (v : Int) :
    LockHolds s (putSetting id v s) := by
  refine ⟨?_, locked⟩
  change (s.settings.values.set (id - 1) v).take 8 = s.settings.values.take 8
  rw [List.take_set, List.set_eq_of_length_le]
  rw [List.length_take]
  omega

theorem LockHolds.congr {s t u : State} (ht : LockHolds s t) (same : u.settings = t.settings) : LockHolds s u := by
  obtain ⟨calibration, lock⟩ := ht
  obtain ⟨calibration', lock'⟩ := lockHolds_of_settings lock same
  exact ⟨calibration'.trans calibration, lock'⟩

/-- WRITE_SETTING of a calibration value is refused LOCKED, and of every other id leaves the calibration values. -/
theorem writeSetting_lockHolds {s : State} (locked : s.settings.lock = true) (id : Nat) (v : Int) :
    LockHolds s (writeSetting id v s).1 := by
  have refused : LockHolds s s := ⟨rfl, locked⟩
  by_cases unknown : id = 0 ∨ 37 < id
  · rw [writeSetting_unknown unknown]
    exact refused
  by_cases calibration : id ≤ 8
  · rw [writeSetting_locked (by omega) calibration locked]
    exact refused
  have put := lockHolds_putSetting locked (id := id) (by omega)
  by_cases window : id = 25
  · subst window
    rw [writeSetting_window]
    split
    · exact put v
    · exact refused
  · rw [writeSetting_checked (by omega) (by omega) window (.inl (by omega))]
    split
    · exact refused
    · refine (put (storedValue id v)).congr ?_
      rw [takenWith_fst]
      split
      · simp
      · rfl

/-- WRITE_CLASS writes the class records alone. -/
theorem writeClass_lockHolds {s : State} (locked : s.settings.lock = true) (table number f1 f2 f3 f4 f5 f6 : Nat) :
    LockHolds s (writeClass table number f1 f2 f3 f4 f5 f6 s).1 := by
  unfold writeClass
  dsimp only
  (repeat' split) <;> exact ⟨rfl, locked⟩

theorem owner_lockHolds {i : Instr} {f : State → State × Answer} {s : State} (owner : ownerOf i = some f)
    (locked : s.settings.lock = true) : LockHolds s (f s).1 := by
  by_cases hw : ∃ id v, i = .writeSetting id v
  · obtain ⟨id, v, rfl⟩ := hw
    cases owner
    exact writeSetting_lockHolds locked id v
  by_cases hc : ∃ t n a b c d e g, i = .writeClass t n a b c d e g
  · obtain ⟨t, n, a, b, c, d, e, g, rfl⟩ := hc
    cases owner
    exact writeClass_lockHolds locked t n a b c d e g
  by_cases hl : i = .lockCalibration
  · subst hl
    cases owner
    exact ⟨rfl, rfl⟩
  push Not at hw hc
  exact lockHolds_of_settings locked (owner_settings owner s hw hc hl)

theorem exec_lockHolds {c : Instr} {s t : State} (locked : s.settings.lock = true)
    (supplied : ∀ fast single key, c ≠ .supplyOn fast single key) (ht : exec c s = .next t) : LockHolds s t := by
  rcases exec_settingsServed supplied ht with same | ⟨i, f, owner, same⟩
  · exact lockHolds_of_settings locked same
  · exact (owner_lockHolds owner locked).congr same

/-- SUPPLY_ON with a good store leaves the calibration values, and the lock but for the key (R193, R194). -/
theorem powerUp_of_checkGood (fast single key : Bool) {s : State} (good : s.unit.checkGood = true)
    (locked : s.settings.lock = true) :
    (powerUp fast single key s).calibration = s.calibration ∧
      (key = false → (powerUp fast single key s).settings.lock = true) := by
  have store := powerUp_settings fast single key s
  rw [if_pos good] at store
  refine ⟨congrArg (fun x => x.values.take 8) store, ?_⟩
  rintro rfl
  exact (congrArg Settings.lock store).trans locked

theorem tick_settings (s : State) : (tick s).settings = s.settings := by
  unfold tick
  (repeat' split) <;> rfl

end Sys2Proof.Machine

open Sys2Proof Sys2Proof.Machine

/-- Settles O56: under the lock no owner writes a calibration value or the lock, and no other command but SUPPLY_ON
writes to the Settings Store. -/
theorem calibrationHoldsUnderTheLock : Obligations.CalibrationHoldsUnderTheLock := by
  intro s t locked ht
  unfold step at ht
  split at ht
  next =>
    obtain rfl := Host.Outcome.next.inj ht
    obtain ⟨calibration, lock⟩ := lockHolds_of_settings locked (tick_settings s)
    exact ⟨fun _ => calibration, fun _ => lock⟩
  next c rest queue =>
    rw [queue, List.head?_cons]
    by_cases supply : ∃ fast single key, c = .supplyOn fast single key
    · obtain ⟨fast, single, key, rfl⟩ := supply
      obtain rfl := Host.Outcome.next.inj ht
      have kept (good : s.unit.checkGood = true) :=
        powerUp_of_checkGood fast single key (s := { s with pending := rest }) good locked
      refine ⟨fun excepted => ?_, fun excepted => ?_⟩
      · obtain ⟨calibration, -⟩ := kept (excepted.resolve_left fun other => other fast single key rfl)
        exact calibration
      · obtain ⟨good, released⟩ := excepted fast single key rfl
        obtain ⟨-, lock⟩ := kept good
        exact lock released
    · push Not at supply
      obtain ⟨calibration, lock⟩ := exec_lockHolds (s := { s with pending := rest }) locked supply ht
      exact ⟨fun _ => calibration, fun _ => lock⟩
end

section
/-! PROOFS. The command resets, and their start-up (R197, R198, R199). -/

namespace Sys2Proof.Machine

/-! ## What a start-up reaches, from the end of all work -/

theorem startUp_reaches_eight (k : ResetKind) {s : State} (whole : ¬ s.interrupted ∨ s.unit.overtaken = none) :
    StartUpReaches k 8 s (startUp k (endWork s)) := by
  rw [startUp_ends (overtaking_of_whole whole)]
  exact startedTo_reaches _ _ (by decide) le_rfl

theorem startUp_reaches_overtaken (k : ResetKind) {s : State} {i : Fin 7} (waits : s.interrupted)
    (drawn : s.unit.overtaken = some i) : StartUpReaches k (i.val + 1) s (startUp k (endWork s)) := by
  rw [startUp_overtaken (overtaking_of_interrupted waits drawn)]
  exact startedTo_reaches _ _ (by omega) (by omega)

/-! ## The two command resets -/

theorem replyEnds_restart {s : State} (restart : s.unit.restartPending = true) :
    replyEnds s = startUp .restart (endWork s) :=
  if_pos restart

theorem resetInputReleased_starts {s : State} (powered : s.unit.powered = true) (inReset : s.unit.inReset = true)
    (starting : s.unit.starting = none) : exec .resetInputReleased s = .next (startUp .input (endWork s)) :=
  congrArg Host.Outcome.next (if_pos (by simp [powered, inReset, starting]))

theorem resetInputReleased_idle {s : State}
    (idle : s.unit.powered = false ∨ s.unit.inReset = false ∨ s.unit.starting ≠ none) :
    exec .resetInputReleased s = .next s := by
  refine congrArg Host.Outcome.next (if_neg ?_)
  rcases idle with off | working | starting
  · simp [off]
  · simp [working]
  · simp [starting]

end Sys2Proof.Machine

open Sys2Proof Sys2Proof.Machine

/-- Settles O13: both command resets start up from the end of all work. -/
theorem commandResetKeepsWhatTheManualKeeps : Obligations.CommandResetKeepsWhatTheManualKeeps := by
  intro s c k
  refine ⟨fun reset => ?_, resetInputReleased_idle⟩
  have ran : exec c s = .next (startUp k (endWork s)) := by
    rcases reset with ⟨rfl, rfl, active, answering, restart⟩ | ⟨rfl, rfl, powered, inReset, starting⟩
    · rw [replySent_ends active answering, replyEnds_restart restart]
    · exact resetInputReleased_starts powered inReset starting
  exact ⟨fun whole => ⟨_, ran, startUp_reaches_eight k whole⟩,
    fun i waits drawn => ⟨_, ran, startUp_reaches_overtaken k waits drawn⟩⟩
end

section
/-! PROOFS. The state after reset meets the laws that the steps keep, and its settings are the table's (R190). -/

namespace Sys2Proof.Machine

/-! ## The laws -/

theorem not_mem_reset_loads (r : LoadRec) : r ∉ State.reset.records.loads := List.not_mem_nil

theorem reset_tablesLawful : State.reset.tablesLawful := by
  unfold State.tablesLawful
  decide

/-- No load is IN_CYCLE and both hoists are IDLE. -/
theorem reset_carryLawful : State.reset.carryLawful := by
  refine ⟨fun r member => absurd member (not_mem_reset_loads r), fun r member => absurd member (not_mem_reset_loads r),
    fun _ h member => ?_⟩
  revert h
  decide

/-- Of the two notices after reset STORE_LOST asserts line F and RESTARTED line P. -/
theorem reset_noticesLawful : State.reset.noticesLawful := by
  unfold State.noticesLawful Link.linesRight
  decide

theorem reset_zonesLawful : State.reset.zonesLawful := fun _ _ => ⟨Nat.zero_le 1, fun _ => nofun⟩

theorem reset_runwayLawful : State.reset.runwayLawful := nofun

theorem reset_claimsLawful : State.reset.claimsLawful :=
  ⟨List.nodup_nil, List.nodup_nil, nofun, fun _ _ _ => ⟨nofun, nofun⟩⟩

theorem reset_loadsLawful : State.reset.loadsLawful := fun r member => absurd member (not_mem_reset_loads r)

theorem reset_windowLawful : State.reset.windowLawful := Nat.zero_le 64

theorem reset_booksLawful : State.reset.booksLawful := by
  unfold State.booksLawful Period.lawful Period.balances
  decide

end Sys2Proof.Machine

open Sys2Proof Sys2Proof.Machine

/-- Settles O60: law by law, the tables of the state after reset being empty; and row by row of the table of R190. -/
theorem resetMeetsEveryLaw : Obligations.ResetMeetsEveryLaw := by
  refine ⟨⟨reset_tablesLawful, reset_carryLawful, reset_noticesLawful, startsLawful_of_starting rfl, reset_zonesLawful,
    reset_runwayLawful, reset_claimsLawful, reset_loadsLawful, reset_windowLawful, reset_settingsLawful,
    reset_booksLawful⟩, by decide, fun s id => ⟨rfl, fun other => ?_⟩, by decide, by decide, by decide, by decide,
    by decide⟩
  exact settingRange_congr fun twelve => absurd twelve other
end
